-- ==== Sys2Proof/Word.lean ====
section
/-! DEFINITION. The device word of 36 bits, the byte, the 72-bit time stamp and the 64-bit zone mask (spec/00_scope.md). -/

namespace Sys2Proof

/-- The device word (spec/00_scope.md, "Numbers, bits and units"). -/
abbrev Word := BitVec 36

/-- One byte of a byte-wide interface (R6). -/
abbrev Byte := BitVec 8

/-- A value of the 72-bit timebase, in ticks of 250 ps (R3). -/
abbrev Stamp := BitVec 72

/-- A zone mask: bit z selects zone z (R44). -/
abbrev Zones := BitVec 64

end Sys2Proof
end

