-- ==== Sys2Proof/Machine/Bits.lean ====
section
/-! DEFINITION. Bit fields, sign extension and byte order (R5 to R8, R44, R549). -/

namespace Sys2Proof.Machine

/-- Bits hi:lo of a number. -/
def fieldN (n hi lo : Nat) : Nat := (n >>> lo) % 2 ^ (hi + 1 - lo)

/-- Bits hi:lo of a word, as a number. -/
def field (w : Word) (hi lo : Nat) : Nat := fieldN w.toNat hi lo

/-- Bit i of a word. -/
def bit (w : Word) (i : Nat) : Bool := w.getLsbD i

/-- A word that holds `v` in bits hi:lo (cut to the field) and zero elsewhere. -/
def place (hi lo v : Nat) : Word := BitVec.ofNat 36 ((v % 2 ^ (hi + 1 - lo)) <<< lo)

/-- A word of ones in bits hi:lo. -/
def fieldMask (hi lo : Nat) : Word := place hi lo (2 ^ (hi + 1 - lo) - 1)

/-- Replace bits hi:lo of a word. -/
def setField (w : Word) (hi lo v : Nat) : Word := (w &&& ~~~ fieldMask hi lo) ||| place hi lo v

/-- One for true. -/
def b2n (b : Bool) : Nat := if b then 1 else 0

/-- The low word of a 72-bit value (R5). -/
def loWord (t : Stamp) : Word := t.setWidth 36

/-- The high word of a 72-bit value (R5). -/
def hiWord (t : Stamp) : Word := (t >>> 36).setWidth 36

/-- A 72-bit value from its words (R5). -/
def joinWords (lo hi : Word) : Stamp := hi ++ lo

/-- The low word of a zone mask (R44). -/
def zLo (z : Zones) : Word := z.setWidth 36

/-- The high word of a zone mask (R44). -/
def zHi (z : Zones) : Word := (z >>> 36).setWidth 36

/-- A zone mask from its words; bits 35:28 of the high word are reserved (R44). -/
def zJoin (lo hi : Word) : Zones := BitVec.ofNat 64 (lo.toNat + 2 ^ 36 * (hi.toNat % 2 ^ 28))

/-- The mask of one zone. -/
def zone (z : Nat) : Zones := BitVec.ofNat 64 (2 ^ z)

/-- The zones of a mask in ascending order. -/
def zoneList (m : Zones) : List Nat := (List.range 64).filter (fun z => m.getLsbD z)

/-- The union of a list of zone masks. -/
def zUnion (l : List Zones) : Zones := l.foldl (· ||| ·) 0

/-- The reduced mask of R549: zone rows in bits 7:0, zone columns in bits 15:8, number of zones in bits 22:16. -/
def reducedMask (m : Zones) : Nat :=
  let zs := zoneList m
  let rows := (List.range 8).foldl (fun a r => if zs.any (fun z => z / 8 == r) then a + 2 ^ r else a) 0
  let cols := (List.range 8).foldl (fun a c => if zs.any (fun z => z % 8 == c) then a + 2 ^ c else a) 0
  rows + cols <<< 8 + zs.length <<< 16

/-- The value of the low `w` bits of `n` as a two's complement number. -/
def sext (w n : Nat) : Int :=
  let m := n % 2 ^ w
  if m < 2 ^ (w - 1) then (m : Int) else (m : Int) - (2 ^ w : Nat)

/-- A number as a two's complement field of `w` bits. -/
def toField (w : Nat) (i : Int) : Nat := (i % (2 ^ w : Nat)).toNat

/-- Saturating increment of a 36-bit counter. -/
def satInc (w : Word) : Word := if w = BitVec.allOnes 36 then w else w + 1

/-- Saturating addition to a 36-bit counter. -/
def satAdd (w : Word) (n : Nat) : Word := BitVec.ofNat 36 (min (w.toNat + n) (2 ^ 36 - 1))

/-- Five bytes of a word, least significant first; the high nibble of the fifth is zero (R6). -/
def wordBytes (w : Word) : List Byte :=
  (List.range 5).map (fun i => BitVec.ofNat 8 (w.toNat >>> (8 * i)))

/-- A number from bytes, least significant first. -/
def bytesNat : List Byte → Nat
  | [] => 0
  | b :: bs => b.toNat + 256 * bytesNat bs

/-- A word from five bytes; the high nibble of the fifth is ignored (R7). -/
def bytesWord (bs : List Byte) : Word := BitVec.ofNat 36 (bytesNat (bs.take 5))

/-- `n` bytes of a number, least significant first. -/
def natBytes : Nat → Nat → List Byte
  | 0, _ => []
  | n + 1, v => BitVec.ofNat 8 v :: natBytes n (v / 256)

/-- Two words packed in nine bytes (R8). -/
def packBytes (a b : Word) : List Byte := natBytes 9 (a.toNat + 2 ^ 36 * b.toNat)

/-- Cut a list into groups of `n` (structural in fuel). -/
def chunks {α : Type} (n : Nat) : Nat → List α → List (List α)
  | 0, _ => []
  | _ + 1, [] => []
  | fuel + 1, l => l.take n :: chunks n fuel (l.drop n)

/-- Move a value towards its target by at most a step; a step of zero moves it at once (R485). -/
def moveTowards (step : Nat) (v target : Int) : Int :=
  if step = 0 then target
  else if v < target then min (v + (step : Int)) target
  else max (v - (step : Int)) target

/-- Replace element `i` of a list. -/
def setNth {α : Type} (l : List α) (i : Nat) (v : α) : List α := l.set i v

/-- Change element `i` of a list. -/
def modNth {α : Type} (l : List α) (i : Nat) (f : α → α) : List α :=
  match l, i with
  | [], _ => []
  | x :: xs, 0 => f x :: xs
  | x :: xs, i + 1 => x :: modNth xs i f

/-- Whether an output pulse that ends at `till` still runs at tick `t` (R289, R387). -/
def pulseRuns (till : Option Nat) (t : Nat) : Bool := till.any (fun e => decide (t < e))

end Sys2Proof.Machine
end

