-- ==== Sys2Proof/Machine/Crc.lean ====
section
/-! DEFINITION. Cyclic redundancy checks (R245, R365, R488). -/

namespace Sys2Proof.Machine

/-- Feed `n` bits of a number, least significant first, to the CRC-32 of R245; bit 0 of the register holds the coefficient of x^31. -/
def crc32Bits : Nat → Nat → Nat → Nat
  | 0, _, r => r
  | n + 1, v, r => crc32Bits n (v / 2) (if (v + r) % 2 = 1 then (r / 2) ^^^ 0xEDB88320 else r / 2)

/-- The CRC-32 of the low `n` bits of a number (R245): preset to ones, complemented, the coefficient of x^31 in bit 0. -/
def crc32 (n v : Nat) : Nat := 0xFFFFFFFF - crc32Bits n v 0xFFFFFFFF

/-- The CRC-32 of bytes, each fed from its bit 0 (R488). -/
def crc32Bytes (l : List Byte) : Nat :=
  0xFFFFFFFF - l.foldl (fun r b => crc32Bits 8 b.toNat r) 0xFFFFFFFF

end Sys2Proof.Machine
end

