-- ==== Sys2Proof/Config.lean ====
section
/-! DEFINITION. What an implementation fixes and the spec leaves open: free values, opaque constants without a body. A free value
is applied to the counter `free` of the state, which the step that reads it advances, or to the operands it depends on. -/

namespace Sys2Proof

/-- A value the spec leaves open, drawn by counter (notes/assumptions/3.md). -/
opaque Config.freeNat : Nat → Nat

/-- A word the spec leaves open, drawn by counter (notes/assumptions/3.md). -/
opaque Config.freeWord : Nat → Word

/-- The electrons that steep number `q` brings to the pixel at a physical row and column: the light is not the spec's to give (notes/assumptions/178.md). -/
opaque Config.steepCharge (q row col : Nat) : Nat

/-- The electrons that dark current and parasitic light have brought to the pixel of a node at a physical row and column by the step 3 numbered `k` of its
row: temperature and light are not the spec's to give (R38, R39, notes/assumptions/178.md). -/
opaque Config.storedCharge (k row col : Nat) : Nat

/-- How far below the top of the range, in 1/256 LSB, a converter of a bank goes over to the over-range code in the pour that started at a tick (R120). -/
opaque Config.overTransition (start bank conv : Nat) : Nat

/-- Which of the equally short infusions of a pixel is the source of a SAT_ALL result (R185), by its place among them. -/
opaque Config.shortestSource (infs : List Nat) : Nat

/-- The temporal noise of a converter on dark rows, from its dark samples of the usable pour before and of this one: the spec names no estimator (R126). -/
opaque Config.temporalNoise (before now : List Nat) : Nat

/-- The unique device identifier, fused at manufacture (R494). -/
opaque Config.uid : BitVec 60

/-- The attestation private key AK, fused at manufacture (R494). -/
opaque Config.ak : Nat

/-- The public key Q, fused beside AK (R494). -/
opaque Config.akPublic : Nat × Nat

end Sys2Proof
end

