-- ==== Sys2Proof/Machine/Events.lean ====
section
/-! DEFINITION. Event codes of spec/19_boot_configuration_and_faults.md, R521: 16 times the group plus the position. -/

namespace Sys2Proof.Machine

abbrev Ev.BAD_ADDRESS : Nat := 0x00
abbrev Ev.CONFLICT : Nat := 0x01
abbrev Ev.SECURE_LOCKED : Nat := 0x02
abbrev Ev.SLOT_OVERRUN : Nat := 0x03
abbrev Ev.SEQ_FAULT : Nat := 0x04
abbrev Ev.TX_MISUSE : Nat := 0x05
abbrev Ev.TX_ABORT : Nat := 0x06
abbrev Ev.LOCK_BROKEN : Nat := 0x07
abbrev Ev.LOCK_MISUSE : Nat := 0x08
abbrev Ev.FIRE_UNARMED : Nat := 0x10
abbrev Ev.NODE_BUSY : Nat := 0x11
abbrev Ev.ARM_INVALID : Nat := 0x12
abbrev Ev.ARM_OVERLAP : Nat := 0x13
abbrev Ev.FIRE_EARLY : Nat := 0x14
abbrev Ev.PUMP_LOW : Nat := 0x15
abbrev Ev.FRAME_MEMBER : Nat := 0x16
abbrev Ev.FRAME_INVALID : Nat := 0x17
abbrev Ev.FRAME_BLOCKED : Nat := 0x18
abbrev Ev.FRAME_TIMING : Nat := 0x19
abbrev Ev.FRAME_SKIPPED : Nat := 0x1A
abbrev Ev.FRAME_IDLE_CLOSE : Nat := 0x1B
abbrev Ev.CNV_FAIL : Nat := 0x20
abbrev Ev.CNV_BANK_FAULT : Nat := 0x21
abbrev Ev.CNV_EDGE_FAIL : Nat := 0x22
abbrev Ev.CNV_SUBSTITUTED : Nat := 0x23
abbrev Ev.CNV_SPARES_EXHAUSTED : Nat := 0x24
abbrev Ev.RDO_BACKLOG : Nat := 0x25
abbrev Ev.POUR_REFUSED : Nat := 0x26
abbrev Ev.WIN_INVALID : Nat := 0x27
abbrev Ev.PIP_CLAMP_FALLBACK : Nat := 0x30
abbrev Ev.DMAP_INVALID : Nat := 0x31
abbrev Ev.PIP_INF_ABSENT : Nat := 0x32
abbrev Ev.PIP_KNEE_INVALID : Nat := 0x33
abbrev Ev.MEM_RANGE : Nat := 0x40
abbrev Ev.MEM_CE : Nat := 0x41
abbrev Ev.MEM_UE : Nat := 0x42
abbrev Ev.MEM_REMAP : Nat := 0x43
abbrev Ev.MEM_SPARES_EXHAUSTED : Nat := 0x44
abbrev Ev.MEM_REGION_REFUSED : Nat := 0x45
abbrev Ev.MEM_RING_FULL : Nat := 0x46
abbrev Ev.MEM_STARVE : Nat := 0x47
abbrev Ev.LINK_UNDERRUN : Nat := 0x50
abbrev Ev.LINK_AREA_BAD : Nat := 0x51
abbrev Ev.LINK_TRAIN_FAIL : Nat := 0x52
abbrev Ev.LINK_SPARED : Nat := 0x53
abbrev Ev.LINK_DEGRADED : Nat := 0x54
abbrev Ev.LINK_DOWN : Nat := 0x55
abbrev Ev.LINK_LANE_FAIL : Nat := 0x56
abbrev Ev.TB_STEP : Nat := 0x60
abbrev Ev.TB_LOCKED : Nat := 0x61
abbrev Ev.TIM_BUSY : Nat := 0x62
abbrev Ev.CLK_LOCK_FAIL : Nat := 0x63
abbrev Ev.CLK_REF_LOST : Nat := 0x64
abbrev Ev.CLK_UNLOCK : Nat := 0x65
abbrev Ev.CLK_RELOCK : Nat := 0x66
abbrev Ev.FAB_TRAIN_FAIL : Nat := 0x70
abbrev Ev.FAB_PORT_LOST : Nat := 0x71
abbrev Ev.FAB_MASTER_CHANGE : Nat := 0x72
abbrev Ev.FAB_TOO_FAR : Nat := 0x73
abbrev Ev.FAB_HOLDOVER : Nat := 0x74
abbrev Ev.FAB_REROUTE : Nat := 0x75
abbrev Ev.FAB_DUP_ID : Nat := 0x76
abbrev Ev.FAB_SCHED_DROP : Nat := 0x77
abbrev Ev.FAB_SCHED_LATE : Nat := 0x78
abbrev Ev.FAB_RX_DROP : Nat := 0x79
abbrev Ev.HST_BAD_CMD : Nat := 0x80
abbrev Ev.MGT_ADDR_INVALID : Nat := 0x81
abbrev Ev.MGT_BUS_ERROR : Nat := 0x82
abbrev Ev.MGT_STUCK : Nat := 0x83
abbrev Ev.MON_RANGE : Nat := 0x90
abbrev Ev.MON_NOSTART : Nat := 0x91
abbrev Ev.MON_DISAGREE : Nat := 0x92
abbrev Ev.KTL_BLIND : Nat := 0x93
abbrev Ev.KTL_STATE : Nat := 0x94
abbrev Ev.KTL_ENFORCE : Nat := 0x95
abbrev Ev.KTL_CRIT : Nat := 0x96
abbrev Ev.CAL_OVERDUE : Nat := 0xA0
abbrev Ev.CAL_REJECT : Nat := 0xA1
abbrev Ev.CAL_STORE_FAIL : Nat := 0xA2
abbrev Ev.CAL_STORE : Nat := 0xA3
abbrev Ev.SEC_FUSE : Nat := 0xB0
abbrev Ev.SEC_SIG_FAIL : Nat := 0xB1
abbrev Ev.SEC_REKEY : Nat := 0xB2
abbrev Ev.SEC_TAG_FAIL : Nat := 0xB3
abbrev Ev.SEC_ATTEST : Nat := 0xB4
abbrev Ev.SUPPLY_FAULT : Nat := 0xC0
abbrev Ev.BOOT_STEP_FAIL : Nat := 0xC1
abbrev Ev.BOOT_FALLBACK : Nat := 0xC2
abbrev Ev.BOOT_SKIP : Nat := 0xC3
abbrev Ev.MAINTENANCE : Nat := 0xC4
abbrev Ev.NVM_COMMIT : Nat := 0xC5
abbrev Ev.NVM_COMMIT_FAIL : Nat := 0xC6

end Sys2Proof.Machine
end

