-- ==== Sys2Proof/Machine/RegMap.lean ====
section
/-! DEFINITION. The control space as spec/20_register_index.md lays it out: one name per register address, and one row per
register with its address run, its writable bits, its write-one-to-clear bits, whether a read clears it, and its reset value. -/

namespace Sys2Proof.Machine

abbrev R.ID_DEVICE : Nat := 0x0
abbrev R.ID_REVISION : Nat := 0x1
abbrev R.ID_PROFILE : Nat := 0x2
abbrev R.ID_PROFILE_APPLY : Nat := 0x3
abbrev R.ID_CONFLICT_LAST : Nat := 0x4
abbrev R.ID_SUPPRESS : Nat := 0x5
abbrev R.PWR_STATE : Nat := 0x1000
abbrev R.PWR_CTRL : Nat := 0x1001
abbrev R.PWR_FAULT : Nat := 0x1002
abbrev R.PWR_RAILS : Nat := 0x1003
abbrev R.SEC_STATUS : Nat := 0x2000
abbrev R.SEC_CTRL : Nat := 0x2001
abbrev R.SEC_UID_LO : Nat := 0x2002
abbrev R.SEC_UID_HI : Nat := 0x2003
abbrev R.SEC_SESSION : Nat := 0x2004
abbrev R.SEC_TAG_COUNT : Nat := 0x2005
abbrev R.SEC_FUSE_CTRL : Nat := 0x2008
abbrev R.SEC_FUSE_DATAj (i : Nat) : Nat := 0x2010 + i
abbrev R.SEC_ATT_CTRL : Nat := 0x2018
abbrev R.SEC_ATT_BASE : Nat := 0x2019
abbrev R.SEC_ATT_WORDS : Nat := 0x201A
abbrev R.SEC_CHALj (i : Nat) : Nat := 0x2020 + i
abbrev R.SEC_ATT_OUTj (i : Nat) : Nat := 0x2040 + i
abbrev R.CFG_CTRL : Nat := 0x3000
abbrev R.CFG_BOOT_SUMMARY : Nat := 0x3001
abbrev R.CFG_BOOT_CODEj (i : Nat) : Nat := 0x3002 + i
abbrev R.CFG_FALLBACK : Nat := 0x3005
abbrev R.CFG_FALLBACK_LANES : Nat := 0x3006
abbrev R.CFG_NVM_CMD : Nat := 0x3008
abbrev R.CFG_SLOTs (i : Nat) : Nat := 0x3010 + i
abbrev R.CAL_CTRL : Nat := 0x4000
abbrev R.CAL_STATUS : Nat := 0x4001
abbrev R.CAL_RUN : Nat := 0x4002
abbrev R.CAL_STORE : Nat := 0x4003
abbrev R.CAL_COUNT : Nat := 0x4004
abbrev R.CAL_REJECTS : Nat := 0x4005
abbrev R.CAL_LAST_TIME_LO : Nat := 0x4006
abbrev R.CAL_LAST_TIME_HI : Nat := 0x4007
abbrev R.CAL_LAST_INFO : Nat := 0x4008
abbrev R.CAL_SLEW : Nat := 0x4009
abbrev R.CAL_COLOFS : Nat := 0x400A
abbrev R.CAL_STORE_MIN : Nat := 0x400B
abbrev R.CAL_REJECT_LAST : Nat := 0x400C
abbrev R.CAL_ITEMi (i : Nat) : Nat := 0x4010 + i
abbrev R.CAL_SLOTs (i : Nat) : Nat := 0x4020 + i
abbrev R.KTL_CTRL : Nat := 0x5000
abbrev R.KTL_STATUS : Nat := 0x5001
abbrev R.KTL_HOTTEST : Nat := 0x5002
abbrev R.KTL_LIMITS : Nat := 0x5003
abbrev R.KTL_THROTTLE : Nat := 0x5004
abbrev R.KTL_GRACE : Nat := 0x5005
abbrev R.KTL_STALE : Nat := 0x5006
abbrev R.KTL_IDLE : Nat := 0x5007
abbrev R.KTL_THROTTLE_COUNT : Nat := 0x5008
abbrev R.KTL_DIODEd (i : Nat) : Nat := 0x5010 + i
abbrev R.MON_CTRL : Nat := 0x6000
abbrev R.MON_STATUS : Nat := 0x6001
abbrev R.MON_START : Nat := 0x6002
abbrev R.MON_START_TIMEOUT : Nat := 0x6003
abbrev R.MON_XLIMIT : Nat := 0x6004
abbrev R.MON_ROUND_COUNT : Nat := 0x6005
abbrev R.MON_DISAGREE_COUNT : Nat := 0x6006
abbrev R.MON_START_MISSED : Nat := 0x6007
abbrev R.MON_NOSTART_COUNT : Nat := 0x6008
abbrev R.MON_RESc (i : Nat) : Nat := 0x6040 + i
abbrev R.MON_CORR_MAc (i : Nat) : Nat := 0x6080 + i
abbrev R.MON_CORR_MBc (i : Nat) : Nat := 0x60A0 + i
abbrev R.MON_SEQk (i : Nat) : Nat := 0x6100 + i
abbrev R.TIM_TB_LO : Nat := 0x7000
abbrev R.TIM_TB_HI : Nat := 0x7001
abbrev R.TIM_TB_CTRL : Nat := 0x7002
abbrev R.TIM_TB_LOAD_LO : Nat := 0x7003
abbrev R.TIM_TB_LOAD_HI : Nat := 0x7004
abbrev R.TIM_GSTART : Nat := 0x7008
abbrev R.TIM_GSTART_TIME_LO : Nat := 0x7009
abbrev R.TIM_GSTART_TIME_HI : Nat := 0x700A
abbrev R.TIM_CHc_CFG (i : Nat) : Nat := 0x7100 + 8 * i
abbrev R.TIM_CHc_PERIOD (i : Nat) : Nat := 0x7101 + 8 * i
abbrev R.TIM_CHc_CMP (i : Nat) : Nat := 0x7102 + 8 * i
abbrev R.TIM_CHc_CNT (i : Nat) : Nat := 0x7103 + 8 * i
abbrev R.TIM_CHc_INPUT (i : Nat) : Nat := 0x7104 + 8 * i
abbrev R.TIM_CHc_CAP_LO (i : Nat) : Nat := 0x7105 + 8 * i
abbrev R.TIM_CHc_CAP_HI (i : Nat) : Nat := 0x7106 + 8 * i
abbrev R.TIM_CHc_STAT (i : Nat) : Nat := 0x7107 + 8 * i
abbrev R.FAB_CTRL : Nat := 0x8000
abbrev R.FAB_ID : Nat := 0x8001
abbrev R.FAB_STATUS : Nat := 0x8002
abbrev R.FAB_MASTER : Nat := 0x8003
abbrev R.FAB_REACH : Nat := 0x8004
abbrev R.FAB_OFFSET : Nat := 0x8005
abbrev R.FAB_LEAD_EXTRA : Nat := 0x8006
abbrev R.FAB_TRAIN_TIMEOUT : Nat := 0x8007
abbrev R.FAB_SCHED_CMD : Nat := 0x8008
abbrev R.FAB_SCHED_T_LO : Nat := 0x8009
abbrev R.FAB_SCHED_T_HI : Nat := 0x800A
abbrev R.FAB_SCHED_LATE : Nat := 0x800C
abbrev R.FAB_SCHED_DROPPED : Nat := 0x800D
abbrev R.FAB_RX_DROPPED : Nat := 0x800E
abbrev R.FAB_REROUTES : Nat := 0x800F
abbrev R.FAB_TRIGOUTk (i : Nat) : Nat := 0x8010 + i
abbrev R.FAB_RX_HEAD : Nat := 0x8018
abbrev R.FAB_RX_POP : Nat := 0x8019
abbrev R.FAB_RX_WORDj (i : Nat) : Nat := 0x8020 + i
abbrev R.FAB_RELAY_TIMEOUT : Nat := 0x8030
abbrev R.FAB_RELAY_SESSION : Nat := 0x8031
abbrev R.FAB_RELAYk (i : Nat) : Nat := 0x8041 + i
abbrev R.FAB_PORTp_CTRL (i : Nat) : Nat := 0x8100 + 16 * i
abbrev R.FAB_PORTp_NEIGH (i : Nat) : Nat := 0x8101 + 16 * i
abbrev R.FAB_PORTp_DELAY (i : Nat) : Nat := 0x8102 + 16 * i
abbrev R.FAB_PORTp_ASYM (i : Nat) : Nat := 0x8103 + 16 * i
abbrev R.FAB_PORTp_LOST (i : Nat) : Nat := 0x8104 + 16 * i
abbrev R.FAB_PORTp_CRC_ERR (i : Nat) : Nat := 0x8105 + 16 * i
abbrev R.CLK_CTRL : Nat := 0x9000
abbrev R.CLK_STATUS : Nat := 0x9001
abbrev R.CLK_TB_UNCERT : Nat := 0x9002
abbrev R.CLK_TB_STEER : Nat := 0x9003
abbrev R.CLK_TB_LOSSES : Nat := 0x9004
abbrev R.CLK_LK_LOSSES : Nat := 0x9005
abbrev R.MGT_CTRL : Nat := 0xA000
abbrev R.MGT_ADDR : Nat := 0xA001
abbrev R.MGT_STATUS : Nat := 0xA002
abbrev R.MGT_ALERT : Nat := 0xA003
abbrev R.MGT_ALERT_MAP : Nat := 0xA004
abbrev R.MGT_BUS_ERRORS : Nat := 0xA005
abbrev R.MGT_NACK_BUSY : Nat := 0xA006
abbrev R.MGT_STUCK_COUNT : Nat := 0xA007
abbrev R.MGT_MAPk (i : Nat) : Nat := 0xA010 + i
abbrev R.HST_CTRL : Nat := 0xB000
abbrev R.HST_STATUS : Nat := 0xB001
abbrev R.HST_DP_NEXT : Nat := 0xB002
abbrev R.HST_CMD_COUNT : Nat := 0xB003
abbrev R.HST_NOT_READY_COUNT : Nat := 0xB004
abbrev R.HST_ERROR_COUNT : Nat := 0xB005
abbrev R.HST_RELAY_TIMEOUTS : Nat := 0xB006
abbrev R.MEM_CTRL : Nat := 0xC000
abbrev R.MEM_STATUS : Nat := 0xC001
abbrev R.MEM_SCRUB : Nat := 0xC002
abbrev R.MEM_ECC_LAST : Nat := 0xC003
abbrev R.MEM_CE_COUNT : Nat := 0xC004
abbrev R.MEM_UE_COUNT : Nat := 0xC005
abbrev R.MEM_POUR_DROPPED : Nat := 0xC006
abbrev R.MEM_FRAME_DROPPED : Nat := 0xC007
abbrev R.MEM_SPARE_ROWS_LO : Nat := 0xC008
abbrev R.MEM_SPARE_ROWS_HI : Nat := 0xC009
abbrev R.MEM_POUR_BASE : Nat := 0xC010
abbrev R.MEM_POUR_SIZE : Nat := 0xC011
abbrev R.MEM_OUT_BASE : Nat := 0xC012
abbrev R.MEM_OUT_SIZE : Nat := 0xC013
abbrev R.MEM_PV_BASE : Nat := 0xC014
abbrev R.MEM_RING_CTRL : Nat := 0xC015
abbrev R.MEM_POUR_TAIL : Nat := 0xC016
abbrev R.MEM_POUR_AREAS : Nat := 0xC017
abbrev R.MEM_OUT_TAIL : Nat := 0xC018
abbrev R.MEM_OUT_AREAS : Nat := 0xC019
abbrev R.MEM_POUR_RELEASE : Nat := 0xC01A
abbrev R.MEM_OUT_RELEASE : Nat := 0xC01B
abbrev R.MEM_RQn_CFG (i : Nat) : Nat := 0xC040 + 4 * i
abbrev R.MEM_RQn_GRANTS (i : Nat) : Nat := 0xC041 + 4 * i
abbrev R.MEM_RQn_WAITED (i : Nat) : Nat := 0xC042 + 4 * i
abbrev R.MEM_RQn_LONGEST (i : Nat) : Nat := 0xC043 + 4 * i
abbrev R.MEM_CHc_WASTED (i : Nat) : Nat := 0xC080 + i
abbrev R.MEM_STARVE_LIMIT : Nat := 0xC088
abbrev R.RDO_CTRL : Nat := 0xD000
abbrev R.RDO_WIN_MASK : Nat := 0xD001
abbrev R.RDO_STATUS : Nat := 0xD002
abbrev R.RDO_MAN_POUR : Nat := 0xD003
abbrev R.RDO_POUR_COUNT : Nat := 0xD004
abbrev R.RDO_BACKLOG_COUNT : Nat := 0xD005
abbrev R.RDO_LAST_START_LO : Nat := 0xD006
abbrev R.RDO_LAST_START_HI : Nat := 0xD007
abbrev R.RDO_LAST_INFO : Nat := 0xD008
abbrev R.RDO_WINk_POS (i : Nat) : Nat := 0xD010 + 2 * i
abbrev R.RDO_WINk_SIZE (i : Nat) : Nat := 0xD011 + 2 * i
abbrev R.CNV_CTRL : Nat := 0xD800
abbrev R.CNV_STATUS : Nat := 0xD801
abbrev R.CNV_SPARE_STATUS : Nat := 0xD802
abbrev R.CNV_SUB_CMD : Nat := 0xD803
abbrev R.CNV_FAIL_LAST : Nat := 0xD804
abbrev R.CNV_OVR_COUNTb (i : Nat) : Nat := 0xD808 + i
abbrev R.CNV_EDGE_FAIL_L : Nat := 0xD80C
abbrev R.CNV_EDGE_FAIL_R : Nat := 0xD80D
abbrev R.PIP_CTRL : Nat := 0xE000
abbrev R.PIP_STATUS : Nat := 0xE001
abbrev R.PIP_OUT : Nat := 0xE002
abbrev R.PIP_BLEND : Nat := 0xE003
abbrev R.PIP_BLEND_TREF : Nat := 0xE004
abbrev R.PIP_PREVIEW : Nat := 0xE005
abbrev R.PIP_DMAP_CTRL : Nat := 0xE006
abbrev R.PIP_KNEEs (i : Nat) : Nat := 0xE008 + i
abbrev R.PIP_FRAME_COUNT : Nat := 0xE010
abbrev R.PIP_REPLACED_COUNT : Nat := 0xE011
abbrev R.PIP_UNRESOLVED_COUNT : Nat := 0xE012
abbrev R.PIP_PV_SKIPPED : Nat := 0xE013
abbrev R.PIP_ZGAINz (i : Nat) : Nat := 0xE040 + i
abbrev R.LNK_CTRL : Nat := 0xF000
abbrev R.LNK_STATUS : Nat := 0xF001
abbrev R.LNK_LANE_FAIL : Nat := 0xF002
abbrev R.LNK_LANE_CMD : Nat := 0xF003
abbrev R.LNK_TRAIN_ACK : Nat := 0xF004
abbrev R.LNK_TRAIN_TIMEOUT : Nat := 0xF005
abbrev R.LNK_PV_CTRL : Nat := 0xF006
abbrev R.LNK_PV_INTERVAL : Nat := 0xF007
abbrev R.LNK_FRAMES_SENT : Nat := 0xF008
abbrev R.LNK_PV_SENT : Nat := 0xF009
abbrev R.LNK_UNDERRUN_COUNT : Nat := 0xF00A
abbrev R.LNK_TRUNCATED : Nat := 0xF00B
abbrev R.LNK_AREAS_BAD : Nat := 0xF00C
abbrev R.LNK_VC3_DROPPED : Nat := 0xF00D
abbrev R.LNK_RETRAINS : Nat := 0xF00E
abbrev R.LNK_LAST_FRAME : Nat := 0xF00F
abbrev R.LNK_LANE_MAPk (i : Nat) : Nat := 0xF010 + i
abbrev R.SEQ_CTRL : Nat := 0x10000
abbrev R.SEQ_LINE_PERIOD : Nat := 0x10001
abbrev R.SEQ_STATUS : Nat := 0x10002
abbrev R.SEQ_SLOT_SHADOWj (i : Nat) : Nat := 0x10004 + i
abbrev R.SEQ_SLOT_ACTIVEj (i : Nat) : Nat := 0x10008 + i
abbrev R.SEQ_SIGNAL : Nat := 0x1000C
abbrev R.SEQ_DOORBELL : Nat := 0x1000D
abbrev R.SEQ_TX_CMD : Nat := 0x10010
abbrev R.SEQ_TX_TIME_LO : Nat := 0x10011
abbrev R.SEQ_TX_TIME_HI : Nat := 0x10012
abbrev R.SEQ_TX_STATUS_o (i : Nat) : Nat := 0x10021 + i
abbrev R.SEQ_TX_STATUS_o_T (i : Nat) : Nat := 0x10028 + i
abbrev R.SEQ_LOCKk (i : Nat) : Nat := 0x10040 + i
abbrev R.SEQ_PINOUTk (i : Nat) : Nat := 0x10060 + i
abbrev R.SEQ_THn_CTRL (i : Nat) : Nat := 0x10100 + 32 * i
abbrev R.SEQ_THn_PC (i : Nat) : Nat := 0x10101 + 32 * i
abbrev R.SEQ_THn_EVMASK_LO (i : Nat) : Nat := 0x10102 + 32 * i
abbrev R.SEQ_THn_EVMASK_HI (i : Nat) : Nat := 0x10103 + 32 * i
abbrev R.SEQ_THn_EVPEND_LO (i : Nat) : Nat := 0x10104 + 32 * i
abbrev R.SEQ_THn_EVPEND_HI (i : Nat) : Nat := 0x10105 + 32 * i
abbrev R.SEQ_THn_OVERRUNS (i : Nat) : Nat := 0x10106 + 32 * i
abbrev R.SEQ_THn_EVLOST (i : Nat) : Nat := 0x10107 + 32 * i
abbrev R.SEQ_THn_ISSUED (i : Nat) : Nat := 0x10108 + 32 * i
abbrev R.SEQ_THn_FAULT_PC (i : Nat) : Nat := 0x10109 + 32 * i
abbrev R.SEQ_THn_ENTRY (i : Nat) : Nat := 0x1010A + 32 * i
abbrev R.STP_CTRL : Nat := 0x1C000
abbrev R.STP_STATUS : Nat := 0x1C001
abbrev R.STP_TRIG : Nat := 0x1C002
abbrev R.STP_AGE_LIMIT : Nat := 0x1C003
abbrev R.STP_STROBE_ACT : Nat := 0x1C004
abbrev R.STP_TRIG_MISSED : Nat := 0x1C005
abbrev R.STP_SOFT_GO : Nat := 0x1C006
abbrev R.STP_HOLDk_LO (i : Nat) : Nat := 0x1C008 + 2 * i
abbrev R.STP_HOLDk_HI (i : Nat) : Nat := 0x1C009 + 2 * i
abbrev R.STP_CLEAR_LO : Nat := 0x1C010
abbrev R.STP_CLEAR_HI : Nat := 0x1C011
abbrev R.STP_ENn_CTRL (i : Nat) : Nat := 0x1C040 + 16 * i
abbrev R.STP_ENn_ZMASK_LO (i : Nat) : Nat := 0x1C041 + 16 * i
abbrev R.STP_ENn_ZMASK_HI (i : Nat) : Nat := 0x1C042 + 16 * i
abbrev R.STP_ENn_DURATION (i : Nat) : Nat := 0x1C043 + 16 * i
abbrev R.STP_ENn_DELAY (i : Nat) : Nat := 0x1C044 + 16 * i
abbrev R.STP_ENn_START_LO (i : Nat) : Nat := 0x1C045 + 16 * i
abbrev R.STP_ENn_START_HI (i : Nat) : Nat := 0x1C046 + 16 * i
abbrev R.STP_ENn_START_FLAGS (i : Nat) : Nat := 0x1C047 + 16 * i
abbrev R.STP_ENn_FIRE_COUNT (i : Nat) : Nat := 0x1C048 + 16 * i
abbrev R.STP_ENn_FIRED_LO (i : Nat) : Nat := 0x1C049 + 16 * i
abbrev R.STP_ENn_FIRED_HI (i : Nat) : Nat := 0x1C04A + 16 * i
abbrev R.STP_FRM_CTRL : Nat := 0x1C100
abbrev R.STP_FRM_MAP : Nat := 0x1C101
abbrev R.STP_FRM_OFFSETi (i : Nat) : Nat := 0x1C102 + i
abbrev R.STP_FRM_PER_FIRE : Nat := 0x1C106
abbrev R.STP_FRM_PERIOD : Nat := 0x1C107
abbrev R.STP_FRM_BURST : Nat := 0x1C108
abbrev R.STP_FRM_BURST_COUNT : Nat := 0x1C109
abbrev R.STP_BURST_IDLE_LIMIT : Nat := 0x1C10A
abbrev R.STP_FRM_NUMBER : Nat := 0x1C10B
abbrev R.STP_FRM_STATUS : Nat := 0x1C10C
abbrev R.STP_FRM_BLOCKED : Nat := 0x1C10D
abbrev R.STP_FRM_SKIPPED : Nat := 0x1C10E
abbrev R.STP_FRM_LVLDURi (i : Nat) : Nat := 0x1C110 + i
abbrev R.EVT_CTRL : Nat := 0x20000
abbrev R.EVT_SUMMARY : Nat := 0x20001
abbrev R.EVT_POP : Nat := 0x20002
abbrev R.EVT_HST_ALERT : Nat := 0x20003
abbrev R.EVT_LOGe_w (i : Nat) : Nat := 0x20100 + i
abbrev R.EVT_COUNTc (i : Nat) : Nat := 0x20200 + i
abbrev R.EVT_ROUTEc (i : Nat) : Nat := 0x20400 + i
abbrev R.SEQ_THn_Qr (n r : Nat) : Nat := 0x10110 + 32 * n + r
abbrev R.CNV_SUBb_k (b k : Nat) : Nat := 0xD900 + 128 * b + k
abbrev R.SEQ_IMEM (i : Nat) : Nat := 0x14000 + i
abbrev R.SEQ_SCRATCH (i : Nat) : Nat := 0x18000 + i

/-- One register of the index, or one run of registers of one layout: first word address, number of registers, distance
between two, bits a write sets (RW), bits a write of one clears (W1C), whether a read clears the word (RC), value at reset. -/
structure RegRow where
  base : Nat
  count : Nat
  stride : Nat
  rw : Nat
  w1c : Nat
  rc : Bool
  reset : Nat
  deriving DecidableEq, Repr

/-- Registers of block ID. -/
def regsID : List RegRow := [
  ⟨0x0, 1, 1, 0x0, 0x0, false, 0xF1543600⟩,
  ⟨0x1, 1, 1, 0x0, 0x0, false, 0xA1⟩,
  ⟨0x2, 1, 1, 0x0, 0x0, false, 0x0⟩,
  ⟨0x3, 1, 1, 0x0, 0x0, false, 0x0⟩,
  ⟨0x4, 1, 1, 0x0, 0x800000000, false, 0x0⟩,
  ⟨0x5, 1, 1, 0x0, 0x0, false, 0x0⟩]

/-- Registers of block PWR. -/
def regsPWR : List RegRow := [
  ⟨0x1000, 1, 1, 0x0, 0x0, false, 0x200000000⟩,
  ⟨0x1001, 1, 1, 0x0, 0x0, false, 0x0⟩,
  ⟨0x1002, 1, 1, 0x8, 0x3F01, false, 0x0⟩,
  ⟨0x1003, 1, 1, 0x0, 0x0, false, 0x0⟩]

/-- Registers of block SEC. -/
def regsSEC : List RegRow := [
  ⟨0x2000, 1, 1, 0x0, 0x0, false, 0x0⟩,
  ⟨0x2001, 1, 1, 0x1, 0x0, false, 0x0⟩,
  ⟨0x2002, 1, 1, 0x0, 0x0, false, 0x0⟩,
  ⟨0x2003, 1, 1, 0x0, 0x0, false, 0x0⟩,
  ⟨0x2004, 1, 1, 0x0, 0x0, false, 0x0⟩,
  ⟨0x2005, 1, 1, 0x0, 0x0, true, 0x0⟩,
  ⟨0x2008, 1, 1, 0x0, 0x0, false, 0x0⟩,
  ⟨0x2010, 8, 1, 0x0, 0x0, false, 0x0⟩,
  ⟨0x2018, 1, 1, 0x200000000, 0x0, false, 0x0⟩,
  ⟨0x2019, 1, 1, 0x1FFFFFFF, 0x0, false, 0x0⟩,
  ⟨0x201A, 1, 1, 0x3FFFFFFF, 0x0, false, 0x0⟩,
  ⟨0x2020, 8, 1, 0xFFFFFFFFF, 0x0, false, 0x0⟩,
  ⟨0x2040, 64, 1, 0x0, 0x0, false, 0x0⟩]

/-- Registers of block CFG. -/
def regsCFG : List RegRow := [
  ⟨0x3000, 1, 1, 0x1, 0x0, false, 0x0⟩,
  ⟨0x3001, 1, 1, 0x0, 0x0, false, 0x0⟩,
  ⟨0x3002, 3, 1, 0x0, 0x0, false, 0x0⟩,
  ⟨0x3005, 1, 1, 0x0, 0x0, false, 0x0⟩,
  ⟨0x3006, 1, 1, 0x0, 0x0, false, 0x0⟩,
  ⟨0x3008, 1, 1, 0x0, 0x0, false, 0x0⟩,
  ⟨0x3010, 4, 1, 0x0, 0x0, false, 0x0⟩]

/-- Registers of block CAL. -/
def regsCAL : List RegRow := [
  ⟨0x4000, 1, 1, 0x3, 0x0, false, 0x0⟩,
  ⟨0x4001, 1, 1, 0x0, 0x0, false, 0x0⟩,
  ⟨0x4002, 1, 1, 0x0, 0x0, false, 0x0⟩,
  ⟨0x4003, 1, 1, 0x0, 0x0, false, 0x0⟩,
  ⟨0x4004, 1, 1, 0x0, 0x0, false, 0x0⟩,
  ⟨0x4005, 1, 1, 0x0, 0x0, true, 0x0⟩,
  ⟨0x4006, 1, 1, 0x0, 0x0, false, 0x0⟩,
  ⟨0x4007, 1, 1, 0x0, 0x0, false, 0x0⟩,
  ⟨0x4008, 1, 1, 0x0, 0x0, false, 0x0⟩,
  ⟨0x4009, 1, 1, 0xFFF, 0x0, false, 0x10⟩,
  ⟨0x400A, 1, 1, 0xFFFFFFF, 0x0, false, 0x800040⟩,
  ⟨0x400B, 1, 1, 0xFFFFFFFFF, 0x0, false, 0x258⟩,
  ⟨0x400C, 1, 1, 0x0, 0x800000000, false, 0x0⟩,
  ⟨0x4010, 6, 1, 0x8FFFFFFFF, 0x0, false, 0x800000000⟩,
  ⟨0x4020, 2, 1, 0x0, 0x0, false, 0x0⟩]

/-- Registers of block KTL. -/
def regsKTL : List RegRow := [
  ⟨0x5000, 1, 1, 0x1, 0x0, false, 0x0⟩,
  ⟨0x5001, 1, 1, 0x0, 0x0, false, 0x0⟩,
  ⟨0x5002, 1, 1, 0x0, 0x0, false, 0x0⟩,
  ⟨0x5003, 1, 1, 0xFFFFF3FFF, 0x0, false, 0x2014027C0⟩,
  ⟨0x5004, 1, 1, 0xFFFFFF, 0x0, false, 0x20F080⟩,
  ⟨0x5005, 1, 1, 0xFFFFFFFFF, 0x0, false, 0x77359400⟩,
  ⟨0x5006, 1, 1, 0xFFFFFFFFF, 0x0, false, 0x2625A00⟩,
  ⟨0x5007, 1, 1, 0x0, 0x0, false, 0x0⟩,
  ⟨0x5008, 1, 1, 0x0, 0x0, true, 0x0⟩,
  ⟨0x5010, 12, 1, 0x0, 0x0, false, 0x0⟩]

/-- Registers of block MON. -/
def regsMON : List RegRow := [
  ⟨0x6000, 1, 1, 0x1FB, 0x0, false, 0xC1⟩,
  ⟨0x6001, 1, 1, 0x0, 0x0, false, 0x0⟩,
  ⟨0x6002, 1, 1, 0xE000F0FFF, 0x0, false, 0x0⟩,
  ⟨0x6003, 1, 1, 0xFFFFFFFFF, 0x0, false, 0x2625A00⟩,
  ⟨0x6004, 1, 1, 0xFFFFFFFFF, 0x0, false, 0x10⟩,
  ⟨0x6005, 1, 1, 0x0, 0x0, true, 0x0⟩,
  ⟨0x6006, 1, 1, 0x0, 0x0, true, 0x0⟩,
  ⟨0x6007, 1, 1, 0x0, 0x0, true, 0x0⟩,
  ⟨0x6008, 1, 1, 0x0, 0x0, true, 0x0⟩,
  ⟨0x6040, 32, 1, 0x0, 0x0, false, 0x0⟩,
  ⟨0x6080, 32, 1, 0xFFFF03FFF, 0x0, false, 0x400000000⟩,
  ⟨0x60A0, 32, 1, 0xFFFF03FFF, 0x0, false, 0x400000000⟩,
  ⟨0x6100, 64, 1, 0xFFFFFFFF8, 0x0, false, 0x0⟩]

/-- Registers of block TIM. -/
def regsTIM : List RegRow := [
  ⟨0x7000, 1, 1, 0x0, 0x0, false, 0x0⟩,
  ⟨0x7001, 1, 1, 0x0, 0x0, false, 0x0⟩,
  ⟨0x7002, 1, 1, 0x0, 0x400000000, false, 0x0⟩,
  ⟨0x7003, 1, 1, 0xFFFFFFFFF, 0x0, false, 0x0⟩,
  ⟨0x7004, 1, 1, 0xFFFFFFFFF, 0x0, false, 0x0⟩,
  ⟨0x7008, 1, 1, 0x0, 0x40000, false, 0x0⟩,
  ⟨0x7009, 1, 1, 0xFFFFFFFFF, 0x0, false, 0x0⟩,
  ⟨0x700A, 1, 1, 0xFFFFFFFFF, 0x0, false, 0x0⟩,
  ⟨0x7100, 16, 8, 0xFFFFFFF71, 0x0, false, 0x0⟩,
  ⟨0x7101, 16, 8, 0xFFFFFFFFF, 0x0, false, 0xFFFFFFFFF⟩,
  ⟨0x7102, 16, 8, 0xFFFFFFFFF, 0x0, false, 0x0⟩,
  ⟨0x7103, 16, 8, 0xFFFFFFFFF, 0x0, false, 0x0⟩,
  ⟨0x7104, 16, 8, 0xFFFFE003F, 0x0, false, 0x10020000⟩,
  ⟨0x7105, 16, 8, 0x0, 0x0, false, 0x0⟩,
  ⟨0x7106, 16, 8, 0x0, 0x0, false, 0x0⟩,
  ⟨0x7107, 16, 8, 0x0, 0x4E0000000, false, 0x0⟩]

/-- Registers of block FAB. -/
def regsFAB : List RegRow := [
  ⟨0x8000, 1, 1, 0xFF000F, 0x0, false, 0x80000A⟩,
  ⟨0x8001, 1, 1, 0x3FFF, 0x0, false, 0x0⟩,
  ⟨0x8002, 1, 1, 0x0, 0x0, false, 0x0⟩,
  ⟨0x8003, 1, 1, 0x0, 0x0, false, 0x0⟩,
  ⟨0x8004, 1, 1, 0x0, 0x0, false, 0x200⟩,
  ⟨0x8005, 1, 1, 0x0, 0x0, false, 0x0⟩,
  ⟨0x8006, 1, 1, 0xFFFFFFFFF, 0x0, false, 0x0⟩,
  ⟨0x8007, 1, 1, 0xFFFFFFFFF, 0x0, false, 0x3D0900⟩,
  ⟨0x8008, 1, 1, 0x0, 0x0, false, 0x600000000⟩,
  ⟨0x8009, 1, 1, 0xFFFFFFFFF, 0x0, false, 0x0⟩,
  ⟨0x800A, 1, 1, 0xFFFFFFFFF, 0x0, false, 0x0⟩,
  ⟨0x800C, 1, 1, 0x0, 0x0, true, 0x0⟩,
  ⟨0x800D, 1, 1, 0x0, 0x0, true, 0x0⟩,
  ⟨0x800E, 1, 1, 0x0, 0x0, true, 0x0⟩,
  ⟨0x800F, 1, 1, 0x0, 0x0, true, 0x0⟩,
  ⟨0x8010, 4, 1, 0xBFFFFFFFF, 0x0, false, 0x0⟩,
  ⟨0x8018, 1, 1, 0x0, 0x0, false, 0x0⟩,
  ⟨0x8019, 1, 1, 0x0, 0x0, false, 0x0⟩,
  ⟨0x8020, 16, 1, 0x0, 0x0, false, 0x0⟩,
  ⟨0x8030, 1, 1, 0xFFFFFFFFF, 0x0, false, 0x61A80⟩,
  ⟨0x8031, 1, 1, 0x0, 0x0, false, 0x0⟩,
  ⟨0x8041, 63, 1, 0x800003FFF, 0x0, false, 0x0⟩,
  ⟨0x8100, 4, 16, 0x1, 0x0, false, 0x1⟩,
  ⟨0x8101, 4, 16, 0x0, 0x0, false, 0x0⟩,
  ⟨0x8102, 4, 16, 0x0, 0x0, false, 0x0⟩,
  ⟨0x8103, 4, 16, 0xFFFF, 0x0, false, 0x0⟩,
  ⟨0x8104, 4, 16, 0x0, 0x0, true, 0x0⟩,
  ⟨0x8105, 4, 16, 0x0, 0x0, true, 0x0⟩]

/-- Registers of block CLK. -/
def regsCLK : List RegRow := [
  ⟨0x9000, 1, 1, 0x3, 0x0, false, 0x0⟩,
  ⟨0x9001, 1, 1, 0x0, 0x0, false, 0x0⟩,
  ⟨0x9002, 1, 1, 0x0, 0x0, false, 0x0⟩,
  ⟨0x9003, 1, 1, 0x0, 0x0, false, 0x0⟩,
  ⟨0x9004, 1, 1, 0x0, 0x0, true, 0x0⟩,
  ⟨0x9005, 1, 1, 0x0, 0x0, true, 0x0⟩]

/-- Registers of block MGT. -/
def regsMGT : List RegRow := [
  ⟨0xA000, 1, 1, 0xFF0103, 0x0, false, 0x3C0000⟩,
  ⟨0xA001, 1, 1, 0xFFFFFFFF, 0x0, false, 0x0⟩,
  ⟨0xA002, 1, 1, 0x0, 0xE00000000, false, 0x0⟩,
  ⟨0xA003, 1, 1, 0xFF00, 0xFF, false, 0xFF00⟩,
  ⟨0xA004, 1, 1, 0xFFFF, 0x0, false, 0x0⟩,
  ⟨0xA005, 1, 1, 0x0, 0x0, true, 0x0⟩,
  ⟨0xA006, 1, 1, 0x0, 0x0, true, 0x0⟩,
  ⟨0xA007, 1, 1, 0x0, 0x0, true, 0x0⟩,
  ⟨0xA010, 16, 1, 0x800FFFFFF, 0x0, false, 0x0⟩]

/-- Registers of block HST. -/
def regsHST : List RegRow := [
  ⟨0xB000, 1, 1, 0x1, 0x0, false, 0x1⟩,
  ⟨0xB001, 1, 1, 0x0, 0xC00000000, false, 0x0⟩,
  ⟨0xB002, 1, 1, 0x0, 0x0, false, 0x0⟩,
  ⟨0xB003, 1, 1, 0x0, 0x0, true, 0x0⟩,
  ⟨0xB004, 1, 1, 0x0, 0x0, true, 0x0⟩,
  ⟨0xB005, 1, 1, 0x0, 0x0, true, 0x0⟩,
  ⟨0xB006, 1, 1, 0x0, 0x0, true, 0x0⟩]

/-- Registers of block MEM. -/
def regsMEM : List RegRow := [
  ⟨0xC000, 1, 1, 0xF3, 0x0, false, 0x40⟩,
  ⟨0xC001, 1, 1, 0x0, 0x0, false, 0xFFFF⟩,
  ⟨0xC002, 1, 1, 0xFFFFFF, 0x0, false, 0xFA0⟩,
  ⟨0xC003, 1, 1, 0x0, 0x800000000, false, 0x0⟩,
  ⟨0xC004, 1, 1, 0x0, 0x0, true, 0x0⟩,
  ⟨0xC005, 1, 1, 0x0, 0x0, true, 0x0⟩,
  ⟨0xC006, 1, 1, 0x0, 0x0, true, 0x0⟩,
  ⟨0xC007, 1, 1, 0x0, 0x0, true, 0x0⟩,
  ⟨0xC008, 1, 1, 0x0, 0x0, false, 0x8102040⟩,
  ⟨0xC009, 1, 1, 0x0, 0x0, false, 0x8102040⟩,
  ⟨0xC010, 1, 1, 0x3FFFFFE0, 0x0, false, 0x0⟩,
  ⟨0xC011, 1, 1, 0x3FFFFFE0, 0x0, false, 0x1FEDA000⟩,
  ⟨0xC012, 1, 1, 0x3FFFFFE0, 0x0, false, 0x0⟩,
  ⟨0xC013, 1, 1, 0x3FFFFFE0, 0x0, false, 0x0⟩,
  ⟨0xC014, 1, 1, 0x3FFFFFE0, 0x0, false, 0x1FEDA000⟩,
  ⟨0xC015, 1, 1, 0x1, 0x400000000, false, 0x0⟩,
  ⟨0xC016, 1, 1, 0x0, 0x0, false, 0x0⟩,
  ⟨0xC017, 1, 1, 0x0, 0x0, false, 0x0⟩,
  ⟨0xC018, 1, 1, 0x0, 0x0, false, 0x0⟩,
  ⟨0xC019, 1, 1, 0x0, 0x0, false, 0x0⟩,
  ⟨0xC01A, 1, 1, 0x0, 0x0, false, 0x0⟩,
  ⟨0xC01B, 1, 1, 0x0, 0x0, false, 0x0⟩,
  ⟨0xC040, 10, 4, 0x7F, 0x0, false, 0x0⟩,
  ⟨0xC041, 10, 4, 0x0, 0x0, true, 0x0⟩,
  ⟨0xC042, 10, 4, 0x0, 0x0, true, 0x0⟩,
  ⟨0xC043, 10, 4, 0x0, 0x0, true, 0x0⟩,
  ⟨0xC080, 8, 1, 0x0, 0x0, true, 0x0⟩,
  ⟨0xC088, 1, 1, 0xFFFFFFFFF, 0x0, false, 0x10000⟩]

/-- Registers of block RDO. -/
def regsRDO : List RegRow := [
  ⟨0xD000, 1, 1, 0x3, 0x0, false, 0x2⟩,
  ⟨0xD001, 1, 1, 0xFFFF, 0x0, false, 0x1⟩,
  ⟨0xD002, 1, 1, 0x0, 0x0, false, 0x0⟩,
  ⟨0xD003, 1, 1, 0x300FFFF, 0x200000000, false, 0x0⟩,
  ⟨0xD004, 1, 1, 0x0, 0x0, true, 0x0⟩,
  ⟨0xD005, 1, 1, 0x0, 0x0, true, 0x0⟩,
  ⟨0xD006, 1, 1, 0x0, 0x0, false, 0x0⟩,
  ⟨0xD007, 1, 1, 0x0, 0x0, false, 0x0⟩,
  ⟨0xD008, 1, 1, 0x0, 0x0, false, 0x0⟩,
  ⟨0xD010, 16, 2, 0x83FFF3FFF, 0x0, false, 0x0⟩,
  ⟨0xD011, 16, 2, 0xFFFFFFFFF, 0x0, false, 0x2A003800⟩]

/-- Registers of block CNV. -/
def regsCNV : List RegRow := [
  ⟨0xD800, 1, 1, 0x1F03, 0x0, false, 0x1⟩,
  ⟨0xD801, 1, 1, 0x0, 0xF00, false, 0x1⟩,
  ⟨0xD802, 1, 1, 0x0, 0x0, false, 0x70707070⟩,
  ⟨0xD803, 1, 1, 0x0, 0x0, false, 0x0⟩,
  ⟨0xD804, 1, 1, 0x0, 0x800000000, false, 0x0⟩,
  ⟨0xD808, 4, 1, 0x0, 0x0, true, 0x0⟩,
  ⟨0xD80C, 1, 1, 0x0, 0x0, false, 0x0⟩,
  ⟨0xD80D, 1, 1, 0x0, 0x0, false, 0x0⟩,
  ⟨0xD900, 112, 1, 0x0, 0x0, false, 0x0⟩,
  ⟨0xD980, 112, 1, 0x0, 0x0, false, 0x0⟩,
  ⟨0xDA00, 112, 1, 0x0, 0x0, false, 0x0⟩,
  ⟨0xDA80, 112, 1, 0x0, 0x0, false, 0x0⟩]

/-- Registers of block PIP. -/
def regsPIP : List RegRow := [
  ⟨0xE000, 1, 1, 0x37FF, 0x0, false, 0x103E⟩,
  ⟨0xE001, 1, 1, 0x0, 0x200000000, false, 0x0⟩,
  ⟨0xE002, 1, 1, 0xFFFFFFF, 0x0, false, 0x40060⟩,
  ⟨0xE003, 1, 1, 0xFFFFF, 0x0, false, 0xCE000⟩,
  ⟨0xE004, 1, 1, 0xFFFFFFFFF, 0x0, false, 0x0⟩,
  ⟨0xE005, 1, 1, 0xFFFFFF, 0x0, false, 0x2FE0⟩,
  ⟨0xE006, 1, 1, 0x100000000, 0x200000000, false, 0x0⟩,
  ⟨0xE008, 8, 1, 0xFFFFFFF, 0x0, false, 0x0⟩,
  ⟨0xE010, 1, 1, 0x0, 0x0, true, 0x0⟩,
  ⟨0xE011, 1, 1, 0x0, 0x0, true, 0x0⟩,
  ⟨0xE012, 1, 1, 0x0, 0x0, true, 0x0⟩,
  ⟨0xE013, 1, 1, 0x0, 0x0, true, 0x0⟩,
  ⟨0xE040, 64, 1, 0x3FFF, 0x0, false, 0x400⟩]

/-- Registers of block LNK. -/
def regsLNK : List RegRow := [
  ⟨0xF000, 1, 1, 0x1FF01, 0x0, false, 0x0⟩,
  ⟨0xF001, 1, 1, 0x0, 0x0, false, 0x0⟩,
  ⟨0xF002, 1, 1, 0x0, 0x0, false, 0x0⟩,
  ⟨0xF003, 1, 1, 0x0, 0x0, false, 0x0⟩,
  ⟨0xF004, 1, 1, 0x0, 0x0, false, 0x0⟩,
  ⟨0xF005, 1, 1, 0xFFFFFFFFF, 0x0, false, 0x2625A00⟩,
  ⟨0xF006, 1, 1, 0x7, 0x0, false, 0x0⟩,
  ⟨0xF007, 1, 1, 0xFFFFFFFFF, 0x0, false, 0x3F940AB⟩,
  ⟨0xF008, 1, 1, 0x0, 0x0, true, 0x0⟩,
  ⟨0xF009, 1, 1, 0x0, 0x0, true, 0x0⟩,
  ⟨0xF00A, 1, 1, 0x0, 0x0, true, 0x0⟩,
  ⟨0xF00B, 1, 1, 0x0, 0x0, true, 0x0⟩,
  ⟨0xF00C, 1, 1, 0x0, 0x0, true, 0x0⟩,
  ⟨0xF00D, 1, 1, 0x0, 0x0, true, 0x0⟩,
  ⟨0xF00E, 1, 1, 0x0, 0x0, true, 0x0⟩,
  ⟨0xF00F, 1, 1, 0x0, 0x0, false, 0x0⟩,
  ⟨0xF010, 6, 1, 0x0, 0x0, false, 0x0⟩]

/-- Registers of block SEQ. -/
def regsSEQ : List RegRow := [
  ⟨0x10000, 1, 1, 0x1, 0x0, false, 0x0⟩,
  ⟨0x10001, 1, 1, 0x7FFFF, 0x0, false, 0xFA0⟩,
  ⟨0x10002, 1, 1, 0x0, 0x0, false, 0x0⟩,
  ⟨0x10004, 4, 1, 0xFFFFFFFF, 0x0, false, 0x76543210⟩,
  ⟨0x10008, 4, 1, 0x0, 0x0, false, 0x76543210⟩,
  ⟨0x1000C, 1, 1, 0x0, 0x0, false, 0x0⟩,
  ⟨0x1000D, 1, 1, 0x0, 0x0, false, 0x0⟩,
  ⟨0x10010, 1, 1, 0x0, 0x0, false, 0x0⟩,
  ⟨0x10011, 1, 1, 0xFFFFFFFFF, 0x0, false, 0x0⟩,
  ⟨0x10012, 1, 1, 0xFFFFFFFFF, 0x0, false, 0x0⟩,
  ⟨0x10021, 3, 1, 0x0, 0x0, false, 0x0⟩,
  ⟨0x10028, 8, 1, 0x0, 0x0, false, 0x0⟩,
  ⟨0x10040, 32, 1, 0x0, 0x0, false, 0x0⟩,
  ⟨0x10060, 4, 1, 0xFFFFF1FFF, 0x0, false, 0x0⟩,
  ⟨0x10100, 8, 32, 0x0, 0x0, false, 0x0⟩,
  ⟨0x10101, 8, 32, 0x3FFF, 0x0, false, 0x0⟩,
  ⟨0x10102, 8, 32, 0xFFFFFFFFF, 0x0, false, 0x0⟩,
  ⟨0x10103, 8, 32, 0xFFFFFFF, 0x0, false, 0x0⟩,
  ⟨0x10104, 8, 32, 0x0, 0x0, false, 0x0⟩,
  ⟨0x10105, 8, 32, 0x0, 0x0, false, 0x0⟩,
  ⟨0x10106, 8, 32, 0x0, 0x0, true, 0x0⟩,
  ⟨0x10107, 8, 32, 0x0, 0x0, true, 0x0⟩,
  ⟨0x10108, 8, 32, 0x0, 0x0, true, 0x0⟩,
  ⟨0x10109, 8, 32, 0x0, 0x0, false, 0x0⟩,
  ⟨0x1010A, 8, 32, 0x3FFF, 0x0, false, 0x0⟩,
  ⟨0x10110, 16, 1, 0xFFFFFFFFF, 0x0, false, 0x0⟩,
  ⟨0x10130, 16, 1, 0xFFFFFFFFF, 0x0, false, 0x0⟩,
  ⟨0x10150, 16, 1, 0xFFFFFFFFF, 0x0, false, 0x0⟩,
  ⟨0x10170, 16, 1, 0xFFFFFFFFF, 0x0, false, 0x0⟩,
  ⟨0x10190, 16, 1, 0xFFFFFFFFF, 0x0, false, 0x0⟩,
  ⟨0x101B0, 16, 1, 0xFFFFFFFFF, 0x0, false, 0x0⟩,
  ⟨0x101D0, 16, 1, 0xFFFFFFFFF, 0x0, false, 0x0⟩,
  ⟨0x101F0, 16, 1, 0xFFFFFFFFF, 0x0, false, 0x0⟩,
  ⟨0x14000, 16384, 1, 0xFFFFFFFFF, 0x0, false, 0x0⟩,
  ⟨0x18000, 4096, 1, 0xFFFFFFFFF, 0x0, false, 0x0⟩]

/-- Registers of block STP. -/
def regsSTP : List RegRow := [
  ⟨0x1C000, 1, 1, 0x3F01, 0x0, false, 0x0⟩,
  ⟨0x1C001, 1, 1, 0x0, 0x0, false, 0x0⟩,
  ⟨0x1C002, 1, 1, 0x1, 0x0, false, 0x0⟩,
  ⟨0x1C003, 1, 1, 0xFFFFFFFFF, 0x0, false, 0xBEBC200⟩,
  ⟨0x1C004, 1, 1, 0x7FF, 0x0, false, 0x0⟩,
  ⟨0x1C005, 1, 1, 0x0, 0x0, true, 0x0⟩,
  ⟨0x1C006, 1, 1, 0x0, 0x0, false, 0x0⟩,
  ⟨0x1C008, 4, 2, 0x0, 0x0, false, 0x0⟩,
  ⟨0x1C009, 4, 2, 0x0, 0x0, false, 0x0⟩,
  ⟨0x1C010, 1, 1, 0xFFFFFFFFF, 0x0, false, 0x0⟩,
  ⟨0x1C011, 1, 1, 0xCFFFFFFF, 0x0, false, 0x0⟩,
  ⟨0x1C040, 8, 16, 0xFFFF38, 0x0, false, 0x0⟩,
  ⟨0x1C041, 8, 16, 0xFFFFFFFFF, 0x0, false, 0x0⟩,
  ⟨0x1C042, 8, 16, 0xFFFFFFF, 0x0, false, 0x0⟩,
  ⟨0x1C043, 8, 16, 0xFFFFFFFFF, 0x0, false, 0x27⟩,
  ⟨0x1C044, 8, 16, 0xFFFFFFFFF, 0x0, false, 0x0⟩,
  ⟨0x1C045, 8, 16, 0x0, 0x0, false, 0x0⟩,
  ⟨0x1C046, 8, 16, 0x0, 0x0, false, 0x0⟩,
  ⟨0x1C047, 8, 16, 0x0, 0x0, false, 0x0⟩,
  ⟨0x1C048, 8, 16, 0x0, 0x0, true, 0x0⟩,
  ⟨0x1C049, 8, 16, 0x0, 0x0, false, 0x0⟩,
  ⟨0x1C04A, 8, 16, 0x0, 0x0, false, 0x0⟩,
  ⟨0x1C100, 1, 1, 0x307, 0x0, false, 0x1⟩,
  ⟨0x1C101, 1, 1, 0xFFFFFF, 0x0, false, 0x0⟩,
  ⟨0x1C102, 4, 1, 0xFFFFFFFFF, 0x0, false, 0x0⟩,
  ⟨0x1C106, 1, 1, 0xFFFFFFFFF, 0x0, false, 0x1⟩,
  ⟨0x1C107, 1, 1, 0xFFFFFFFFF, 0x0, false, 0x0⟩,
  ⟨0x1C108, 1, 1, 0xFFFFFFFFF, 0x0, false, 0x0⟩,
  ⟨0x1C109, 1, 1, 0x0, 0x0, false, 0x0⟩,
  ⟨0x1C10A, 1, 1, 0xFFFFFFFFF, 0x0, false, 0xEE6B2800⟩,
  ⟨0x1C10B, 1, 1, 0xFFFFFFFFF, 0x0, false, 0x0⟩,
  ⟨0x1C10C, 1, 1, 0x0, 0x0, false, 0x0⟩,
  ⟨0x1C10D, 1, 1, 0x0, 0x0, true, 0x0⟩,
  ⟨0x1C10E, 1, 1, 0x0, 0x0, true, 0x0⟩,
  ⟨0x1C110, 4, 1, 0x0, 0x0, false, 0x0⟩]

/-- Registers of block EVT. -/
def regsEVT : List RegRow := [
  ⟨0x20000, 1, 1, 0x0, 0x0, false, 0x0⟩,
  ⟨0x20001, 1, 1, 0x0, 0x0, false, 0x0⟩,
  ⟨0x20002, 1, 1, 0x0, 0x0, false, 0x0⟩,
  ⟨0x20003, 1, 1, 0x0, 0x1, false, 0x0⟩,
  ⟨0x20100, 256, 1, 0x0, 0x0, false, 0x0⟩,
  ⟨0x20200, 208, 1, 0x0, 0x0, true, 0x0⟩,
  ⟨0x20400, 208, 1, 0x3F, 0x0, false, 0x1⟩]

/-- Registers whose reset value differs along a run of one layout: R187 (PIP.KNEEs), R220 (MEM.RQn_CFG), R465 (MON.SEQk),
R478 (CAL.ITEMi), R524 (EVT.ROUTEc), and the identity lane map of LNK.LANE_MAPk. -/
def resetSpecials : List (Nat × Nat) :=
  [(0x4010, 0x8000003E8), (0x4011, 0x8000003E8), (0x4012, 0x800000064), (0x4013, 0x800002710), (0x4014, 0x800000000), (0x4015, 0x800000000), (0x6100, 0x1E00000), (0x6101, 0x21E00000), (0x6102, 0x41E00000), (0x6103, 0x61E00000), (0x6104, 0x81E00000), (0x6105, 0xA1E00000), (0x6106, 0xC1E00000), (0x6107, 0xE1E00000), (0x6108, 0x101E00000), (0x6109, 0x121E00000), (0x610A, 0x141E00000), (0x610B, 0x161E00000), (0x610C, 0x180600000), (0x610D, 0x1A0600000), (0x610E, 0x1C0600000), (0x610F, 0x1E0600000), (0x6110, 0x200600000), (0x6111, 0x220600000)] ++
  [(0x6112, 0x400600000), (0x6113, 0x420600000), (0x6114, 0x440600000), (0x6115, 0x460600000), (0x6116, 0x480600000), (0x6117, 0x4A0600000), (0x6118, 0xBE1E05D10), (0xC040, 0x30), (0xC044, 0x31), (0xC048, 0x32), (0xC04C, 0x33), (0xC050, 0x34), (0xC054, 0x35), (0xC058, 0x26), (0xC05C, 0x27), (0xC060, 0x8), (0xC064, 0x9), (0xE008, 0x0), (0xE009, 0x2020000), (0xE00A, 0x4040000), (0xE00B, 0x5080000), (0xE00C, 0x6100000), (0xE00D, 0x7200000), (0xE00E, 0x8400000)] ++
  [(0xE00F, 0x9800000), (0xF010, 0x1440C2040), (0xF011, 0x2CA2481C6), (0xF012, 0x4503CE34C), (0xF013, 0x5D65544D2), (0xF014, 0x75C6DA658), (0xF015, 0x7DE), (0x20404, 0x35), (0x20421, 0x35), (0x20442, 0x35), (0x20454, 0x37), (0x20455, 0x37), (0x20470, 0x37), (0x20471, 0x37), (0x20493, 0x33), (0x20494, 0x33), (0x20495, 0x33), (0x20496, 0x31), (0x204A1, 0x3D), (0x204B1, 0x3B), (0x204B3, 0x3B), (0x204C0, 0x31), (0x204C1, 0x39), (0x204C2, 0x39)] ++
  [(0x204C3, 0x39), (0x204C4, 0x39)]

/-- The rows of one block, by the address ranges of R17. -/
def regsOf (a : Nat) : List RegRow :=
  if a < 0x1000 then regsID else if a < 0x2000 then regsPWR else if a < 0x3000 then regsSEC else if a < 0x4000 then regsCFG
  else if a < 0x5000 then regsCAL else if a < 0x6000 then regsKTL else if a < 0x7000 then regsMON
  else if a < 0x8000 then regsTIM else if a < 0x9000 then regsFAB else if a < 0xA000 then regsCLK
  else if a < 0xB000 then regsMGT else if a < 0xC000 then regsHST else if a < 0xD000 then regsMEM
  else if a < 0xD800 then regsRDO else if a < 0xE000 then regsCNV else if a < 0xF000 then regsPIP
  else if a < 0x10000 then regsLNK else if a < 0x1C000 then regsSEQ else if a < 0x1D000 then regsSTP
  else if a < 0x20000 then [] else if a < 0x21000 then regsEVT else []

/-- Does a row hold the word address? -/
def RegRow.holds (r : RegRow) (a : Nat) : Bool :=
  r.base ≤ a && (a - r.base) % r.stride == 0 && (a - r.base) / r.stride < r.count

/-- The register at a word address, when one occupies it (R14, R18). -/
def regAt (a : Nat) : Option RegRow := (regsOf a).find? (·.holds a)

/-- The value of the register at a word address after reset. -/
def resetOf (a : Nat) : Word :=
  match resetSpecials.find? (·.1 == a) with
  | some (_, v) => BitVec.ofNat 36 v
  | none => match regAt a with
    | some r => BitVec.ofNat 36 r.reset
    | none => 0

end Sys2Proof.Machine
end

