-- ==== Sys2Proof/Machine/Cells.lean ====
section
/-! DEFINITION. Sparse storage in one canonical form: a list of (address, value) pairs with strictly rising addresses and no
value equal to what an unlisted address reads as. -/

namespace Sys2Proof.Machine

/-- Sparse storage: only addresses whose value differs from the default are listed. -/
abbrev Cells (α : Type) := List (Nat × α)

/-- Read one address; `d` says what an unlisted address reads as. -/
def Cells.get {α : Type} (d : Nat → α) (m : Cells α) (a : Nat) : α :=
  match m with
  | [] => d a
  | (k, v) :: rest => if k = a then v else Cells.get d rest a

/-- Take an address out of the list. -/
def Cells.drop {α : Type} (m : Cells α) (a : Nat) : Cells α :=
  match m with
  | [] => []
  | (k, w) :: rest => if k = a then Cells.drop rest a else (k, w) :: Cells.drop rest a

/-- Put an entry in its place by rising address. -/
def Cells.place {α : Type} (m : Cells α) (a : Nat) (v : α) : Cells α :=
  match m with
  | [] => [(a, v)]
  | (k, w) :: rest => if a < k then (a, v) :: (k, w) :: rest else (k, w) :: Cells.place rest a v

/-- Write one address, keeping the canonical form: writing the default removes the entry. -/
def Cells.put {α : Type} [DecidableEq α] (d : Nat → α) (m : Cells α) (a : Nat) (v : α) : Cells α :=
  if v = d a then Cells.drop m a else Cells.place (Cells.drop m a) a v

/-- All addresses are above `lo`, strictly rising, and no entry holds the default. -/
def Cells.wfFrom {α : Type} [DecidableEq α] (d : Nat → α) (lo : Nat) (m : Cells α) : Bool :=
  match m with
  | [] => true
  | (k, v) :: rest => decide (lo ≤ k) && !decide (v = d k) && Cells.wfFrom d (k + 1) rest

/-- The canonical form. -/
def Cells.wf {α : Type} [DecidableEq α] (d : Nat → α) (m : Cells α) : Bool := Cells.wfFrom d 0 m

/-- Write a run of values at rising addresses. -/
def Cells.putRun {α : Type} [DecidableEq α] (d : Nat → α) (m : Cells α) (a : Nat) : List α → Cells α
  | [] => m
  | v :: vs => Cells.putRun d (Cells.put d m a v) (a + 1) vs

/-- Read `n` values at rising addresses. -/
def Cells.getRun {α : Type} (d : Nat → α) (m : Cells α) (a : Nat) : Nat → List α
  | 0 => []
  | n + 1 => Cells.get d m a :: Cells.getRun d m (a + 1) n

end Sys2Proof.Machine
end

