-- ==== Sys2Proof/Syntax.lean ====
section
/-! DEFINITION. The commands of the block: one constructor per row of spec/opcode_table.json. The table gives its rows no bits and
no fields, so the operands are the model's (notes/assumptions/2.md): a row that is a register write names the writing path, the
index of the register and the word written; a row that is a happening carries what the outside world or an unmodelled analogue
part supplies. -/

namespace Sys2Proof

/-- A party that reads and writes the control space, holds transactions, latches and locks (R22, R9, R290); `boot` is the boot
controller at step 11 (R517), which no command names. -/
inductive Owner where
  | host | mgt | relay | thread (n : Fin 8) | boot
  deriving DecidableEq, Repr

/-- What a row's converters see beside the charge at its nominal gain (R118, R551): the deviation of each correlated double sample in 1/256 LSB, by read
noise, offset and remaining gain error; the active columns 0 to 14,335, the 48 dark and buffer columns of each side, and the two columns of each spare
that converts along (spare, left column, right column: R130), zero for a spare not named. -/
structure RowInput where
  active : List Int
  left : List Int
  right : List Int
  spares : List (Nat × Int × Int)
  deriving DecidableEq, Repr

/-- A HEARTBEAT payload (R369). -/
structure Heartbeat where
  src : BitVec 14
  master : Bool
  aligned : Bool
  seq : BitVec 8
  txTime : BitVec 76
  rxSeq : BitVec 8
  rxTime : BitVec 76
  mId : BitVec 14
  mPrio : BitVec 8
  epoch : BitVec 14
  mSeq : BitVec 16
  hops : BitVec 16
  deriving DecidableEq, Repr

/-- The gain match of a spare (R131): the trims it takes, and with them its measured gain in parts per million, on the scale on which a gain trim code
stands for 625. Its offset is measured from its dark samples. -/
structure SpareMatch where
  bank : Nat
  spare : Nat
  ofsTrim : Int
  gainTrim : Int
  gain : Int
  deriving DecidableEq, Repr

/-- What a calibration run measured (R475, R482, R126). `bad`: a measurement carried OVR, UNR or SETTLE, or an uncorrectable error. The corrections of MA
and MB; the bias generators' deviations from nominal after trimming, in 0.01 %, and their codes; the tap delays in femtoseconds and the settings; the
deviation of the ramp's own check against the band-gap in 0.01 %, the gain code each converter of the visited bank needs (converter 0 to 7,167,
spare 7,168 + k, edge 7,280 + e) and those that miss a code; nothing for item 4, whose data stand in the pour areas; the matches of the spares. -/
inductive CalMeas where
  | mon (bad : Bool) (offA : Int) (gainA : Nat) (offB : Int) (gainB : Nat)
  | bias (bad : Bool) (deviations : List Int) (codes : List Int)
  | taps (bad : Bool) (delays : List Nat) (settings : List Nat)
  | ramp (bad : Bool) (check : Int) (gains : List (Nat × Int)) (missing : List Nat)
  | colofs
  | spares (bad : Bool) (results : List SpareMatch)
  deriving DecidableEq, Repr

/-- How a command of the management bus begins: with a START and an address, or the transfer goes on where SCL stood still (R424, R427). -/
inductive MgtFrom where
  | start (addr : BitVec 7)
  | resume
  deriving DecidableEq, Repr

/-- Where in a byte SCL stands still: in its acknowledge clock, or in bit `k` of it (R434). -/
inductive MgtStand where
  | ack
  | bit (k : Fin 8)
  deriving DecidableEq, Repr

/-- How a command of the management bus ends (R424, R431, R434): with a STOP; with a START that follows; or with SCL standing still, in the acknowledge of the
latest byte or in a bit of the next one. -/
inductive MgtEnd where
  | stop | restart
  | pause (stand : MgtStand)
  deriving DecidableEq, Repr

/-- How the answer to an alert goes (R438): all eight bits are sent; another device pulls a bit low that this one leaves high; or SCL stands still. -/
inductive AlertCourse where
  | sent
  | lost (bit : Fin 8)
  | pause (stand : MgtStand)
  deriving DecidableEq, Repr

/-- A frame of the host port (R397): WIDTH and RELAY of the command byte, the slot byte (of a command with RELAY set), the header bytes and
the write data bytes that the host clocked before HCS_N rose. -/
structure HostFrame where
  width : BitVec 2
  relay : Bool
  slot : BitVec 8
  header : List Byte
  data : List Byte
  deriving DecidableEq, Repr

/-- The commands and events of spec/opcode_table.json. -/
inductive Instr where
  /-- R291: A write by any path to a control-space register that has no row of its own; it is staged while the writer's transaction is OPEN, otherwise it takes effect, with any claim resolution it causes. -/
  | controlSpaceWrite (p : Owner) (a : BitVec 24) (v : Word)
  /-- R14: An access to a word address that no register occupies reads zero or is ignored and logs EV_BAD_ADDRESS. -/
  | badAddressAccess (p : Owner) (a : BitVec 24) (write : Bool)
  /-- R29: At the handover boundary a winner takes a resource from an active loser, and a pin is driven low for one tick. -/
  | claimHandover (res : BitVec 12)
  /-- R31: A write of ID.PROFILE_APPLY.ARRAY stages the five array enables in the path's transaction, or in one opened for a next-frame-start commit. -/
  | profileApply (p : Owner) (v : Word)
  /-- R42: STP.CLEAR_HI.GO starts a node clear in every zone of the mask that is neither steeping into nor being poured from the node, and logs EV_NODE_BUSY for skipped zones. -/
  | nodeClear (p : Owner) (v : Word)
  /-- R40: A node clear completes and clears the hold bits of its zones. -/
  | nodeClearComplete
  /-- R48: A write of ARM to STP.ENn_CTRL snapshots the entry and runs the arm checks, entering ARMING or REFUSED. -/
  | entryArm (p : Owner) (n : Fin 8) (v : Word)
  /-- R50: The last zone segment of an arming entry is loaded and the entry enters ARMED. -/
  | zoneSegmentsLoaded (n : Fin 8)
  /-- R53: A write of DISARM returns an ARMING or ARMED entry to IDLE and releases its claim. -/
  | entryDisarm (p : Owner) (n : Fin 8) (v : Word)
  /-- R58: A write of STP.SOFT_GO fires the SOFT entries it names together, or is taken by the frame controller as one fire. -/
  | softGo (p : Owner) (v : Word)
  /-- R62: A qualified edge of TRIG_P/N reaches STP and fires listening PIN entries or goes to the frame controller, or counts in STP.TRIG_MISSED. -/
  | trigEdge (rising : Bool) (lat : Fin 19) (width : Nat)
  /-- R66: At the start instant after the fire origin and DELAY, the photodiode reset is released, the start stamp is taken and the entry enters STEEPING. -/
  | steepStart (n : Fin 8)
  /-- R68: After DURATION + 1 ticks the transfer gate closes, hold bits set, the end time is recorded and the entry enters DONE. -/
  | steepEnd (n : Fin 8)
  /-- R74: STP.CTRL.ENABLE written from zero to one starts the charge pumps. -/
  | pumpStart (p : Owner) (v : Word)
  /-- R74: The pumps reach regulation and STP.STATUS.PUMP_READY becomes one. -/
  | pumpReady
  /-- R75: STP.CTRL.ENABLE written from one to zero lets running steeps complete and then stops the pumps. -/
  | pumpStop (p : Owner) (v : Word)
  /-- R76: A pump falls below its regulation level, PUMP_READY clears and EV_PUMP_LOW is logged. -/
  | pumpLow (pump : Fin 4)
  /-- R72: A write of STP.STROBE_ACT enables or moves the exposure-active output and claims its STROBE pin. -/
  | strobeActWrite (p : Owner) (v : Word)
  /-- R84: A write of STP.FRM_CTRL.GO snapshots the frame shape, runs the checks and claims a timer channel, or refuses. -/
  | frameGo (p : Owner) (v : Word)
  /-- R108: A write of STP.FRM_CTRL.STOP disarms, completes or closes the frame as the controller state requires and returns to IDLE. -/
  | frameStop (p : Owner) (v : Word)
  /-- R87: The nodes of the next frame become free and the controller arms all members in ascending entry order. -/
  | frameNodesFree
  /-- R87: Every member of the next frame is ARMED and the controller enters WAIT_FIRE. -/
  | frameArmed
  /-- R89: A fire reaches the frame controller and is admitted, opening a frame or starting a due infusion, or is ignored and counted as blocked. -/
  | frameFire
  /-- R553: A timed member's start falls due and is judged, and the member steeps or is disarmed for the frame. -/
  | memberStart (n : Fin 8)
  /-- R93: The inactive TRIG_P/N edge ends the level-controlled steeps of the infusion and records the measured duration. -/
  | levelSteepEnd (lat : Fin 19) (width : Nat)
  /-- R100: The origin of the next frame of a mode 0x3 train arrives, and the frame opens or is skipped. -/
  | trainFrameOrigin
  /-- R104: The idle time of a pulse-paced frame reaches BURST_IDLE_LIMIT with HOLD zero and the frame closes as partial. -/
  | idleClose
  /-- R498: A write of STP.FRM_NUMBER while the controller is IDLE or REFUSED sets the next frame number and advances the session number. -/
  | frmNumberWrite (p : Owner) (v : Word) (stored : Bool)
  /-- R136: CNV.CTRL.SPARE_EN set to one assigns spares to waiting failed converters in ascending bank and converter order. -/
  | spareEnable (p : Owner) (v : Word)
  /-- R127: A write of one to CNV.STATUS.BANK_FAULT resumes substitution in the bank. -/
  | bankFaultResume (p : Owner) (v : Word)
  /-- R137: CNV.SUB_CMD FORCE fails the named converter with cause 5. -/
  | cnvForce (p : Owner) (v : Word)
  /-- R137: CNV.SUB_CMD RELEASE returns a substituted converter to the data path at the next pour start of its bank. -/
  | cnvRelease (p : Owner) (v : Word)
  /-- R144: A write of RDO.MAN_POUR.GO queues a manual pour with the node and windows taken at the write. -/
  | manPourGo (p : Owner) (v : Word)
  /-- R140: On a line-period boundary RDO starts the next queued pour, taking its snapshot, judging storage age, placing its area and applying spare changes and kettle idle periods. -/
  | pourStart
  /-- R554: RDO takes a record with no present infusion on the boundary where its pour would start, snapshots its windows and makes the frame ready. -/
  | emptyRecordTake
  /-- R155: On a line-period boundary RDO starts the next rows of the pour in their banks, or moves a start when no row buffer is free. -/
  | rowStart
  /-- R123: A bank finishes converting a row and hands its samples to a free RDO row buffer. -/
  | rowHandover (bank : Fin 4) (x : RowInput)
  /-- R158: The samples of a row are written to memory and its row buffer becomes free. -/
  | rowWriteDone (bank : Fin 4)
  /-- R154: After the last converted row passes its transfer, or 2,000 ticks after a pour with no rows, RDO clears the node in the covered zones still held. -/
  | pourNodeClear
  /-- R157: The pour's time and last memory writes complete, the descriptor is written and the next pour may start. -/
  | pourEnd
  /-- R276: A line-period boundary falls, posting event 0 and swapping in a staged slot table. -/
  | linePeriodBoundary (reading : BitVec 16)
  /-- R165: PIP begins a ready frame, taking its settings, checking the knee table and swapping the defect map, or discards the frame. -/
  | pipFrameStart
  /-- R164: PIP ends a frame, writes the output header last, posts event 8 and releases pour areas under RELEASE 0. -/
  | pipFrameEnd
  /-- R178: PIP.DMAP_CTRL.SWAP checks the staged defect map and takes it into force at the next PIP frame start, or refuses it. -/
  | dmapSwap (p : Owner) (v : Word)
  /-- R176: A write of PIP.DMAP_CTRL.EXT enables the extended defect context and claims the preview line buffer. -/
  | dmapExtEnable (p : Owner) (v : Word)
  /-- R197: A write of PIP.PREVIEW.EN enables the preview engine and claims the preview line buffer. -/
  | previewEnable (p : Owner) (v : Word)
  /-- R221: In each round a channel arbiter decides the grant of the following round among eligible requests, counting losses and starvation. -/
  | arbiterDecision (c : Fin 8) (posts : List (Fin 10)) (upsets : List (BitVec 28 × Bool))
  /-- R222: A requester entering reset or power-down is masked, removing its requests and resetting its loss count. -/
  | requesterMask (n : Fin 10) (on : Bool)
  /-- R207: A channel's scrubber reads the next beat in an idle round after its interval, correcting and marking rows. -/
  | scrubRead (c : Fin 8)
  /-- R208: The scrubber writes a corrected beat back in the next idle round, unless a requester wrote it meanwhile. -/
  | scrubWriteback (c : Fin 8)
  /-- R210: The copy of a marked row into a spare row ends and the redirection takes effect, logging EV_MEM_REMAP. -/
  | rowRemapDone (c : Fin 8)
  /-- R213: MEM.RING_CTRL.APPLY checks the region registers and applies them or refuses. -/
  | ringApply (p : Owner) (v : Word)
  /-- R216: A write of MEM.POUR_RELEASE releases the oldest releasable pour areas. -/
  | pourRelease (p : Owner) (v : Word)
  /-- R218: A write of MEM.OUT_RELEASE releases the oldest output areas. -/
  | outRelease (p : Owner) (v : Word)
  /-- R250: At a packet boundary LNK chooses the next unit among VC0 lines, FS, FE and trailer, and VC1, VC2 and VC3 packets, and begins sending it. -/
  | linkPacketBoundary (pvLane : Bool) (idle : Nat) (stall : Option Nat)
  /-- R19: The awaited payload words arrive and LNK resumes the packet. -/
  | linkPayloadReady (pvLane : Bool) (idle : Nat) (stall : Option Nat)
  /-- R238: At every 16,384th block position each lane sends an AM, the line monitors give their verdict and a pending lane map takes effect. -/
  | alignmentMarker (pvLane : Bool) (ok : BitVec 35)
  /-- R254: SEC delivers the frame tag and LNK sends the held FE and trailer. -/
  | tagReady
  /-- R256: A completed preview buffer is started as a VC1 or preview-lane frame once PV_INTERVAL has passed since the previous preview FS. -/
  | previewFrameStart
  /-- R257: LNK.PV_CTRL.EN with ROUTE 2 enables the preview copy and claims LTX33. -/
  | previewCopyEnable (p : Owner) (v : Word)
  /-- R262: A write of LNK.CTRL.SPARE_EN enables lane sparing and claims the free spare lanes. -/
  | laneSpareEnable (p : Owner) (v : Word)
  /-- R258: LNK.CTRL.RETRAIN finishes the current line, ends the frame with TRUNCATED and starts a training. -/
  | linkRetrain (p : Owner) (v : Word)
  /-- R259: Two marker periods into training the line-monitor verdicts are taken and, in SELF mode, the lane map is formed. -/
  | linkTrainVerdict (ok : BitVec 35)
  /-- R260: A write of LNK.TRAIN_ACK acknowledges lanes and ends the ACK wait when every logical lane in use is acknowledged. -/
  | trainAck (p : Owner) (v : Word)
  /-- R260: LNK.TRAIN_TIMEOUT expires in ACK mode, unacknowledged lanes fail, and the training repeats once or the link goes DOWN. -/
  | trainAckTimeout
  /-- R263: LNK.LANE_CMD FORCE_FAIL fails a lane at run time, with the new map applied after the frame in flight. -/
  | laneForceFail (p : Owner) (v : Word)
  /-- R263: LNK.LANE_CMD RETURN clears a lane's fail mark so that it is tried at the next training. -/
  | laneReturn (p : Owner) (v : Word)
  /-- R265: The link PLL has not relocked 2 ms after its loss, the frame ends with TRUNCATED and a training starts. -/
  | linkHoldoverExpiry
  /-- R266: The link PLL coasting limit passes without lock, every lane goes electrically idle and the link is DOWN. -/
  | linkCoastLimit
  /-- R272: THn_CTRL.START makes a HALTED thread RUNNING from SEQ.THn_PC. -/
  | threadStart (p : Owner) (n : Fin 8) (v : Word)
  /-- R272: THn_CTRL.STOP halts a running or waiting thread, keeping its locks and transaction. -/
  | threadStop (p : Owner) (n : Fin 8) (v : Word)
  /-- R272: THn_CTRL.RESET halts the thread, clears its context, loads its entry address, releases its locks and aborts its transaction. -/
  | threadReset (p : Owner) (n : Fin 8) (v : Word)
  /-- R280: An instruction is still running at the end of the last slot of its run, EV_SLOT_OVERRUN is logged and the thread loses its next owned slot. -/
  | slotOverrun (t : Fin 8) (extra : Nat)
  /-- R286: The timeout of a waiting thread expires and the wait delivers 64. -/
  | waitTimeout (t : Fin 8)
  /-- R288: A write of SEQ.SIGNAL posts the named software events to every thread. -/
  | signalWrite (p : Owner) (v : Word)
  /-- R288: A write of SEQ.DOORBELL posts event 40 or 41 according to the writing path. -/
  | doorbell (p : Owner) (v : Word)
  /-- R289: A write of SEQ.PINOUTk enables the sequencer event output and claims its pin, or is ignored as a whole. -/
  | pinoutWrite (p : Owner) (k : Fin 4) (v : Word)
  /-- R289: WIDTH + 1 ticks after the last posting the event-output pulse ends. -/
  | pinoutPulseEnd (k : Fin 4)
  /-- R290: SEQ.TX_CMD BEGIN opens the writing path's transaction. -/
  | txCmdBegin (p : Owner) (v : Word)
  /-- R293: SEQ.TX_CMD COMMIT moves the transaction to PENDING for application at the named boundary. -/
  | txCmdCommit (p : Owner) (v : Word)
  /-- R296: SEQ.TX_CMD ABORT aborts the path's transaction with cause 4. -/
  | txCmdAbort (p : Owner) (v : Word)
  /-- R294: At the first boundary of its kind after preparation a pending transaction applies all its staged writes in one step and posts event 42. -/
  | txApply (o : Owner)
  /-- R299: A write of ACQUIRE to SEQ.LOCKk makes the writer holder of a free lock, or fails. -/
  | lockAcquire (p : Owner) (k : Fin 32) (v : Word)
  /-- R299: A write of RELEASE to SEQ.LOCKk frees a lock held by the writer and posts event 44, or faults or logs EV_LOCK_MISUSE. -/
  | lockRelease (p : Owner) (k : Fin 32) (v : Word)
  /-- R310: add writes q[a] + q[b] and sets the flags. -/
  | add (t : Fin 8)
  /-- R310: adc writes q[a] + q[b] + C and sets the flags. -/
  | adc (t : Fin 8)
  /-- R310: sub writes q[a] − q[b] and sets the flags. -/
  | sub (t : Fin 8)
  /-- R310: sbc writes q[a] − q[b] − C and sets the flags. -/
  | sbc (t : Fin 8)
  /-- R310: and writes q[a] & q[b]. -/
  | and_ (t : Fin 8)
  /-- R310: or writes q[a] | q[b]. -/
  | or_ (t : Fin 8)
  /-- R310: xor writes q[a] ^ q[b]. -/
  | xor_ (t : Fin 8)
  /-- R310: bic writes q[a] & ~q[b]. -/
  | bic (t : Fin 8)
  /-- R311: shl shifts q[a] left by q[b] bits 5:0. -/
  | shl (t : Fin 8)
  /-- R311: shr shifts q[a] right logically by q[b] bits 5:0. -/
  | shr (t : Fin 8)
  /-- R311: sar shifts q[a] right arithmetically by q[b] bits 5:0. -/
  | sar (t : Fin 8)
  /-- R310: mul writes bits 35:0 of the unsigned product. -/
  | mul (t : Fin 8)
  /-- R310: mulhu writes bits 71:36 of the unsigned product. -/
  | mulhu (t : Fin 8)
  /-- R310: cmp sets the flags of q[a] − q[b] without writing a register. -/
  | cmp (t : Fin 8)
  /-- R310: addi adds a sign-extended 22-bit immediate. -/
  | addi (t : Fin 8)
  /-- R310: andi ANDs a zero-extended 22-bit immediate. -/
  | andi (t : Fin 8)
  /-- R310: ori ORs a zero-extended 22-bit immediate. -/
  | ori (t : Fin 8)
  /-- R310: xori XORs a zero-extended 22-bit immediate. -/
  | xori (t : Fin 8)
  /-- R311: shli shifts left by an immediate amount of at most 36. -/
  | shli (t : Fin 8)
  /-- R311: shri shifts right logically by an immediate amount of at most 36. -/
  | shri (t : Fin 8)
  /-- R311: sari shifts right arithmetically by an immediate amount of at most 36. -/
  | sari (t : Fin 8)
  /-- R312: Short li loads a sign-extended 26-bit immediate. -/
  | liShort (t : Fin 8)
  /-- R312: Long li loads its 36-bit literal word. -/
  | liLong (t : Fin 8)
  /-- R310: cmpi sets the flags of q[a] minus a sign-extended immediate. -/
  | cmpi (t : Fin 8)
  /-- R314: b.cc branches on the thread's flags. -/
  | bCc (t : Fin 8)
  /-- R314: A register compare branch tests q[a] against q[b] and branches without changing the flags. -/
  | bccRegister (t : Fin 8)
  /-- R314: An immediate compare branch tests q[a] against an 8-bit immediate and branches. -/
  | bccImmediate (t : Fin 8)
  /-- R315: loop decrements its counter and branches while it is not zero. -/
  | loop (t : Fin 8)
  /-- R315: jal saves pc + 1 and jumps to TARGET. -/
  | jal (t : Fin 8)
  /-- R315: jr jumps to q[a] bits 13:0. -/
  | jr (t : Fin 8)
  /-- R316: ld.c reads the live control-space word at an absolute address. -/
  | ldCAbsolute (t : Fin 8)
  /-- R316: st.c writes, or stages, a control-space word at an absolute address. -/
  | stCAbsolute (t : Fin 8)
  /-- R316: ld.c reads the control-space word at register plus offset. -/
  | ldCIndexed (t : Fin 8)
  /-- R316: st.c writes the control-space word at register plus offset. -/
  | stCIndexed (t : Fin 8)
  /-- R320: wait delivers a pending event of its base-and-mask set or enters WAITING with a timeout. -/
  | wait (t : Fin 8)
  /-- R320: wait.m waits on the 64-bit event set held in a register pair. -/
  | waitM (t : Fin 8)
  /-- R321: stamp reads the 72-bit delivered stamp into two registers. -/
  | stamp (t : Fin 8)
  /-- R321: time reads the timebase at the issue slot into two registers. -/
  | time (t : Fin 8)
  /-- R322: signal posts software event S. -/
  | signal (t : Fin 8)
  /-- R323: arm writes a steep entry's zone mask, duration and control with ARM. -/
  | arm (t : Fin 8)
  /-- R324: disarm writes STP.ENe_CTRL with DISARM one. -/
  | disarm (t : Fin 8)
  /-- R324: fire writes STP.SOFT_GO with MASK. -/
  | fire (t : Fin 8)
  /-- R324: pour writes RDO.MAN_POUR with GO, the node and the window mask. -/
  | pour (t : Fin 8)
  /-- R325: win writes the position and size registers of a readout window. -/
  | win (t : Fin 8)
  /-- R326: zrect builds a zone mask from a zone rectangle into a register pair. -/
  | zrect (t : Fin 8)
  /-- R325: zgain writes PIP.ZGAINz of one zone. -/
  | zgain (t : Fin 8)
  /-- R328: tmr writes one word of a timer channel's group as feature 7. -/
  | tmr (t : Fin 8)
  /-- R328: tmr.go writes the group-start register for the channels the thread holds. -/
  | tmrGo (t : Fin 8)
  /-- R330: fab.send offers a message to FAB and returns accepted or refused. -/
  | fabSend (t : Fin 8)
  /-- R331: fab.sched issues a scheduled trigger for time T and returns the acceptance result. -/
  | fabSched (t : Fin 8)
  /-- R332: tx.begin opens the thread's transaction. -/
  | txBegin (t : Fin 8)
  /-- R333: tx.commit commits the thread's transaction with a boundary, setting T first for TIME. -/
  | txCommit (t : Fin 8)
  /-- R332: tx.abort aborts the thread's transaction. -/
  | txAbort (t : Fin 8)
  /-- R332: lock tries to acquire lock K and writes 1 or 0. -/
  | lock (t : Fin 8)
  /-- R332: unlock releases lock K. -/
  | unlock (t : Fin 8)
  /-- R332: halt makes the thread HALTED, or faults if it holds shared state. -/
  | halt (t : Fin 8)
  /-- R332: nop does nothing. -/
  | nop (t : Fin 8)
  /-- R341: TIM.TB_CTRL.LOAD requests a load of the timebase, or is ignored while FAB aligns. -/
  | tbLoad (p : Owner) (v : Word)
  /-- R342: The timebase steps to a new value, setting STEPPED and releasing passed timed starts, commits and triggers. -/
  | tbStep
  /-- R346: A write of TIM.CHc_CFG starts, stops or reconfigures a channel and claims it and its pin, or is ignored. -/
  | channelCfgWrite (p : Owner) (c : Fin 16) (v : Word)
  /-- R347: A write of TIM.CHc_CMP sets the next match and may set CMP_PASSED. -/
  | cmpWrite (p : Owner) (c : Fin 16) (v : Word)
  /-- R346: A write of TIM.CHc_CNT loads the count at the next tick boundary. -/
  | cntWrite (p : Owner) (c : Fin 16) (v : Word)
  /-- R344: A running channel's prescaler expires and the count steps, producing matches, wraps, outputs, events and ONESHOT stops. -/
  | channelStep (c : Fin 16) (reading : BitVec 16)
  /-- R351: The strainer accepts a level change of a channel input, producing captures or gate closes. -/
  | strainedEdge (c : Fin 16) (level : Bool) (reading : BitVec 16)
  /-- R355: A read of TIM.CHc_CAP_LO latches CAP_HI, clears NEW and then posts any pending capture. -/
  | capLoRead (p : Owner) (c : Fin 16)
  /-- R357: A write of TIM.GSTART requests, replaces or cancels a group start. -/
  | groupStartWrite (p : Owner) (v : Word)
  /-- R358: At the start tick the named channels start together with their stagger offsets. -/
  | groupStart
  /-- R368: A fabric port detects a signal and enters TRAINING. -/
  | portSignalDetect (f : Fin 4)
  /-- R368: A TRAIN packet is received, and the port may enter UP or FAILED on a duplicate identifier. -/
  | trainReceived (f : Fin 4) (src : BitVec 14) (tstate : Fin 3) (ok : Bool)
  /-- R368: FAB.TRAIN_TIMEOUT passes without UP and the port enters FAILED. -/
  | portTrainTimeout (f : Fin 4)
  /-- R368: FAB.PORTp_CTRL.RETRAIN starts a training of the port. -/
  | portRetrain (p : Owner) (f : Fin 4) (v : Word)
  /-- R369: Each microsecond an UP port sends a timing mark and a HEARTBEAT packet. -/
  | heartbeatSend (f : Fin 4) (frac : Fin 16)
  /-- R371: A heartbeat is received and the offset, delay, master, parent and alignment are updated. -/
  | heartbeatReceived (f : Fin 4) (h : Heartbeat) (frac : Fin 16) (ok : Bool)
  /-- R368: No heartbeat arrives for 8 µs, the port enters LOST and routes and the parent are reselected. -/
  | heartbeatTimeout (f : Fin 4)
  /-- R377: Every 10 µs the master advances M_SEQ. -/
  | masterSeqAdvance
  /-- R377: M_SEQ has not advanced for 1 ms and an eligible device announces itself with a new epoch. -/
  | masterLost
  /-- R380: Every 16 ms the device floods a PRESENCE packet. -/
  | presenceFlood
  /-- R380: A PRESENCE packet updates routes and alternates and is forwarded once. -/
  | presenceReceived (f : Fin 4) (src : BitVec 14) (seq : BitVec 8) (hops : BitVec 16) (ok : Bool)
  /-- R380: An identifier not heard for 48 ms is removed from the routes. -/
  | routeExpiry (id : BitVec 14)
  /-- R383: FAB.SCHED_CMD.ISSUE judges a scheduled trigger and floods it when accepted. -/
  | schedIssue (p : Owner) (v : Word)
  /-- R384: A SCHED packet is forwarded, deduplicated and handed over to the pending table, or counted late. -/
  | schedReceived (f : Fin 4) (issuer : BitVec 14) (seq : BitVec 8) (id : BitVec 8) (T : Stamp) (ok : Bool)
  /-- R385: At T a pending trigger fires the listening STP entries, the frame controller and trigger outputs. -/
  | schedTriggerFire
  /-- R387: A write of FAB.TRIGOUTk enables the trigger output and claims its GPIO pin, or is ignored. -/
  | trigoutWrite (p : Owner) (k : Fin 4) (v : Word)
  /-- R387: WIDTH + 1 ticks after T the trigger-out pin falls. -/
  | trigoutPulseEnd (k : Fin 4)
  /-- R389: A MESSAGE for the device enters the receive queue and posts event 32, or is dropped. -/
  | messageReceived (f : Fin 4) (dst : BitVec 16) (src : BitVec 14) (words : List Word) (dup ok : Bool)
  /-- R389: A write of FAB.RX_POP removes the oldest received message. -/
  | rxPop (p : Owner) (v : Word)
  /-- R391: A target carries out a RELAY_REQ as the control relay and answers, or repeats its kept response. -/
  | relayRequestReceived (f : Fin 4) (dst src : BitVec 14) (rseq : BitVec 8) (op : Fin 5) (count : Fin 16) (addr : BitVec 32) (words : List Word) (ok : Bool)
  /-- R392: The gateway receives the RELAY_RSP of its outstanding request. -/
  | relayResponseReceived (f : Fin 4) (dst src : BitVec 14) (rseq : BitVec 8) (status : Fin 5) (count : Fin 16) (words : List Word) (ok : Bool)
  /-- R392: FAB.RELAY_TIMEOUT expires without a response and a relay timeout is reported. -/
  | relayTimeout
  /-- R394: The gateway of a session has had no route for 1 ms and the session ends. -/
  | relaySessionExpiry
  /-- R405: CREAD reads control-space words as the host port, or relays the read. -/
  | cread (h : HostFrame) (ready : Bool)
  /-- R405: CWRITE writes or stages control-space words as the host port, or relays the write. -/
  | cwrite (h : HostFrame) (applied : Nat)
  /-- R408: DREAD reads data-port words in register mode, group by group. -/
  | dread (h : HostFrame) (ready taken : Nat)
  /-- R409: DWRITE writes data-port words in register mode through the write buffer. -/
  | dwrite (h : HostFrame) (drained : Nat)
  /-- R408: DREAD_P reads data-port words in packed mode. -/
  | dreadP (h : HostFrame) (ready taken : Nat)
  /-- R409: DWRITE_P writes data-port words in packed mode. -/
  | dwriteP (h : HostFrame) (drained : Nat)
  /-- R414: The TX command acts as a write of SEQ.TX_CMD by the host port. -/
  | txCommand (h : HostFrame)
  /-- R414: The LOCK command acquires or releases a lock and returns its owner. -/
  | lockCommand (h : HostFrame)
  /-- R415: PORT_RESET resets the host port owner and ends its relay sessions. -/
  | portReset (h : HostFrame)
  /-- R415: A write of one to HST.CTRL.PORT_RESET resets the host port owner. -/
  | hstCtrlPortReset (p : Owner) (v : Word)
  /-- R416: An undefined opcode or WIDTH 3 makes the device ignore the frame and log EV_HST_BAD_CMD. -/
  | hostBadCommand (cmd : Byte)
  /-- R404: A local read that answered NOT_READY completes and its result is kept for the repeat. -/
  | localReadComplete
  /-- R410: HCS_N rises and ends the frame, keeping committed words and setting HST.DP_NEXT. -/
  | hostCsRise
  /-- R424: A management-bus write transfer sets the page pointer and writes page bytes, triggering indirect accesses. -/
  | mgtWriteTransfer (addr : MgtFrom) (bytes : List Byte) (ending : MgtEnd)
  /-- R427: A management-bus read transfer sends page bytes from the pointer, taking and latching group words. -/
  | mgtReadTransfer (addr : MgtFrom) (n : Nat) (ending : MgtEnd)
  /-- R429: An indirect read or write completes, clearing BUSY and setting DONE. -/
  | indAccessDone
  /-- R431: A START or STOP inside a byte is a bus error, and it may be treated as a bus clear. -/
  | busError (start driven : Bool)
  /-- R434: MSDA has been driven low for 35 ms and the device releases it and resets the management bus owner. -/
  | stuckTimeout
  /-- R437: A read of the Alert Response Address is answered with arbitration, clearing the answering class. -/
  | alertResponse (lost : AlertCourse)
  /-- R444: The reference is lost and both PLLs enter holdover. -/
  | refLost
  /-- R445: A PLL loses lock with the reference present and enters holdover. -/
  | pllUnlock (link : Bool)
  /-- R450: The reference has been present for 100 µs and the PLLs begin to relock. -/
  | refReturn
  /-- R450: A PLL regains lock and HOLDOVER clears. -/
  | pllRelock (link band : Bool)
  /-- R443: A PLL has not locked 2 ms after boot step 7 began and EV_CLK_LOCK_FAIL is logged. -/
  | pllLockTimeout (link : Bool)
  /-- R459: A write of MON.CTRL.EN stops MON at the end of the running entry or starts it at entry 0. -/
  | monCtrlWrite (p : Owner) (v : Word)
  /-- R461: A write of MON.START configures the start source and, with OWN, claims the timer channel. -/
  | monStartWrite (p : Owner) (v : Word)
  /-- R463: A waiting entry takes no start within MON.START_TIMEOUT and proceeds with NOSTART. -/
  | monStartTimeout
  /-- R461: The first conversion of a started entry begins after the start delay. -/
  | monConversionBegin
  /-- R458: An entry's conversions end and its result, flags and cross-check are written. -/
  | monEntryResult (ma mb : List Int)
  /-- R458: An entry's DELAY_AFTER elapses and the next entry begins or waits. -/
  | monEntryEnd
  /-- R469: No round has ended for KTL.STALE and the kettle evaluates again. -/
  | kettleStaleEvaluation
  /-- R473: The grace time ends with the state still THROTTLE and the fixed cut is enforced. -/
  | kettleGraceExpiry
  /-- R473: A write of KTL.CTRL.PHASE ends or starts the grace time and enforcement. -/
  | kettlePhaseWrite (p : Owner) (v : Word)
  /-- R478: A write of CAL.RUN makes the named items due. -/
  | calRun (p : Owner) (v : Word)
  /-- R478: An item's PERIOD elapses after its previous run and it becomes due. -/
  | calItemDue (item : Fin 6)
  /-- R476: A due item begins running when no lower-index item runs and its hardware is idle. -/
  | calItemStart (item : Fin 6)
  /-- R484: An item finishes and its result is accepted as new targets or rejected. -/
  | calItemComplete (item : Fin 6) (m : CalMeas)
  /-- R479: An item has been due for four periods and EV_CAL_OVERDUE is logged. -/
  | calItemOverdue (item : Fin 6)
  /-- R485: Once per millisecond tap and bias values move one step towards their targets. -/
  | calSlewTick
  /-- R489: A store request snapshots the calibration state and writes the older caddy slot. -/
  | calStore (p : Owner) (v : Word)
  /-- R491: A caddy store's read-back ends and the check word is written, or the store fails. -/
  | calStoreComplete (ok : Bool)
  /-- R495: SEC.FUSE_CTRL.GO programs a fuse field, or refuses it. -/
  | fuseProgram (p : Owner) (v : Word)
  /-- R495: Fuse programming completes and is verified. -/
  | fuseProgramDone (ok : Bool)
  /-- R498: A write of SEC.CTRL.REKEY advances and stores the session number. -/
  | rekey (p : Owner) (v : Word) (stored : Bool)
  /-- R34: A write of SEC.CTRL.TAG_EN enables or disables the frame tag, or is ignored with EV_SECURE_LOCKED. -/
  | tagEnWrite (p : Owner) (v : Word)
  /-- R504: SEC.ATT_CTRL.GO starts an attestation request. -/
  | attest (p : Owner) (v : Word)
  /-- R506: SEC.ATT_CTRL.ABORT ends a running request with ERR reason 4. -/
  | attestAbort (p : Owner) (v : Word)
  /-- R505: The signed attestation response is complete, or the request fails. -/
  | attestComplete
  /-- R508: Every rail passes its undervoltage trip and a POWER_ON start begins. -/
  | powerOnReset (strap : Option (BitVec 4))
  /-- R509: A rail stays beyond a trip for 2 µs, which is logged as a supply fault. -/
  | supplyFault (uv ov : BitVec 6)
  /-- R508: A supply fault lasts 10 µs and the device resets. -/
  | brownOutReset (recorded : Bool)
  /-- R508: NRST held low for at least 1 µs and released resets the device. -/
  | nrstReset (strap : BitVec 4)
  /-- R508: A write of PWR.CTRL.SOFT_RESET by the host port or the management bus resets the device. -/
  | softReset (p : Owner) (v : Word)
  /-- R511: A boot step ends passed, failed or skipped, and the next step, a fallback, maintenance or RUN follows. -/
  | bootStepComplete (x : BitVec 8)
  /-- R513: A write of CFG.CTRL.FALLBACK_CLEAR returns the fallback record to its initial state. -/
  | fallbackClear (p : Owner) (v : Word)
  /-- R518: CFG.NVM_CMD LOAD copies a slot or the boot log into staging. -/
  | nvmLoad (p : Owner) (v : Word)
  /-- R518: CFG.NVM_CMD COMMIT writes staging into the older slot. -/
  | nvmCommit (p : Owner) (v : Word)
  /-- R518: A commit's read-back ends and the check word is written, or the commit fails. -/
  | nvmCommitDone (ok : Bool)
  /-- R523: EVT.CTRL.CLEAR removes every log entry and clears OVERFLOW and DROPPED. -/
  | logClear (p : Owner) (v : Word)
  /-- R523: A write of EVT.POP removes the oldest log entry. -/
  | logPop (p : Owner) (v : Word)
  /-- R302: At an owned slot a thread fetches a word that is not a defined encoding and faults with cause 1 without any effect. -/
  | undefinedEncodingFetch (t : Fin 8)
  /-- R388: A queued fabric MESSAGE finishes leaving its port and frees its place in the port's send queue of four. -/
  | messageSent (f : Fin 4)
  /-- R368: A fabric port's receiver gains code-group lock on its partner's signal, so that it sends TSTATE 1 or 2 in its TRAIN packets. -/
  | codeGroupLock (f : Fin 4)
  deriving DecidableEq, Repr

end Sys2Proof
end

