-- ==== Sys2Proof/Machine/State.lean ====
section
/-! DEFINITION. The state of the block: every register, queue, buffer, counter and mode the spec gives it, as plain data. The
control space stands in `Dev.ctl`, one sparse store of words keyed by address, where every register field has its one home,
except the fields that mirror the engines' own state below; those are computed when read (Machine/Control.lean). -/

namespace Sys2Proof.Machine

/-! ### Event log and claims -/

/-- One entry of the event log (R522). -/
structure LogEntry where
  code : Nat
  source : Nat
  detail : Word
  stamp : Stamp
  rep : Nat
  deriving DecidableEq, Repr

/-- A packet waiting for VC2 or VC3: its kind and its words (R248). -/
structure LinkPacket where
  kind : Nat
  words : List Word
  deriving DecidableEq, Repr

/-- A granted claim: the feature's index, its instance number, and the resources it holds (R23 to R26). -/
structure Claim where
  feat : Nat
  inst : Nat
  res : List Nat
  deriving DecidableEq, Repr

/-- A resource on its way from a loser to a winner (R29); `due` is the tick of the handover for pins and timer channels. -/
structure Handover where
  res : Nat
  winFeat : Nat
  winInst : Nat
  loseFeat : Nat
  loseInst : Nat
  due : Option Nat
  deriving DecidableEq, Repr

/-- Who holds and drives the pins: claims, handovers to come, and pins driven low (R29, R30). -/
structure Drive where
  claims : List Claim
  handovers : List Handover
  low : List (Nat × Nat)
  deriving DecidableEq, Repr

/-- What one path latched at its last read of a lower part: the address of an upper part, its word, and whether the
upper part is still unread (R9 to R11). -/
structure Latch where
  path : Owner
  addr : Nat
  word : Word
  fresh : Bool
  deriving DecidableEq, Repr

/-! ### SEQ -/

/-- Thread states (R271). -/
inductive ThreadState where
  | halted | running | waiting | faulted
  deriving DecidableEq, Repr

/-- The control fields of SEQ.THn_CTRL (R272). -/
inductive ThreadCtl where
  | start | stop | reset
  deriving DecidableEq, Repr

/-- A wait in progress (R285, R286): its event set, the tick its timeout expires (none: never), and the register of the result. -/
structure WaitCtx where
  set : Zones
  deadline : Option Nat
  dst : Nat
  deriving DecidableEq, Repr

/-- The context of one thread (R270). `pastEnd` is the mark of R303; `lastPc` the address of the
instruction issued last; `after` is the tick after which its next owned slot must
start; `lost` is the tick at which an instruction that overran retires: the first owned slot after it issues nothing (R280); until that tick the control
fields written wait in `ctl`, with what became due of the pending set at it marked by `cut` (R272); `pend` holds the pending events with their first stamps. -/
structure Thread where
  st : ThreadState := .halted
  cause : Nat := 0
  faultPc : Nat := 0
  pc : Nat := 0
  pastEnd : Bool := false
  lastPc : Nat := 0
  q : Vector Word 16 := Vector.replicate 16 0
  fz : Bool := false
  fn : Bool := false
  fc : Bool := false
  fv : Bool := false
  pend : List (Nat × Stamp) := []
  delivered : Stamp := 0
  wait : Option WaitCtx := none
  lost : Option Nat := none
  ctl : List ThreadCtl := []
  cut : Bool := false
  after : Option Nat := none
  deriving DecidableEq, Repr

/-- Transaction states (R290). -/
inductive TxState where
  | none | opened | pending | applied | aborted
  deriving DecidableEq, Repr

/-- The transaction of one owner (R290 to R296). `staged` keeps staging order; `order` is the arrival order of the commit;
`seen` the number of boundaries of its kind that had fallen at its arrival; `appliedAt` the tick of its
most recent application; `timeLo`, `timeHi` the owner's copy of SEQ.TX_TIME, and `commitTime` its value at the commit. -/
structure Tx where
  st : TxState := .none
  late : Bool := false
  cause : Nat := 0
  boundary : Nat := 0
  staged : List (Nat × Word) := []
  order : Nat := 0
  seen : Nat := 0
  appliedAt : Option Nat := none
  timeLo : Word := 0
  timeHi : Word := 0
  commitTime : Stamp := 0
  deriving DecidableEq, Repr

/-- The sequencer: threads, transactions, locks, the running line period (`lpStart` is the tick of its boundary, `lpP` its
length, `lpCount` the boundaries so far), and the pulses of the event outputs: the end tick of a running one, where the latest begins and ends, and those before it up to the tick at which it was set. -/
structure Seq where
  threads : Vector Thread 8 := Vector.replicate 8 {}
  txs : Vector Tx 12 := Vector.replicate 12 {}
  locks : Vector (Option Owner) 32 := Vector.replicate 32 none
  slotPending : Bool := false
  lpNext : Option Nat := none
  lpStart : Option Nat := none
  lpP : Nat := 4000
  lpCount : Nat := 0
  commits : Nat := 0
  pulseEnd : Vector (Option Nat) 4 := Vector.replicate 4 none
  pulseFrom : Vector Nat 4 := Vector.replicate 4 0
  pulseTo : Vector Nat 4 := Vector.replicate 4 0
  pulsePast : Vector (List (Nat × Nat × Nat)) 4 := Vector.replicate 4 []
  deriving DecidableEq, Repr

/-! ### STP -/

/-- Entry states (R47). -/
inductive EntryState where
  | idle | arming | armed | steeping | done | refused
  deriving DecidableEq, Repr

/-- One arm entry: its state, and the programming it took at its arm (R46). `start` is the tick a taken fire will start it, `firedAt` the tick it
took that fire, `zones` the zones that will steep, `fired` those of the latest steep, which started at `startedAt` and ends at `endAt`, `past` the start and end of steeps just before it, each up to the tick at which the next was set; `member` marks an entry armed by the frame controller. -/
structure Entry where
  st : EntryState := .idle
  reason : Nat := 0
  mask : Zones := 0
  node : Nat := 0
  dur : Nat := 0
  delay : Nat := 0
  source : Nat := 0
  srcId : Nat := 0
  acc : Bool := false
  disc : Bool := false
  pol : Bool := false
  member : Bool := false
  start : Option Nat := none
  firedAt : Nat := 0
  zones : Zones := 0
  fired : Zones := 0
  startedAt : Nat := 0
  endAt : Nat := 0
  past : List (Nat × Nat × Nat) := []
  stamp : Stamp := 0
  flagHoldover : Bool := false
  flagPartial : Bool := false
  deriving DecidableEq, Repr

/-- A node clear in progress (R42); `byReg` when STP.CLEAR_HI started it. -/
structure NodeClear where
  node : Nat
  mask : Zones
  byReg : Bool
  deriving DecidableEq, Repr

/-- What has happened to the charge of a node in one transfer-gate segment since it was last cleared: a steep, by its number, has transferred into it;
it has held it until the numbered step 3 of a row, gathering dark charge and parasitic light; or a physical row of it has passed step 3 of its conversion
(R38, R39, R123). -/
inductive ChargeEvent where
  | steep (k : Nat)
  | stored (k : Nat)
  | row (p : Nat)
  deriving DecidableEq, Repr

/-- The array and steep controller: entries, hold bits per node (R40), the content of each node and segment, oldest first (R39, R56; key 64·node + zone,
and `edgeKey`, `refKey` of Machine/Stp.lean for the segments that follow a zone, R45), transfer-end ticks per node and zone (key 64·node + zone; zero: none; else tick + 1) (R41), last steep end per zone (same coding) (R59), node clears, pumps (`pumpStopping` lists the
steeps that R75 lets complete), the TRIG_P/N level, the reference zone in force, and the entry masks of the exposure-active output
before it was written, each up to the tick of the write. -/
structure Stp where
  entries : Vector Entry 8 := Vector.replicate 8 {}
  hold : Vector Zones 4 := Vector.replicate 4 0
  content : Cells (List ChargeEvent) := []
  ends : Cells Nat := []
  zoneEnd : Cells Nat := []
  clears : List NodeClear := []
  pumpReady : Bool := false
  pumpStopping : Option (List Nat) := none
  trig : Bool := false
  refZone : Nat := 0
  strobePast : List (Nat × Nat) := []
  deriving DecidableEq, Repr

/-! ### The frame controller -/

/-- Frame controller states, STP.FRM_CTRL.STATE. -/
inductive FrmState where
  | idle | waitNodes | arming | waitFire | opened | refused
  deriving DecidableEq, Repr

/-- A member in the snapshot of R84, with the DURATION and DELAY in force (R91). -/
structure Member where
  entry : Nat
  inf : Nat
  mask : Zones
  dur : Nat
  delay : Nat
  deriving DecidableEq, Repr

/-- Where a member stands in the open frame: not yet due, its start pending at a tick, steeping, ended, or not steeped. -/
inductive MemberPhase where
  | waiting | due (t : Nat) | steeping | ended | missed
  deriving DecidableEq, Repr

/-- What a member did in a frame: the zones and the duration in ticks it steeped with (R180). -/
structure SteepDone where
  inf : Nat
  mask : Zones
  dur : Nat
  deriving DecidableEq, Repr

/-- Why a frame is to close early (R104, R108). -/
inductive CloseCause where
  | idle | stopped
  deriving DecidableEq, Repr

/-- The open frame (R103): its number, origin, members, starts and status so far. `nextInf` is the infusion that is due in a
pulse-paced mode; `judged` says its start has been judged (R92); `idleFrom` is the tick its idle time counts from (none: not
counted); `closing` an early close decided; `serial` counts frames opened, as no number does (R111); `originStamp` is the stamp of the origin (R103);
`windDown` a frame opened while ENABLE had been written zero and the last steeps ran (R75); `inactiveAt` the tick at which an inactive edge ends members that have not started, `cut` the members whose end an inactive edge has set, and whether the
limit of 40 ticks set it (R93, R94); `lvlDur` holds infusion, start and end of each level steep (R96). -/
structure OpenFrame where
  num : Word
  origin : Nat
  r : Nat
  phases : List (Nat × MemberPhase)
  stamps : List (Nat × Stamp) := []
  steeps : List SteepDone := []
  holdover : List Nat := []
  limited : List Nat := []
  lvlDur : List (Nat × Nat × Nat) := []
  serial : Nat := 0
  originStamp : Stamp := 0
  windDown : Bool := false
  inactiveAt : Option Nat := none
  cut : List (Nat × Bool) := []
  nextInf : Nat := 0
  fireOrigin : Option Nat := none
  judged : Bool := false
  idleFrom : Option Nat := none
  held : Bool := false
  closing : Option CloseCause := none
  pumpLogged : Bool := false
  deriving DecidableEq, Repr

/-- A fire on its way to the frame controller: the tick it arrived, its origin (R64, R66), and for a scheduled trigger its time T. -/
structure CtlFire where
  at_ : Nat
  origin : Nat
  sched : Option Stamp
  late : Bool
  deriving DecidableEq, Repr

/-- The frame controller (R77 to R112). A train keeps its origin, its next frame, its period and its number of frames (R100); `idleWas` is the tick of the
latest write of HOLD or of the idle limit, with the limit and HOLD in force up to it (R104). -/
structure Frm where
  st : FrmState := .idle
  reason : Nat := 0
  members : List Member := []
  k : Nat := 1
  rotate : Bool := false
  offs : List Nat := []
  perFire : Nat := 1
  period : Nat := 0
  burst : Nat := 0
  mode : Nat := 1
  source : Nat := 0
  srcId : Nat := 0
  pol : Bool := false
  opened : Nat := 0
  trainT0 : Option Nat := none
  trainJ : Nat := 0
  trainPeriod : Nat := 0
  trainFrames : Nat := 0
  idleWas : Option (Nat × Nat × Bool) := none
  frame : Option OpenFrame := none
  stopping : Bool := false
  blockedLogged : Bool := false
  fires : List CtlFire := []
  frameOpens : Nat := 0
  lastOpen : Option Nat := none
  lastSerial : Option Nat := none
  deriving DecidableEq, Repr

/-- One infusion of a frame record: its node, its coverage, the zones that steeped, and whether it is present (R99, R110). -/
structure InfRecord where
  node : Nat
  cover : Zones
  steeped : Zones
  present : Bool
  aged : Bool := false
  deriving DecidableEq, Repr

/-- A frame record (R99): number, start stamp, K, rotation, infusions, status word, the exposures of R180, and the frame's serial number. -/
structure FrameRecord where
  num : Word
  stamp : Stamp
  infs : List InfRecord
  status : Word
  steeps : List SteepDone
  serial : Nat := 0
  deriving DecidableEq, Repr

/-! ### CNV -/

/-- A failed working converter that waits for a spare (R135, R136). -/
structure FailedConv where
  bank : Nat
  conv : Nat
  cause : Nat
  noSpare : Bool
  deriving DecidableEq, Repr

/-- A match target (R131): the offsets of the two columns and the gain last accepted for a converter before it failed. -/
structure MatchTarget where
  bank : Nat
  conv : Nat
  ofs : Int × Int
  gain : Int
  deriving DecidableEq, Repr

/-- A spare being matched (R131): the pours its offset has been matched over, whether its gain match has succeeded, whether it converts along in the
running pour, and its target. Its dark samples in the running pour and in the pours that count, column by column in 1/16 LSB at 12 bits, with the
sum of the bank's medians over those pours as a fraction; whether data of one of them was uncorrectable. -/
structure Matching where
  bank : Nat
  spare : Nat
  pours : Nat
  matched : Bool
  inPour : Bool
  tOfs : Int × Int := (0, 0)
  tGain : Int := 0
  cur : Nat × Nat := (0, 0)
  sum : Nat × Nat := (0, 0)
  mid : Nat × Nat := (0, 1)
  bad : Bool := false
  deriving DecidableEq, Repr

/-- The converters (R113 to R138), beside the substitution tables and counters of the control space: waiting converters, spares
being matched, failed edge converters (bank, edge converter), and the match targets of the converters that have failed. -/
structure Cnv where
  waiting : List FailedConv := []
  matching : List Matching := []
  edgeBad : List (Nat × Nat) := []
  targets : List MatchTarget := []
  deriving DecidableEq, Repr

/-! ### RDO -/

/-- One window of a snapshot (R142): its index and its two registers. -/
structure Win where
  k : Nat
  pos : Word
  size : Word
  deriving DecidableEq, Repr

/-- A request in RDO's queue (R139). -/
inductive PourReq where
  | frame (r : FrameRecord)
  | manual (node : Nat) (windows : Nat)
  deriving DecidableEq, Repr

/-- What is known of a pour area once it is written, for PIP and CAL: base, length, node, resolution, gain, coverage, valid
windows, dark rows, the converters that are defective and those a spare replaces. `dropped` when it did not fit (R215). -/
structure PourFacts where
  base : Nat
  len : Nat
  dropped : Bool
  inf : Nat
  res : Nat
  cg : Nat
  cover : Zones
  dark : Bool
  wins : List Win
  rows : List Nat
  defects : List (Nat × Nat)
  served : List (Nat × Nat × Nat) := []
  deriving DecidableEq, Repr

/-- A frame record in service: the next infusion to pour, its window snapshot, and the pours done (R142). -/
structure Serving where
  rec' : FrameRecord
  nextInf : Nat
  wins : Option (List Win)
  pours : List PourFacts
  deriving DecidableEq, Repr

/-- A row in conversion in a bank, or whose samples stand in a row buffer: physical row, start tick, codes of the active columns,
and of the dark and buffer columns left and right, and the content that step 3 moves out: by zone column, then left and right (R123). -/
structure RowBuf where
  row : Nat
  started : Nat
  codes : List Nat
  left : List Nat
  right : List Nat
  charge : List (List ChargeEvent) := []
  deriving DecidableEq, Repr

/-- The running pour (R140 to R163). `edgeBad` are the edge converters that had failed at its start (R128), `served` the
converters that a spare replaced then: bank, converter, spare (R133); `movedRow` is the row whose start moved last for want of a row buffer (R158). -/
structure Pour where
  manual : Bool
  num : Word
  inf : Nat
  node : Nat
  cover : Zones
  res : Nat
  cg : Nat
  dark : Bool
  wins : List Win
  start : Nat
  stamp : Stamp
  base : Nat
  len : Nat
  dropped : Bool
  aged : Zones
  agedFlag : Bool
  rowsLeft : List Nat
  total : List Nat
  needed : List Nat
  converting : List (Nat × RowBuf) := []
  buffers : List (Nat × RowBuf) := []
  done : List RowBuf := []
  bankFree : Vector Nat 4 := Vector.replicate 4 0
  lastStart : Option Nat := none
  lastTry : Option Nat := none
  cleared : Bool := false
  backlog : Bool := false
  movedRow : Option Nat := none
  defects : List (Nat × Nat) := []
  edgeBad : List (Nat × Nat) := []
  served : List (Nat × Nat × Nat) := []
  deriving DecidableEq, Repr

/-- A frame ready for PIP (R164): its record, the layout, and its pour areas. -/
structure ReadyFrame where
  rec' : FrameRecord
  wins : List Win
  pours : List PourFacts
  deriving DecidableEq, Repr

/-- The readout engine. `idleWant` is the number of idle line periods that the kettle asked for the next pour, `idleDone` those given (R145). -/
structure Rdo where
  queue : List PourReq := []
  serving : Option Serving := none
  pour : Option Pour := none
  ready : List ReadyFrame := []
  idleDone : Nat := 0
  idleWant : Option Nat := none
  lastTry : Option Nat := none
  lastInf : Nat := 0
  lastNode : Nat := 0
  winDropped : Nat := 0
  deriving DecidableEq, Repr

/-! ### MEM -/

/-- An area of a ring (R214): base and length in words, the frame it belongs to (none: a manual pour) with its serial number, whether it is released,
whether a release waits for PIP (R216), whether PIP has ended its frame, whether LNK has sent it (R251), and, for
an output area, the words of each line after its line word. -/
structure Area where
  base : Nat
  len : Nat
  frame : Option Word
  released : Bool := false
  deferred : Bool := false
  pipDone : Bool := false
  sent : Bool := false
  lens : List Nat := []
  serial : Nat := 0
  deriving DecidableEq, Repr

/-- One requester at one channel arbiter (R221 to R228): beats posted, the round its oldest request was first considered, its loss
count, the round of its next decision, and the beats of its open burst. -/
structure Rq where
  posted : Nat := 0
  first : Option Nat := none
  k : Nat := 0
  next : Nat := 0
  burst : Nat := 0
  deriving DecidableEq, Repr

/-- What the scrubber writes back (R208): the beat, its codewords as read and corrected, each with what remains of its error, and whether a requester has
written the beat since. -/
structure ScrubBack where
  beat : Nat
  codes : List (Word × Word × Nat)
  dirty : Bool := false
  deriving DecidableEq, Repr

/-- One channel (R200 to R231): its arbiter, the owner of the burst that the latest decisions went to, whether the requester granted was masked since (R223), whether a partial write holds the next round and whether one holds this round (R206), its scrubber (next beat,
next tick, a corrected beat to write back), the corrections per row in this pass, rows marked for remap, rows redirected, and the passes completed. -/
structure Channel where
  round : Nat := 0
  rqs : Vector Rq 10 := Vector.replicate 10 {}
  grant : Option Nat := none
  owner : Option Nat := none
  voided : Bool := false
  extra : Bool := false
  occupied : Bool := false
  scrubBeat : Nat := 0
  scrubDue : Nat := 0
  back : Option ScrubBack := none
  rowCe : Cells Nat := []
  marked : List Nat := []
  remapped : List Nat := []
  exhausted : Bool := false
  passes : Nat := 0
  deriving DecidableEq, Repr

/-- The frame memory and its arbiters. `words` is the frame memory by word address; `ecc` the codewords (address / 2) that hold a
single-bit error (1) or an uncorrectable one (2); then the regions in force and the two rings. -/
structure Mem where
  words : Cells Word := []
  ecc : Cells Nat := []
  pourBase : Nat := 0
  pourSize : Nat := 0x1FEDA000
  outBase : Nat := 0
  outSize : Nat := 0
  pvBase : Nat := 0x1FEDA000
  pours : List Area := []
  pourHead : Nat := 0
  outs : List Area := []
  outHead : Nat := 0
  channels : Vector Channel 8 := Vector.replicate 8 {}
  masked : List Nat := []
  starved : List Nat := []
  deriving DecidableEq, Repr

/-! ### PIP -/

/-- One output line (R192): window, output row, saturated pixels, its words, and whether a word was read uncorrectable (R244). -/
structure OutLine where
  win : Nat
  row : Nat
  sat : Nat
  words : List Word
  ue : Bool := false
  deriving DecidableEq, Repr

/-- An output frame (R192, R193): number, start stamp, status word, format, valid windows, the lines, its output area (none: the
destination is LNK alone), the total words of that area, and the frame's serial number. -/
structure OutFrame where
  num : Word
  stamp : Stamp
  status : Word
  fmt : Nat
  valid : Nat
  lines : List OutLine
  base : Option Nat
  len : Nat
  serial : Nat := 0
  deriving DecidableEq, Repr

/-- The states of a preview buffer (R196). -/
inductive BufState where
  | free | filling | complete | sending
  deriving DecidableEq, Repr

/-- A preview buffer: its state, the number, start stamp and status word of its source frame, and the order in which it was
completed. -/
structure PvBuf where
  st : BufState := .free
  num : Word := 0
  stamp : Stamp := 0
  status : Word := 0
  order : Nat := 0
  deriving DecidableEq, Repr

/-- The pixel pipeline (R164 to R199): the frame in process (`toLnk`: its lines go to LNK), the knee table in force as (START, SHIFT),
the defect map in force and one waiting for the next frame start, the defect-map staging space, the last clamp per bank (R171), the
preview engine's frame count since its enable, its finished image waiting for the frame end (buffer, words), and its buffers. -/
structure Pip where
  busy : Bool := false
  lastStart : Option Nat := none
  frame : Option OutFrame := none
  toLnk : Bool := false
  knees : List (Nat × Nat) := [(0, 0), (131072, 2), (262144, 4), (524288, 5), (1048576, 6), (2097152, 7), (4194304, 8), (8388608, 9)]
  dmap : List Word := []
  dmapNext : Option (List Word) := none
  staging : Cells Word := []
  clampLast : Vector (Option Nat) 4 := Vector.replicate 4 none
  pvCount : Nat := 0
  pvImage : Option (Nat × List Word) := none
  bufs : Vector PvBuf 2 := Vector.replicate 2 {}
  completed : Nat := 0
  deriving DecidableEq, Repr

/-! ### LNK -/

/-- A 66-bit block before scrambling (R234): control or data, and its payload. -/
structure Block where
  ctl : Bool
  payload : BitVec 64
  deriving DecidableEq, Repr

/-- A block on its lane: physical lane (34: PV_P/N), control or data, and the scrambled payload. -/
structure LaneBlock where
  lane : Nat
  ctl : Bool
  bits : BitVec 64
  deriving DecidableEq, Repr

/-- What follows the FE that ends a frame: nothing, or a training (R258, R265). -/
inductive AfterFe where
  | nothing | train
  deriving DecidableEq, Repr

/-- A VC0 frame that LNK sends: the frame; the base of the area it is read from (SRC one), with the address of its next line word and
the lengths of the lines to come; the lines to come of a frame taken from PIP; and what its FE reports (R246). `auth` says that it
carries a tag (R500, R501) of session `session`, `zeroTag` that the tag is zero (R500); `tagWait` holds the FE block for SEC (R254, R503);
`covered` holds the payloads that the tag covers (R502). -/
structure TxFrame where
  frame : OutFrame
  area : Option Nat := none
  addr : Nat := 0
  lens : List Nat := []
  rest : List OutLine := []
  fsSent : Bool := false
  holdover : Bool := false
  underrun : Bool := false
  ue : Bool := false
  truncated : Bool := false
  lines : Nat := 0
  auth : Bool := false
  zeroTag : Bool := false
  session : Nat := 0
  tagWait : Option (BitVec 64) := none
  after : AfterFe := .nothing
  covered : List (BitVec 64) := []
  deriving DecidableEq, Repr

/-- A preview frame that LNK sends (R254 to R256): its buffer, the next line, the route, and what its FE reports. -/
structure PvFrame where
  buf : Fin 2
  line : Nat := 0
  route : Nat
  holdover : Bool := false
  underrun : Bool := false
  ue : Bool := false
  deriving DecidableEq, Repr

/-- The stage of a training (R258): before the verdict, waiting for acknowledgements, or waiting for the marker of step 5. -/
inductive TrainStage where
  | verdict | ack | marker
  deriving DecidableEq, Repr

/-- A training (R258 to R260): its start tick, stage, lanes that passed, acknowledgements, the lanes an acknowledgement timeout failed,
and whether it is the repeated one; `boot` marks the training of boot step 9. -/
structure Training where
  start : Nat
  stage : TrainStage := .verdict
  passed : Nat := 0
  acked : Nat := 0
  deadline : Nat := 0
  ackFail : Nat := 0
  repeated : Bool := false
  boot : Bool := false
  deriving DecidableEq, Repr

/-- A packet that waits for its words (R253): its blocks still to send, its virtual channel, whether it is the last of its frame, and how many blocks lead
up to its first: IDLE blocks before one of those stand between packets. -/
structure Rest where
  blocks : List Block
  vc : Nat
  last : Bool
  lead : Nat := 0
  deriving DecidableEq, Repr

/-- The frame link (R233 to R269). `state` is LNK.STATUS.STATE; `map` the physical lane of each logical lane (63: none); `wide` that L is
32; `gen` counts lane-map generations; `amSeq`, `pvSeq` the markers sent on the frame link and on PV_P/N; `monFail` the consecutive failing verdicts per lane (34: PV_P/N); `forced` the lanes FORCE_FAIL took out; `known` that a training
has judged the lanes; `remap` a runtime map change that waits
(R263); `endEarly` a frame to end with TRUNCATED after the packet in progress (R258, R265); `copyUp` that LTX33 passed the latest
training; `k` the stream block number (R237); `pos` the blocks that each lane has sent since its latest marker (R238), 16,383 when the next is a marker; `behind` blocks of the
stream, and `laneBehind` those of a lane of the preview's own, that leave after the marker; `scr` the scramblers; `sent` the lane blocks and `markers` the markers of the latest
transmission; `stalled` and `pvStalled` packets that wait for their words; `owe` that a VC0 unit was sent last (R250); `swap0`, `swap1`
that LANE_GEN changed since the last FE of VC0, VC1, and `had0`, `had1` that there was one. -/
structure Lnk where
  state : Nat := 0
  idle : Bool := true
  rate : Nat := 0
  ackMode : Bool := false
  train : Option Training := none
  map : List Nat := List.range 32
  wide : Bool := true
  gen : Nat := 0
  amSeq : Nat := 0
  pvSeq : Nat := 0
  monFail : List Nat := List.replicate 35 0
  forced : Nat := 0
  known : Bool := false
  remap : Bool := false
  endEarly : Bool := false
  copyUp : Bool := false
  pvUp : Bool := false
  k : Nat := 0
  pos : Vector Nat 35 := Vector.replicate 35 0
  behind : List Block := []
  laneBehind : List (Nat × Block) := []
  scr : Vector (BitVec 58) 35 := Vector.replicate 35 0
  sent : List LaneBlock := []
  markers : List (Nat × BitVec 64) := []
  frames : List OutFrame := []
  cur : Option TxFrame := none
  pv : Option PvFrame := none
  stalled : Option Rest := none
  pvStalled : Option Rest := none
  owe : Bool := false
  vc2 : List LinkPacket := []
  vc3 : List LinkPacket := []
  seq2 : Nat := 0
  seq3 : Nat := 0
  lastFs : Word := 0
  swap0 : Bool := false
  swap1 : Bool := false
  had0 : Bool := false
  had1 : Bool := false
  lastPvFs : Option Nat := none
  copyFeAt : Option Nat := none
  copyBusy : Bool := false
  deriving DecidableEq, Repr

/-! ### CAL -/

/-- A calibration item (R478): the tick since when it is due, whether it runs, the tick its previous run ended, and whether
EV_CAL_OVERDUE has been logged. -/
structure CalItem where
  dueAt : Option Nat := none
  running : Bool := false
  lastEnd : Nat := 0
  overdue : Bool := false
  deriving DecidableEq, Repr

/-- What item 4 has gathered (R481): usable pours; per bank and column (14,336 · bank + column) the sum of the scaled samples and their
number; per bank the sum of the usable row-dark means in 1/64 LSB at 12 bits and their number; the bank whose data was
uncorrectable first; the converters of which a sample was left out (7,168 · bank + converter). -/
structure Gather where
  pours : Nat := 0
  sums : Cells Nat := []
  counts : Cells Nat := []
  dark : Vector Nat 4 := Vector.replicate 4 0
  darkN : Vector Nat 4 := Vector.replicate 4 0
  bad : Option Nat := none
  left : List Nat := []
  deriving DecidableEq, Repr

/-- A store in progress (R489): the slot, its sequence number, and its bytes, the check word last. -/
structure Storing where
  slot : Nat
  seq : Nat
  bytes : List Byte
  deriving DecidableEq, Repr

/-- The calibration (R475 to R493): column offsets in force and targets (14,336 · bank + column, in 1/16 LSB at 12 bits); gain trims in force and
targets (7,168 · bank + working converter; 28,672 + 112 · bank + spare; 29,120 + 48 · bank + edge converter); spare offset trims (112 · bank + spare); taps of the 72
delay lines and bias codes, in force and targets; lines that owe a tap step (R486); the tick of the latest slew step; the items;
the bank item 3 visits next; what item 4 gathers; the dark samples of each
converter and spare in the latest usable pour (7,280 · bank + converter, or + 7,168 + spare), and for how many such pours in a row its noise has lain beyond
the limit (cause 4 of R126); the measurement steps discarded and to be repeated (R477): delay line l as l, bank b as 72 + b; since when the banks are idle; the items rejected at boot step 10; stores. -/
structure Cal where
  ofs : Cells Int := []
  ofsTarget : Cells Int := []
  gain : Cells Int := []
  gainTarget : Cells Int := []
  spareOfs : Cells Int := []
  taps : Vector Nat 72 := Vector.replicate 72 256
  tapTarget : Vector Nat 72 := Vector.replicate 72 256
  tapOwed : List Nat := []
  bias : Vector Int 32 := Vector.replicate 32 0
  biasTarget : Vector Int 32 := Vector.replicate 32 0
  lastSlew : Nat := 0
  items : Vector CalItem 6 := Vector.replicate 6 {}
  bank : Nat := 0
  gather : Gather := {}
  lastDark : Cells (List Nat) := []
  noisy : Cells Nat := []
  discarded : List Nat := []
  idleFrom : Nat := 0
  boot : Bool := false
  bootRejects : Nat := 0
  storing : Option Storing := none
  again : Bool := false
  lastStore : Option Nat := none
  deriving DecidableEq, Repr

/-! ### SEC -/

/-- The owner's fuse fields (R494): programmed once and never cleared. KD and the VKs hold their 32 bytes as a big-endian number. -/
structure Fuses where
  secure : Bool := false
  kd : Option Nat := none
  vk0 : Option Nat := none
  vk1 : Option Nat := none
  rev0 : Bool := false
  rev1 : Bool := false
  svn : Nat := 0
  deriving DecidableEq, Repr

/-- An attestation request in progress (R504): its range (none: without MEM), the timebase and challenge of its GO. -/
structure AttReq where
  range : Option (Nat × Nat)
  stamp : Stamp
  chal : List Byte
  deriving DecidableEq, Repr

/-- The security engine (R494 to R506): the fuses as sensed at boot step 1, the UID then sensed, whether AK is valid, the outcome of the
signature checks, the hash of the signed region and the VK hash of check 2; the session in force and the latest one (R498), TAG_ON's
copy of TAG_EN (R501) and TAG_FAULT (R500); fuse programming in progress (field, data), the same cut by a reset until boot step 1, and the data staged; the attestation request,
and its response. -/
structure Sec where
  sensed : Fuses := {}
  uid : Nat := 0
  akValid : Bool := false
  signed : Bool := false
  vkUsed : Nat := 0
  sigResult : Nat := 0
  imageHash : Nat := 0
  vkHash : Nat := 0
  slotSeq : Nat := 0
  session : Nat := 0
  sNext : Nat := 0
  tagOn : Bool := false
  tagFault : Bool := false
  fuseBusy : Option (Nat × Nat) := none
  fuseCut : Option (Nat × Nat) := none
  fuseData : Vector Word 8 := Vector.replicate 8 0
  att : Option AttReq := none
  deriving DecidableEq, Repr

/-! ### MON and KTL -/

/-- Where the monitor sequence stands (R458, R461): stopped, waiting for a start since a tick, started with its first conversion to begin
at a tick, converting since a tick (`nostart`: R463), or in its DELAY_AFTER until a tick. -/
inductive MonPhase where
  | stopped | waiting (since : Nat) | started (at_ : Nat) | converting (since : Nat) (nostart : Bool) | delaying (until_ : Nat)
  deriving DecidableEq, Repr

/-- The monitor (R452 to R466): the phase and running entry; the table, length and mode that the round took at its start (R459); whether
MON stops at the end of the running entry; whether the next result of MA and of MB carries SETTLE (R457); the corrections
written since the running entry's first conversion (tick, correction number, word before); the rounds since reset; and the results of MA and MB that the
end of a CROSS entry compares (R464). -/
structure Mon where
  phase : MonPhase := .stopped
  entry : Nat := 0
  table : List Word := []
  len : Nat := 24
  lp : Bool := false
  stopping : Bool := false
  settleA : Bool := false
  settleB : Bool := false
  corrOld : List (Nat × Nat × Word) := []
  rounds : Nat := 0
  pair : Option (Nat × Nat) := none
  deriving DecidableEq, Repr

/-- One diode (R468): whether its newest reading is usable, and its last 16 usable readings, newest first, with their ticks. -/
structure Diode where
  good : Bool := false
  reads : List (Nat × Nat) := []
  deriving DecidableEq, Repr

/-- The kettle (R467 to R474): the state, the candidate and its count; SLOWDOWN and the end of the grace time; fixed cut enforced by the
grace time and by blindness; usable diodes at the latest evaluation; the proportional cut; the tick the next evaluation without a round counts from;
and the diodes. -/
structure Ktl where
  state : Nat := 0
  cand : Nat := 0
  count : Nat := 0
  slow : Bool := false
  graceEnd : Option Nat := none
  enforced : Bool := false
  blind : Bool := false
  usable : Nat := 0
  prop : Nat := 0
  lastEval : Nat := 0
  diodes : Vector Diode 12 := Vector.replicate 12 {}
  deriving DecidableEq, Repr

/-! ### TIM -/

/-- A value written to CMP or CNT that has not taken effect: the value and the tick boundary at which it does (R346, R347). -/
structure Waiting where
  value : Nat
  at_ : Nat
  deriving DecidableEq, Repr

/-- A timer channel (R343 to R355): running, or waiting for a group start; count, PERIOD and CMP in force; the tick of the next step (none:
stopped or the gate is closed) and the gated ticks left to it; written values that wait, and a start that waits for its tick boundary; the output level
before inversion, its levels before the latest changes, each up to the tick at which it ended, and the end of a one-step pulse; the inversions before the
latest writes of INV in the same form; the strained input level, the consecutive samples that showed the other
level, and the tick of the latest sample; counted edges; the ticks of the latest events posted; the capture held in the pending stage. -/
structure TimCh where
  running : Bool := false
  waitGo : Bool := false
  startAt : Option Nat := none
  count : Nat := 0
  period : Nat := 0xFFFFFFFFF
  cmp : Nat := 0
  next : Option Nat := none
  left : Nat := 0
  cmpWait : Option Waiting := none
  cntWait : Option Waiting := none
  out : Bool := false
  outs : List (Nat × Bool) := []
  pulseEnd : Nat := 0
  invs : List (Nat × Bool) := []
  level : Bool := false
  strained : Nat := 0
  sampledAt : Option Nat := none
  edges : Nat := 0
  posted : List Nat := []
  held : Option Stamp := none
  deriving DecidableEq, Repr

/-- A group start that waits (R357): channels, writer, earliest tick, the time T of a timed one, and whether T had passed. -/
structure GroupStart where
  mask : Nat
  owner : Owner
  due : Nat
  time : Option Stamp
  late : Bool
  deriving DecidableEq, Repr

/-- A step of the timebase that waits (R341, R372): the tick boundary it falls on, and the value loaded (R341) or the ticks added (R372). -/
structure TbStep where
  due : Nat
  load : Option Stamp
  add : Int
  deriving DecidableEq, Repr

/-- TIM: channels, group starts written with AT zero, the pending timed start, steps of the timebase to come, each owner's copy of
TIM.GSTART_TIME, and the tick at which the timebase started, which fixes the grid of pin-input samples (R350). -/
structure Tim where
  ch : Vector TimCh 16 := Vector.replicate 16 {}
  starts : List GroupStart := []
  timed : Option GroupStart := none
  steps : List TbStep := []
  times : Vector Stamp 12 := Vector.replicate 12 0
  gridAt : Nat := 0
  deriving DecidableEq, Repr

/-! ### FAB -/

/-- A port (R367 to R373): state; whether a signal is detected, code groups are locked, the partner is locked, and TSTATE 2 was received; the tick
its training began and its latest valid heartbeat came; the neighbour; its own heartbeat number and the tick of the next one; SEQ and arrival (in
sixteenths of a tick) of the latest heartbeat received; its own latest departures (number, sixteenths); the latest heartbeat; the last 64 delays
(twice d, in sixteenths); messages waiting to be sent; the bytes of the latest packet sent. -/
structure FabPort where
  st : Nat := 0
  signal : Bool := false
  locked : Bool := false
  partner : Bool := false
  gotTwo : Bool := false
  trainAt : Nat := 0
  lastHb : Nat := 0
  neigh : Nat := 0
  seq : Nat := 0
  nextHb : Nat := 0
  rx : Option (Nat × Nat) := none
  sentAt : List (Nat × Nat) := []
  hb : Option Heartbeat := none
  delays : List Int := []
  queue : List (List Byte) := []
  last : List Byte := []
  deriving DecidableEq, Repr

/-- An identifier heard (R380): the latest PRESENCE number, the tick it was heard, and the hops through each port it came by. -/
structure Route where
  id : Nat
  seq : Nat
  heard : Nat
  via : List (Nat × Nat)
  deriving DecidableEq, Repr

/-- A scheduled trigger in the pending table (R385). -/
structure Trigger where
  id : Nat
  time : Stamp
  deriving DecidableEq, Repr

/-- A message in the receive queue (R389). -/
structure Message where
  src : Nat
  words : List Word
  deriving DecidableEq, Repr

/-- The relay session of this device as a target (R392, R394): the gateway, its last RSEQ, the response kept for it (status, words), and since when
the gateway has had no route. -/
structure Session where
  gateway : Nat
  rseq : Nat
  status : Nat
  words : List Word
  lostAt : Option Nat := none
  deriving DecidableEq, Repr

/-- The fabric (R363 to R394). `master` is the master followed (identifier, priority); `epoch` the domain epoch; `mSeq` and `mSeqAt` the highest master
sequence and the tick of its latest advance; `lost` a master and epoch taken as lost; `thetas` the offsets of the latest exchanges with the parent in 1/512
tick, newest first, and `good` the exchanges at or below 0.1 ns; `presence` numbers its own floods; `seen` the last 64 triggers
(ISSUER, SEQ); `times` the owners' copies of FAB.SCHED_T; `trigEnd` the ends of running trigger-out pulses; `trigFrom` and `trigTo` where the latest pulses begin and end, and
`trigPast` those before them, each up to the tick at which it was replaced; `ended` the last
request and response kept when its session ended (R392); `flooded` the PRESENCE packets forwarded: SRC_ID, SEQ and tick (R380). -/
structure Fab where
  ports : Vector FabPort 4 := Vector.replicate 4 {}
  master : Option (Nat × Nat) := none
  epoch : Nat := 0
  mSeq : Nat := 0
  mSeqAt : Nat := 0
  lost : Option (Nat × Nat) := none
  parent : Option (Fin 4) := none
  tooFar : Bool := false
  hops : Nat := 0
  aligned : Bool := false
  holdSince : Option Nat := none
  thetas : List Int := []
  good : Nat := 0
  routes : List Route := []
  presence : Nat := 0
  presenceDue : Nat := 0
  dupAt : Option Nat := none
  schedSeq : Nat := 0
  seen : List (Nat × Nat) := []
  table : List Trigger := []
  times : Vector Stamp 12 := Vector.replicate 12 0
  trigEnd : Vector (Option Nat) 4 := Vector.replicate 4 none
  trigFrom : Vector Nat 4 := Vector.replicate 4 0
  trigTo : Vector Nat 4 := Vector.replicate 4 0
  trigPast : Vector (List (Nat × Nat × Nat)) 4 := Vector.replicate 4 []
  rx : List Message := []
  session : Option Session := none
  ended : Option Session := none
  flooded : List (Nat × Nat × Nat) := []
  deriving DecidableEq, Repr


/-! ### CLK -/

/-- The PLLs, beside CLK.STATUS (R442 to R451): whether each has locked since the reset, the tick of its latest entry into holdover, the ticks
that band changes added to TB_UNCERT in this holdover, and which PLL missed its time at boot step 7 (bit 0 timebase, bit 1 link). -/
structure Clk where
  tbStarted : Bool := false
  lkStarted : Bool := false
  tbSince : Nat := 0
  lkSince : Nat := 0
  extra : Nat := 0
  failed : Nat := 0
  deriving DecidableEq, Repr
/-! ### PWR, CFG and MRAM -/

/-- The fallback record (R513): channel states, ports that start disabled, lanes that start failed, the consecutive failures of steps
6, 8, 9 and 10, and whether the next start that reaches step 5 enters maintenance. -/
structure Fallback where
  chans : List Nat := [0, 0, 0, 0, 0, 0, 0, 0]
  ports : Nat := 0
  lanes : Nat := 0
  counts : List Nat := [0, 0, 0, 0]
  maint : Bool := false
  deriving DecidableEq, Repr

/-- A record of the session number in MRAM (R498): valid once its check word is written. -/
structure SessionRecord where
  valid : Bool := false
  number : Nat := 0
  deriving DecidableEq, Repr

/-- The MRAM, which keeps its content across every reset: the bytes of the slots and of the start records (Machine/Nvm.lean says where they stand), the
fallback record, what its two copies in the boot log were last written with and which is the newer (R519), the two records of the session number, the next start number and the place
of the next record in the ring; `ok` says that the next
store of the session number succeeds. -/
structure Nvm where
  bytes : Cells Byte := []
  fallback : Fallback := {}
  copies : Vector (Option Nat) 2 := Vector.replicate 2 none
  newer : Nat := 1
  sessions : Vector SessionRecord 2 := #v[{ valid := true }, {}]
  startNo : Nat := 0
  ring : Nat := 0
  ok : Bool := true
  deriving DecidableEq, Repr

/-- A transfer of CFG.NVM_CMD (R518): the region, the slot, its sequence number and its bytes. -/
structure Commit where
  region : Nat
  slot : Nat
  seq : Nat
  bytes : List Byte
  deriving DecidableEq, Repr

/-- The boot (R507 to R519): the step in progress (none: boot is over), results and codes of the steps of this start, the configuration and
defect-map slots in use, the slots excluded (R512, R514), the consecutive failures of the timebase PLL, whether a channel was masked in this
power-up, the shutdown record (cause, diode, temperature code, rail mask), the outcome, the commit in progress, the staging space, and the levels of the
rails (OV above UV), and whether the device is in RESET because the rails keep it there (R507), and the place of this start's record
once it has been written (R519). -/
structure Boot where
  step : Option Nat := some 0
  results : List (Nat × Nat) := []
  slot : Option Nat := none
  dmapSlot : Option Nat := none
  excluded : Nat := 0
  pllFails : Nat := 0
  masked : Bool := false
  shut : Nat × Nat × Nat × Nat := (0, 0, 0, 0)
  outcome : Nat := 0
  skipRule : Bool := false
  commit : Option Commit := none
  staging : Cells Nat := []
  rails : Nat := 0
  inReset : Bool := false
  recAt : Option Nat := none
  deriving DecidableEq, Repr


/-! ### HST -/

/-- What a local read reads: control words from an address, or words of a data-port space, perhaps packed. -/
inductive HostRead where
  | control (a n : Nat)
  | data (space a n : Nat) (packed : Bool)
  deriving DecidableEq, Repr

/-- The local result kept for a repeat (R404): the bytes of the command, what it reads, and the answer once it is complete. -/
structure Kept where
  bytes : List Byte
  read : HostRead
  answer : Option (List Byte)
  deriving DecidableEq, Repr

/-- The relay request of the host port (R390, R412): the bytes of the command, slot, target, RSEQ, OP, COUNT, ADDR, the words written, whether its
words travel packed to the host; the tick it was sent; whether its timeout has expired, and was reported; and the response held (status, words). -/
structure RelayReq where
  bytes : List Byte
  slot : Nat
  target : Nat
  rseq : Nat
  op : Nat
  count : Nat
  addr : Nat
  words : List Word
  packed : Bool
  sentAt : Nat
  late : Bool := false
  reported : Bool := false
  resp : Option (Nat × List Word) := none
  deriving DecidableEq, Repr

/-- The host port (R395 to R417): the kept local result, the relay request, the last RSEQ, the slots relayed to since the port reset, the session
ends still to send, the bytes driven in the latest frame, and the data-port transfer of the open frame (space, next word); `buffer` is the number of
committed words that stand in the write buffer of 64 words (R409), `writes` the control writes in progress, address and word, oldest first (R405). -/
structure Hst where
  kept : Option Kept := none
  relay : Option RelayReq := none
  rseq : Nat := 0
  used : List Nat := []
  ends : List Nat := []
  out : List Byte := []
  frame : Option (Nat × Nat) := none
  buffer : Nat := 0
  writes : List (Nat × Word) := []
  deriving DecidableEq, Repr

/-! ### MGT -/

/-- A group as its byte 0 was read (R426): the number of its first byte, the word taken, and the word that stood there just after; `fresh` while byte 4 has not
been sent, `stale` once the word has changed in that time. -/
structure MgtGroup where
  base : Nat
  word : Word
  after : Word
  fresh : Bool := true
  stale : Bool := false
  deriving DecidableEq, Repr

/-- An indirect access in progress (R429): a write or a read, its address and the word written. -/
structure IndOp where
  write : Bool
  addr : Nat
  word : Word
  deriving DecidableEq, Repr

/-- What the open transfer of the management bus does: nothing that the device takes part in, it takes the page pointer or data bytes, or it sends. -/
inductive MgtPhase where
  | quiet | pointer | writing | reading
  deriving DecidableEq, Repr

/-- The management bus (R418 to R438): the strap value; page pointer; group latches; the group whose byte 4 was read last and whether it was stale; the
IND bytes and status bits BAD_ADDR, STAGED and DONE; IND_DATA bytes held; the indirect access in progress; whether a transfer is open
(no STOP since its START); MGT.CTRL and MGT.ADDR as in force (R422); the bytes sent in the latest transfer, and whether its address was acknowledged;
since when the device has driven MSDA low without interruption, with SCL standing still (R434); what the open transfer does, the byte begun and
not yet sent (R427), and the class and the byte of an answer to an alert begun and not yet sent (R438). -/
structure Mgt where
  strap : BitVec 4 := 0
  ptr : BitVec 8 := 0
  groups : List MgtGroup := []
  lastGroup : Nat := 0
  lastStale : Bool := false
  indAddr : BitVec 24 := 0
  indCtrl : Byte := 0
  indData : Word := 0
  badAddr : Bool := false
  staged : Bool := false
  done : Bool := false
  held : List Byte := []
  ind : Option IndOp := none
  transfer : Bool := false
  ctrl : Word := 0x3C0000
  addr : Word := 0
  sent : List Byte := []
  acked : Bool := false
  lowSince : Option Nat := none
  phase : MgtPhase := .quiet
  cur : Option Byte := none
  alert : Option (Nat × Nat) := none
  deriving DecidableEq, Repr
/-- The event log (R521 to R524), beside its counters and routes in the control space; `held` the events of the decision in progress, which are handled at
its end in ascending code (none: no decision is in progress). -/
structure Evt where
  entries : List LogEntry := []
  overflow : Bool := false
  dropped : Nat := 0
  held : Option (List LogEntry) := none
  deriving DecidableEq, Repr

/-! ### The block and the machine -/

/-- Everything of the block but the fuses and the queue of commands. `tick` counts ticks since power-up and is never stepped; `tb` is the
timebase (R340), running while `tbRun`; `free` counts the free values drawn (the model's own field); `ctl` is the control space;
`asks` the claims asked for at this moment (R25); `pinLow` the pins driven low for a handover, with the tick that ends it (R30); `drives` who held and drove
the pins before the latest changes, each up to the tick at which it ended, as far back as a sample at the land looks (R350). -/
structure Dev where
  tick : Nat := 0
  tb : Stamp := 0
  tbRun : Bool := false
  free : Nat := 0
  ctl : Cells Word := []
  latches : List Latch := []
  claims : List Claim := []
  asks : List Claim := []
  suppressed : List (Nat × Nat) := []
  handovers : List Handover := []
  pinLow : List (Nat × Nat) := []
  drives : List (Nat × Drive) := []
  evt : Evt := {}
  seq : Seq := {}
  stp : Stp := {}
  frm : Frm := {}
  cnv : Cnv := {}
  rdo : Rdo := {}
  mem : Mem := {}
  pip : Pip := {}
  lnk : Lnk := {}
  tim : Tim := {}
  fab : Fab := {}
  clk : Clk := {}
  mon : Mon := {}
  ktl : Ktl := {}
  cal : Cal := {}
  sec : Sec := {}
  nvm : Nvm := {}
  boot : Boot := {}
  hst : Hst := {}
  mgt : Mgt := {}
  deriving DecidableEq, Repr

/-- Why a step stops with a fault. No meaning of this model ends in one: every failure of the block is a log event, a status bit or a
reason in a register. -/
inductive Fault where
  /-- Raised by nothing; the type needs a name. Safe. -/
  | none
  deriving DecidableEq, Repr

/-- Why a step is refused. -/
inductive Refusal where
  /-- A command whose meaning is not modelled yet, by its mnemonic. Raised by Dispatch alone. Safe. -/
  | notModelled (mnemonic : String)
  deriving DecidableEq, Repr

/-- The machine: the block, its fuses, and the commands that wait, first in, first out. -/
structure State where
  dev : Dev := {}
  fuses : Fuses := {}
  pending : List Instr := []
  deriving DecidableEq, Repr

/-- The machine right after a power-on reset (R508): every field at its reset value, PWR.STATE in BOOT with one start counted, boot at step 0. -/
def State.reset : State := { dev := { ctl := [(0x1000, 0x200000001)] } }

end Sys2Proof.Machine
end

