-- ==== Sys2Proof/Machine/Ops.lean ====
section
/-! DEFINITION. The named operations every block shares: the control-space store, time, owner codes, free values, posting events
to threads, the event log, and the session number. -/

namespace Sys2Proof

/-! ### Owners -/

/-- Owner codes (R22). -/
def Owner.code : Owner → Nat
  | .host => 1
  | .mgt => 2
  | .relay => 3
  | .thread n => 8 + n.val
  | .boot => 0

/-- Where an owner's transaction stands in the list. -/
def Owner.idx : Owner → Fin 12
  | .host => 0
  | .mgt => 1
  | .relay => 2
  | .thread n => ⟨n.val + 3, by omega⟩
  | .boot => 11

/-- The owner at a place in the list. -/
def Owner.ofIdx (i : Fin 12) : Owner :=
  if i.val = 0 then .host else if i.val = 1 then .mgt else if i.val = 2 then .relay else if i.val = 11 then .boot
  else .thread ⟨(i.val - 3) % 8, Nat.mod_lt _ (by decide)⟩

/-- The thread of an owner, when it is one. -/
def Owner.thread? : Owner → Option (Fin 8)
  | .thread n => some n
  | _ => none

end Sys2Proof

namespace Sys2Proof.Machine

/-- Does the device answer its ports? From boot step 1 on (R417, R420). -/
def Dev.hstAlive (s : Dev) : Bool := s.boot.step != some 0

/-! ### The control-space store -/

/-- The stored word of an address. -/
def Dev.rd (s : Dev) (a : Nat) : Word := Cells.get resetOf s.ctl a

/-- Store a word at an address. -/
def Dev.wr (s : Dev) (a : Nat) (v : Word) : Dev := { s with ctl := Cells.put resetOf s.ctl a v }

/-- Bits hi:lo of a stored word. -/
def Dev.fd (s : Dev) (a hi lo : Nat) : Nat := field (s.rd a) hi lo

/-- Bit i of a stored word. -/
def Dev.bt (s : Dev) (a i : Nat) : Bool := bit (s.rd a) i

/-- Set bits hi:lo of a stored word. -/
def Dev.wf (s : Dev) (a hi lo v : Nat) : Dev := s.wr a (setField (s.rd a) hi lo v)

/-- Set one bit of a stored word. -/
def Dev.wb (s : Dev) (a i : Nat) (v : Bool) : Dev := s.wf a i i (b2n v)

/-- A 36-bit counter counts once, saturating (R12 and the counters' descriptions). -/
def Dev.bump (s : Dev) (a : Nat) : Dev := s.wr a (satInc (s.rd a))

/-- The plain write of a register: RW bits take the value, W1C bits written as one clear, every other bit stays (R13); a register
without such bits stays. -/
def Dev.plainWrite (s : Dev) (a : Nat) (v : Word) : Dev :=
  match regAt a with
  | none => s
  | some r =>
    let rw : Word := BitVec.ofNat 36 r.rw
    let w1c : Word := BitVec.ofNat 36 r.w1c
    if rw = 0 ∧ w1c = 0 then s else s.wr a (((s.rd a &&& ~~~ rw) ||| (v &&& rw)) &&& ~~~ (v &&& w1c))

/-- A 72-bit value held in two words of the store. -/
def Dev.wr72 (s : Dev) (a : Nat) (t : Stamp) : Dev := (s.wr a (loWord t)).wr (a + 1) (hiWord t)

/-- The 72-bit value held in two words of the store. -/
def Dev.rd72 (s : Dev) (a : Nat) : Stamp := joinWords (s.rd a) (s.rd (a + 1))

/-- Is the device in RESET, MAINTENANCE or SHUTDOWN, where no engine runs (R507)? -/
def Dev.dark (s : Dev) : Bool :=
  let st := s.fd R.PWR_STATE 35 33
  st == 3 || st == 4 || s.boot.inReset

/-- Is the device in SHUTDOWN, where the MRAM and the fuses do not run either (R507)? -/
def Dev.isShut (s : Dev) : Bool := s.fd R.PWR_STATE 35 33 == 4

/-! ### Free values -/

/-- Draw a free number below `n` (a number the spec leaves open). -/
def Dev.drawNat (s : Dev) (n : Nat) : Nat × Dev :=
  (Config.freeNat s.free % n, { s with free := s.free + 1 })

/-- Draw a free word. -/
def Dev.drawWord (s : Dev) : Word × Dev :=
  (Config.freeWord s.free, { s with free := s.free + 1 })

/-! ### Time -/

/-- Let time run to tick `t` when it lies ahead; the timebase runs with it (R3). -/
def Dev.to (s : Dev) (t : Nat) : Dev :=
  if s.tick < t then
    { s with tick := t, tb := if s.tbRun then s.tb + BitVec.ofNat 72 (t - s.tick) else s.tb }
  else s

/-- The timebase value of tick `t`, by the offset between tick and timebase now in force (R20). -/
def Dev.stampOf (s : Dev) (t : Nat) : Stamp :=
  if s.tbRun then s.tb + BitVec.ofNat 72 t - BitVec.ofNat 72 s.tick else s.tb

/-! ### What went before -/

/-- Keep what held before tick `t`, as far back as a sample at the land looks: 16 ticks (R350). -/
def keepPast {α : Type} (l : List (Nat × α)) (t : Nat) (old : α) : List (Nat × α) := l.filter (fun x => decide (t < x.1 + 20)) ++ [(t, old)]

/-- What held at tick `u`, when `now` is what holds now. -/
def pastAt {α : Type} (l : List (Nat × α)) (now : α) (u : Nat) : α := ((l.find? (fun x => decide (u < x.1))).map (·.2)).getD now

/-! ### Latches -/

/-- The copy a path holds of an upper part; zero when it read no lower part since reset (R11). -/
def Dev.latched (s : Dev) (p : Owner) (a : Nat) : Word :=
  match s.latches.find? (fun l => l.path = p ∧ l.addr = a) with
  | some l => l.word
  | none => 0

/-- Latch an upper part for a path (R9). -/
def Dev.latch (s : Dev) (p : Owner) (a : Nat) (w : Word) : Dev :=
  { s with latches := ⟨p, a, w, true⟩ :: s.latches.filter (fun l => !(decide (l.path = p) && l.addr == a)) }

/-- The path has read its copy of an upper part. -/
def Dev.latchRead (s : Dev) (p : Owner) (a : Nat) : Dev :=
  { s with latches := s.latches.map (fun l => if l.path = p ∧ l.addr = a then { l with fresh := false } else l) }

/-- A new result arrived at a latched value: every path that has read the lower part and not yet the upper part `a` finds bit
`stBit` of its copy, the STALE flag, set (R10). -/
def Dev.stale (s : Dev) (a stBit : Nat) : Dev :=
  { s with latches := s.latches.map (fun l =>
      if l.addr = a ∧ l.fresh then { l with word := setField l.word stBit stBit 1 } else l) }

/-! ### Threads, transactions and locks -/

/-- A thread's context. -/
def Dev.th (s : Dev) (n : Fin 8) : Thread := s.seq.threads[n]

/-- Replace a thread's context. -/
def Dev.setTh (s : Dev) (n : Fin 8) (t : Thread) : Dev :=
  { s with seq := { s.seq with threads := s.seq.threads.set n.val t n.isLt } }

/-- An owner's transaction. -/
def Dev.tx (s : Dev) (p : Owner) : Tx := s.seq.txs[p.idx]

/-- Replace an owner's transaction. -/
def Dev.setTx (s : Dev) (p : Owner) (t : Tx) : Dev :=
  { s with seq := { s.seq with txs := s.seq.txs.set p.idx.val t p.idx.isLt } }

/-- The holder of lock k. -/
def Dev.lock (s : Dev) (k : Fin 32) : Option Owner := s.seq.locks[k]

/-- Replace the holder of lock k. -/
def Dev.setLock (s : Dev) (k : Fin 32) (o : Option Owner) : Dev :=
  { s with seq := { s.seq with locks := s.seq.locks.set k.val o k.isLt } }

/-- A thread's register. -/
def Thread.reg (t : Thread) (r : Nat) : Word := t.q[r % 16]'(Nat.mod_lt _ (by decide))

/-- Write a thread's register. -/
def Thread.setReg (t : Thread) (r : Nat) (v : Word) : Thread :=
  { t with q := t.q.set (r % 16) v (Nat.mod_lt _ (by decide)) }

/-- Move past an instruction of `n` words; past the last word of instruction memory PC stays and the mark of R303 is set. -/
def Thread.advance (t : Thread) (n : Nat) : Thread :=
  if t.pc + n < 16384 then { t with pc := t.pc + n, pastEnd := false } else { t with pastEnd := true }

/-- Is event e enabled by the thread's SEQ.THn_EVMASK (R284)? -/
def Dev.evEnabled (s : Dev) (n : Fin 8) (e : Nat) : Bool :=
  if e < 36 then s.bt (R.SEQ_THn_EVMASK_LO n) e else s.bt (R.SEQ_THn_EVMASK_HI n) (e - 36)

/-- Insert a pending event, in ascending event number. -/
def insertPend (e : Nat) (st : Stamp) : List (Nat × Stamp) → List (Nat × Stamp)
  | [] => [(e, st)]
  | (f, u) :: rest => if e < f then (e, st) :: (f, u) :: rest else (f, u) :: insertPend e st rest

/-- Complete a wait (R285): the lowest pending event of the set is delivered with its stamp and its bit clears; none delivers 64
and no stamp. The thread goes on past the wait, in an owned slot that starts after this tick (R287). -/
def Thread.completeWait (t : Thread) (w : WaitCtx) (now : Nat) : Thread :=
  match t.pend.find? (fun x => w.set.getLsbD x.1) with
  | some (e, st) =>
    { (t.setReg w.dst (BitVec.ofNat 36 e)).advance 1 with
      st := .running, wait := none, delivered := st, pend := t.pend.filter (fun x => x.1 != e), after := some now }
  | none =>
    { (t.setReg w.dst 64).advance 1 with st := .running, wait := none, after := some now }

/-- Has an instruction that overran not retired by tick `now` (R280)? -/
def Thread.busy (t : Thread) (now : Nat) : Bool :=
  match t.lost with
  | some b => decide (now < b)
  | none => false

/-- A RESET that waited for retirement (R272) has cleared the pending set by tick `now`. -/
def Thread.cutPend (t : Thread) (now : Nat) : Thread :=
  if t.ctl.contains .reset && !t.cut && !t.busy now then { t with pend := [], delivered := 0, cut := true } else t

/-- A STOP or RESET that waited for retirement has ended the thread's wait before tick `now` (R272, R273). -/
def Thread.leftWait (t : Thread) (now : Nat) : Bool :=
  (t.ctl.contains .stop || t.ctl.contains .reset) && (match t.lost with
    | some b => decide (b < now)
    | none => false)

/-- Post event e to one thread (R284, R285). -/
def Dev.postTo (s : Dev) (n : Fin 8) (e : Nat) (st : Stamp) : Dev :=
  if s.evEnabled n e then
    let t := (s.th n).cutPend s.tick
    if t.pend.any (fun x => x.1 == e) then
      if e = 0 then s else s.bump (R.SEQ_THn_EVLOST n)
    else
      let t1 := { t with pend := insertPend e st t.pend }
      let s := s.stale (R.SEQ_THn_EVPEND_HI n) 35
      match t1.wait with
      | some w =>
        if t1.st = .waiting ∧ w.set.getLsbD e ∧ t1.leftWait s.tick = false then s.setTh n (t1.completeWait w s.tick) else s.setTh n t1
      | none => s.setTh n t1
  else s

/-- Post event e to every thread, with the stamp of its happening (R284). -/
def Dev.post (s : Dev) (e : Nat) (st : Stamp) : Dev :=
  (List.finRange 8).foldl (fun s n => s.postTo n e st) s

/-! ### The event log -/

/-- Make a management alert class pending (R435, R524). -/
def Dev.alertClass (s : Dev) (c : Nat) : Dev := s.wb R.MGT_ALERT c true

/-- The routes of a code (R524). -/
def Dev.routeEvent (s : Dev) (code : Nat) : Dev :=
  let r := s.rd (R.EVT_ROUTEc code)
  let s := if bit r 4 then s.alertClass (field r 3 1) else s
  if bit r 5 then s.wb R.EVT_HST_ALERT 0 true else s

/-- The four words of a log entry (R522). -/
def LogEntry.words (e : LogEntry) : List Word :=
  [place 35 28 e.code ||| place 27 12 e.source ||| place 11 0 e.rep, e.detail, loWord e.stamp, hiWord e.stamp]

/-- Hand a packet to LNK for VC3; with 16 waiting it is dropped and counted (R248, R249). -/
def Dev.toVc3 (s : Dev) (p : LinkPacket) : Dev :=
  if s.bt R.LNK_CTRL 16 then
    if s.lnk.vc3.length < 16 then { s with lnk := { s.lnk with vc3 := s.lnk.vc3 ++ [p] } }
    else s.bump R.LNK_VC3_DROPPED
  else s

/-- Take or merge a log entry: steps 3 to 6 of R523. -/
def Dev.takeEntry (s : Dev) (e : LogEntry) : Dev :=
  if s.bt (R.EVT_ROUTEc e.code) 0 then
    match s.evt.entries.getLast? with
    | some l =>
      if l.code = e.code ∧ l.source = e.source then
        { s with evt := { s.evt with entries := s.evt.entries.dropLast ++ [{ l with rep := min (l.rep + 1) 4095 }] } }
      else if s.evt.entries.length < 64 then
        (({ s with evt := { s.evt with entries := s.evt.entries ++ [e] } }).post 45 e.stamp).toVc3 ⟨0, e.words⟩
      else { s with evt := { s.evt with overflow := true, dropped := min (s.evt.dropped + 1) 4095 } }
    | none => (({ s with evt := { s.evt with entries := [e] } }).post 45 e.stamp).toVc3 ⟨0, e.words⟩
  else s

/-- EVT handles an event (R523). -/
def Dev.happen (s : Dev) (e : LogEntry) : Dev := ((s.bump (R.EVT_COUNTc e.code)).routeEvent e.code).takeEntry e

/-- An event happens with a given stamp; within a decision it is handled with the others of that decision (R523). -/
def Dev.logAt (s : Dev) (st : Stamp) (code source detail : Nat) : Dev :=
  let e : LogEntry := ⟨code, source % 2 ^ 16, BitVec.ofNat 36 detail, st, 0⟩
  match s.evt.held with
  | none => s.happen e
  | some l => { s with evt := { s.evt with held := some (l ++ [e]) } }

/-- An event happens now (R523). -/
def Dev.log (s : Dev) (code source detail : Nat) : Dev := s.logAt s.tb code source detail

/-- An event of a decision of its own within a command that stands for many, such as one access of a run: it is handled at once (R523). -/
def Dev.logNow (s : Dev) (code source detail : Nat) : Dev :=
  let d := { s with evt := { s.evt with held := none } }.log code source detail
  { d with evt := { d.evt with held := s.evt.held } }

/-- A decision begins: its events are held (R523). -/
def Dev.hold (s : Dev) : Dev := { s with evt := { s.evt with held := some [] } }

/-- Put an event behind those of the same or a lower code. -/
def insertEntry (e : LogEntry) : List LogEntry → List LogEntry
  | [] => [e]
  | x :: rest => if e.code < x.code then e :: x :: rest else x :: insertEntry e rest

/-- A decision that began in `old` ends: its events are handled in ascending code, those of one code in the order in which they happened (R523). -/
def Dev.endDecision (s old : Dev) : Dev :=
  let l := (s.evt.held.getD []).foldl (fun l e => insertEntry e l) []
  let d := l.foldl Dev.happen { s with evt := { s.evt with held := none } }
  { d with evt := { d.evt with held := old.evt.held } }

/-- A bad-address access (R14, R18, R550). -/
def Dev.badAddress (s : Dev) (p : Owner) (a : Nat) (write : Bool) : Dev :=
  s.log Ev.BAD_ADDRESS p.code (a % 2 ^ 24 + b2n write * 2 ^ 24)

/-! ### The session number -/

/-! ### Sequence numbers and the session -/

/-- Is sequence number a newer than b (R492)? -/
def newerSeq (a b : Nat) : Bool := a != b && decide ((a + 2 ^ 32 - b) % 2 ^ 32 < 2 ^ 31)

/-- The newer of the valid slots, from their validity and sequence numbers (R492, R512). -/
def newerSlot (v0 v1 : Bool) (q0 q1 : Nat) : Option Nat :=
  match v0, v1 with
  | false, false => none
  | true, false => some 0
  | false, true => some 1
  | true, true => some (if newerSeq q1 q0 then 1 else 0)

/-- The slot a store writes: an invalid slot, otherwise the one with the lower sequence number (R489). -/
def olderSlot (v0 v1 : Bool) (q0 q1 : Nat) : Nat :=
  if !v0 then 0 else if !v1 then 1 else if newerSeq q1 q0 then 0 else 1

/-- The stored session number: that of the newer valid record (R498). -/
def Nvm.session (n : Nvm) : Nat :=
  match newerSlot n.sessions[0].valid n.sessions[1].valid n.sessions[0].number n.sessions[1].number with
  | some 0 => n.sessions[0].number
  | some _ => n.sessions[1].number
  | none => 0

/-- Store a session number in the older record, its check word last (R489, R498): the record is valid once the read-back has matched. -/
def Nvm.store (n : Nvm) (number : Nat) (ok : Bool) : Nvm :=
  let k := olderSlot n.sessions[0].valid n.sessions[1].valid n.sessions[0].number n.sessions[1].number
  let r : SessionRecord := { valid := ok, number := number }
  { n with sessions := if k = 0 then n.sessions.set 0 r else n.sessions.set 1 r }

/-- A new session number (R498, R500), when KD is programmed: stored before it is used, it takes effect at the next VC0 FS. When it cannot be stored, TAG_FAULT
is set and the previous key kept. In SHUTDOWN neither SEC nor the MRAM runs, and nothing happens (R507). -/
def Dev.advanceSession (s : Dev) : Dev :=
  if s.sec.sensed.kd.isSome && !s.isShut then
    let n := (s.nvm.session + 1) % 2 ^ 32
    let s := { s with nvm := s.nvm.store n s.nvm.ok }
    if s.nvm.ok then { s with sec := { s.sec with sNext := n, tagFault := false } }.log Ev.SEC_REKEY 0 n
    else
      let s := if s.sec.tagFault then s else s.log Ev.SEC_TAG_FAIL 0 0
      { s with sec := { s.sec with tagFault := true } }.alertClass 5
  else s

end Sys2Proof.Machine
end

