-- ==== Sys2Proof/Machine/Claims.lean ====
section
/-! DEFINITION. Claims on shared resources: the resolution of R25 to R28, the loser's suppression, and the handover of R29, R30. -/

namespace Sys2Proof.Machine

/-- Is the resource a GPIO or STROBE pin, which R289 and R387 accept? -/
def isPin (res : Nat) : Bool := res < 0x00C || (0x010 ≤ res && res < 0x014)

/-- Is the resource a GPIO pin (R23)? -/
def isGpio (res : Nat) : Bool := res < 0x00C

/-- Is the resource a timer channel (R23)? -/
def isChannel (res : Nat) : Bool := 0x020 ≤ res && res < 0x030

/-- The owner code a side of a conflict is reported by (R27): an instance of feature 7 by its thread's code, which its instance
number carries above the channel. -/
def sideCode (feat inst : Nat) : Nat := if feat = 7 then inst / 16 else 0x20 + feat

/-- The instance number of feature 7: the thread's owner code above the channel (R26). -/
def inst7 (p : Owner) (c : Nat) : Nat := p.code * 16 + c

/-- Is the instance granted and past every handover (R26, R29)? -/
def Dev.active (s : Dev) (feat inst : Nat) : Bool :=
  s.claims.any (fun c => c.feat == feat && c.inst == inst) &&
  !s.handovers.any (fun h => h.winFeat == feat && h.winInst == inst)

/-- Does the instance still drive or configure the resource: it is active, or it lost the resource and the handover is to come
(R29)? -/
def Dev.usesRes (s : Dev) (feat inst res : Nat) : Bool :=
  (s.active feat inst && s.claims.any (fun c => c.feat == feat && c.inst == inst && c.res.contains res)) ||
  s.handovers.any (fun h => h.loseFeat == feat && h.loseInst == inst && h.res == res)

/-- Is the instance granted, its handovers done or not? -/
def Dev.granted (s : Dev) (feat inst : Nat) : Bool := s.claims.any (fun c => c.feat == feat && c.inst == inst)

/-- Ask for a claim; it is resolved with every other change of the same moment (R25). -/
def Dev.askClaim (s : Dev) (feat inst : Nat) (res : List Nat) : Dev :=
  { s with asks := s.asks.filter (fun c => !(c.feat == feat && c.inst == inst)) ++ [⟨feat, inst, res⟩] }

/-- Insert a claim by ascending feature, actives first, then ascending instance (R24, R26). -/
def insertClaim (c : Claim × Bool) : List (Claim × Bool) → List (Claim × Bool)
  | [] => [c]
  | d :: rest =>
    let before := decide (c.1.feat < d.1.feat) ||
      (c.1.feat == d.1.feat && ((c.2 && !d.2) || (c.2 == d.2 && decide (c.1.inst < d.1.inst))))
    if before then c :: d :: rest else d :: insertClaim c rest

/-- Who among the claims granted so far holds the resource. -/
def holderOf (granted : List Claim) (res : Nat) : Option Claim := granted.find? (fun c => c.res.contains res)

/-- Log a conflict (R27) and keep it in ID.CONFLICT_LAST (R32). -/
def Dev.conflict (s : Dev) (res : Nat) (w l : Claim) : Dev :=
  let wc := sideCode w.feat w.inst
  let lc := sideCode l.feat l.inst
  (s.wr R.ID_CONFLICT_LAST (place 35 35 1 ||| place 27 16 res ||| place 15 8 wc ||| place 7 0 lc)).log
    Ev.CONFLICT res (wc + lc * 256)

/-- Consider the claims in order (R26): grant each whose resources are all free, suppress and log every other. -/
def considerClaims : List (Claim × Bool) → List Claim → Dev → List Claim × Dev
  | [], granted, s => (granted, s)
  | (c, _) :: rest, granted, s =>
    let lost := c.res.filterMap (fun r => (holderOf granted r).map (fun w => (r, w)))
    if lost.isEmpty then
      considerClaims rest (granted ++ [c])
        { s with suppressed := s.suppressed.filter (fun x => x != (c.feat, c.inst)) }
    else
      let s := lost.foldl (fun s x => s.conflict x.1 x.2 c) s
      considerClaims rest granted
        { s with suppressed := (s.suppressed.filter (fun x => x != (c.feat, c.inst))) ++ [(c.feat, c.inst)] }

/-- Who drives or configures a resource before a resolution: its holder, or while a handover is to come the instance that the holder took it from, since
the holder is not active yet (R29). -/
def userBefore (old : List Claim) (hs : List Handover) (tick r : Nat) : Option (Nat × Nat) :=
  match hs.find? (fun h => h.res == r && (h.due.map (fun t => decide (tick < t))).getD true) with
  | some h => some (h.loseFeat, h.loseInst)
  | none => (holderOf old r).map (fun l => (l.feat, l.inst))

/-- The handovers that a resolution starts: each resource a granted claim holds that another instance used and held before (R29). -/
def newHandovers (old new : List Claim) (hs : List Handover) (tick : Nat) : List Handover :=
  new.flatMap (fun c => c.res.filterMap (fun r =>
    match holderOf old r, userBefore old hs tick r with
    | some l, some u => if l.feat = c.feat ∧ l.inst = c.inst then none
      else some ⟨r, c.feat, c.inst, u.1, u.2, if isPin r || isChannel r then some (tick + 1) else none⟩
    | _, _ => none))

/-- Keep who drove the pins before a change that falls at tick `t`. -/
def Dev.keepDrive (s : Dev) (t : Nat) : Dev := { s with drives := keepPast s.drives t ⟨s.claims, s.handovers, s.pinLow⟩ }

/-- One resolution (R25, R26): the active claims and those asked for at this moment are considered together. A feature whose enable
is written again with the same resources stays active and keeps what it holds; one with other resources is considered anew. -/
def Dev.resolve (s : Dev) : Dev :=
  if s.asks.isEmpty then s else
  let asks := s.asks.filter (fun a => !s.claims.contains a)
  let kept := s.claims.filter (fun c => !asks.any (fun a => a.feat == c.feat && a.inst == c.inst))
  let order := (kept.map (fun c => (c, true)) ++ asks.map (fun c => (c, false))).foldr insertClaim []
  let (granted, s1) := considerClaims order [] { s.keepDrive s.tick with asks := [] }
  { s1 with claims := granted,
            handovers := s1.handovers.filter (fun h => granted.any (fun c =>
              c.feat == h.winFeat && c.inst == h.winInst && c.res.contains h.res)) ++ newHandovers s.claims granted s.handovers s.tick }

/-- A feature is disabled: it gives up its claim and its suppression (R28, ID.SUPPRESS). -/
def Dev.releaseClaim (s : Dev) (feat inst : Nat) : Dev :=
  let s := if s.claims.any (fun c => c.feat == feat && c.inst == inst) then s.keepDrive s.tick else s
  { s with claims := s.claims.filter (fun c => !(c.feat == feat && c.inst == inst)),
           asks := s.asks.filter (fun c => !(c.feat == feat && c.inst == inst)),
           handovers := s.handovers.filter (fun h => !(h.winFeat == feat && h.winInst == inst)),
           suppressed := s.suppressed.filter (fun x => x != (feat, inst)) }

/-- ID.SUPPRESS: bit n is one while an instance of feature n is inactive through a lost claim. -/
def Dev.suppressWord (s : Dev) : Word :=
  (List.range 12).foldl (fun w n => if s.suppressed.any (fun x => x.1 == n) then w ||| place n n 1 else w) 0

/-- The handover of a resource (R29, R30): the winner becomes active on it, and a pin is driven low for the tick that begins at
the handover boundary. -/
def Dev.handover (s : Dev) (res : Nat) : Dev :=
  match s.handovers.find? (fun h => h.res == res) with
  | none => s
  | some h =>
    let ready := match h.due with
      | some _ => true
      | none => if res = 0x030 then s.pip.lastStart == some s.tick else s.lnk.copyFeAt == some s.tick
    if ready then
      let t := h.due.getD s.tick
      let s := (s.to t).keepDrive t
      { s with handovers := s.handovers.filter (fun x => x.res != res),
               pinLow := if isPin res then (s.pinLow.filter (fun x => x.1 != res)) ++ [(res, t + 1)] else s.pinLow }
    else s

end Sys2Proof.Machine
end

