-- ==== Sys2Proof/Machine/Seq.lean ====
section
/-! DEFINITION. SEQ: aborts and owner resets (R296, R297), locks (R299), thread control and faults (R272 to R274), the line period
and its slots (R276 to R281), software events and event outputs (R288, R289), and transactions up to their application. -/

namespace Sys2Proof.Machine

/-! ### Aborts, locks and owner resets -/

/-- Abort an owner's transaction with a cause (R296). -/
def Dev.abortTx (s : Dev) (p : Owner) (cause : Nat) : Dev :=
  let s := (s.setTx p { s.tx p with st := .aborted, cause := cause, staged := [] }).log Ev.TX_ABORT p.code cause
  match p with
  | .thread n => s.postTo n 43 s.tb
  | _ => s

/-- Is the transaction one that an abort cause can reach? -/
def Tx.live (t : Tx) : Bool := t.st = .opened || t.st = .pending

/-- Cause 1 of R296: another owner wrote word `a`, which these transactions had staged. -/
def Dev.abortStagers (s : Dev) (p : Owner) (a : Nat) : Dev :=
  (List.finRange 12).foldl (fun s i =>
    let o := Owner.ofIdx i
    if o ≠ p ∧ (s.tx o).live ∧ (s.tx o).staged.any (fun x => x.1 == a) then s.abortTx o 1 else s) s

/-- Free a lock and post event 44 (R299). -/
def Dev.freeLock (s : Dev) (k : Fin 32) : Dev := (s.setLock k none).post 44 s.tb

/-- Release every lock an owner holds, logging EV_LOCK_BROKEN for each (R297). -/
def Dev.breakLocks (s : Dev) (p : Owner) : Dev :=
  (List.finRange 32).foldl (fun s k =>
    if s.lock k = some p then (s.freeLock k).log Ev.LOCK_BROKEN p.code k.val else s) s

/-- An owner reset (R297); a thread's claims on timer channels end with it (R328). -/
def Dev.ownerReset (s : Dev) (p : Owner) : Dev :=
  let s := if (s.tx p).live then s.abortTx p 3 else s
  let s := match p with
    | .thread _ => (List.range 16).foldl (fun (s : Dev) c => s.releaseClaim 7 (inst7 p c)) s
    | _ => s
  s.breakLocks p

/-- A thread faults (R274) at the instruction it issued last. -/
def Dev.threadFault (s : Dev) (n : Fin 8) (cause : Nat) : Dev :=
  let t := s.th n
  let s := s.setTh n { t with st := .faulted, cause := cause, faultPc := t.lastPc, wait := none }
  let s := (s.log Ev.SEQ_FAULT (8 + n.val) cause).post 46 s.tb
  s.ownerReset (.thread n)

/-- Acquire a lock: only a free lock changes hands (R299). -/
def Dev.acquire (s : Dev) (p : Owner) (k : Fin 32) : Dev :=
  match s.lock k with
  | none => s.setLock k (some p)
  | some _ => s

/-- Release a lock: by its holder it frees; by another owner a thread faults with cause 3, and a path logs EV_LOCK_MISUSE (R299). -/
def Dev.release (s : Dev) (p : Owner) (k : Fin 32) : Dev :=
  if s.lock k = some p then s.freeLock k
  else match p with
    | .thread n => s.threadFault n 3
    | _ => s.log Ev.LOCK_MISUSE 0 0

/-! ### Transactions up to application -/

/-- BEGIN (R290). -/
def Dev.txBegin (s : Dev) (p : Owner) : Dev :=
  s.setTx p { s.tx p with st := .opened, cause := 0, staged := [] }

/-- The number of boundaries of a kind that have fallen (R293). -/
def Dev.boundaryCount (s : Dev) (kind : Nat) : Nat :=
  if kind = 1 then s.seq.lpCount else if kind = 2 then s.frm.frameOpens else 0

/-- COMMIT with a boundary (R293). -/
def Dev.txCommit (s : Dev) (p : Owner) (kind : Nat) : Dev :=
  let s1 := s.setTx p { s.tx p with st := .pending, boundary := kind, order := s.seq.commits,
                                    seen := s.boundaryCount kind,
                                    commitTime := joinWords (s.tx p).timeLo (s.tx p).timeHi }
  { s1 with seq := { s1.seq with commits := s1.seq.commits + 1 } }

/-- A misuse of the transaction commands: a thread faults with cause 4, a path logs EV_TX_MISUSE (R290). -/
def Dev.txMisuse (s : Dev) (p : Owner) : Dev :=
  match p with
  | .thread n => s.threadFault n 4
  | _ => s.log Ev.TX_MISUSE 0 0

/-- A write of SEQ.TX_CMD (R290). -/
def Dev.txCmd (s : Dev) (p : Owner) (v : Word) : Dev :=
  let action := field v 35 34
  if action = 0 then s
  else if action = 1 then (if (s.tx p).live then s.txMisuse p else s.txBegin p)
  else if (s.tx p).st ≠ .opened then s.txMisuse p
  else if action = 2 then s.txCommit p (field v 1 0)
  else s.abortTx p 4

/-- Words that are never staged (R291). -/
def neverStaged (a : Nat) : Bool :=
  a == R.SEQ_TX_CMD || a == R.SEQ_TX_TIME_LO || a == R.SEQ_TX_TIME_HI || (0x10040 ≤ a && a < 0x10060) ||
  (0x10100 ≤ a && a < 0x10200 && (a - 0x10100) % 32 == 0)

/-- Put a word into the staged list: a word already staged keeps its place and takes the new value (R291). -/
def stageInto (a : Nat) (v : Word) : List (Nat × Word) → List (Nat × Word)
  | [] => [(a, v)]
  | (b, w) :: rest => if b = a then (a, v) :: rest else (b, w) :: stageInto a v rest

/-- Stage a write (R291); a 257th word aborts the transaction with cause 2 (R292). -/
def Dev.stage (s : Dev) (p : Owner) (a : Nat) (v : Word) : Dev :=
  let t := s.tx p
  let st := stageInto a v t.staged
  if 256 < st.length then s.abortTx p 2 else s.setTx p { t with staged := st }

/-- T of a timed commit: SEQ.TX_TIME as the owner had written it before the COMMIT (R293). -/
def Tx.time (t : Tx) : Stamp := t.commitTime

/-- May the pending transaction of an owner apply at this tick (R293), in commit order among those of one boundary (R295)? -/
def Dev.txDue (s : Dev) (p : Owner) : Bool :=
  let t := s.tx p
  t.st = .pending &&
  (if t.boundary = 0 then true
   else if t.boundary = 1 then s.seq.lpStart == some s.tick && decide (t.seen < s.seq.lpCount)
   else if t.boundary = 2 then s.frm.lastOpen == some s.tick && decide (t.seen < s.frm.frameOpens)
   else decide (t.time.toNat ≤ s.tb.toNat)) &&
  (List.finRange 12).all (fun i =>
    let u := s.tx (Owner.ofIdx i)
    !(u.st = .applied && u.appliedAt == some s.tick && u.boundary == t.boundary && decide (t.order < u.order)))

/-- Is the application later than the first boundary after the commit (R293)? -/
def Dev.txLate (s : Dev) (p : Owner) : Bool :=
  let t := s.tx p
  if t.boundary = 0 then false
  else if t.boundary = 3 then decide (t.time.toNat < s.tb.toNat)
  else decide (t.seen + 1 < s.boundaryCount t.boundary)

/-- Let time run to the moment a TIME commit waits for, when it lies ahead and the timebase runs. -/
def Dev.toTxTime (s : Dev) (p : Owner) : Dev :=
  let t := s.tx p
  if t.st = .pending ∧ t.boundary = 3 ∧ s.tbRun ∧ s.tb.toNat < t.time.toNat
  then s.to (s.tick + (t.time.toNat - s.tb.toNat)) else s

/-! ### Thread control -/

/-- START (R272) that takes effect at tick `b`: the thread issues in owned slots that start after it. -/
def Dev.threadStartAt (s : Dev) (n : Fin 8) (b : Nat) : Dev :=
  let t := s.th n
  if t.st = .halted then
    if t.pastEnd then (s.setTh n { t with lastPc := t.pc }).threadFault n 2
    else s.setTh n { t with st := .running, after := some b }
  else s

/-- START (R272) at this tick. -/
def Dev.threadStart (s : Dev) (n : Fin 8) : Dev := s.threadStartAt n s.tick

/-- STOP (R272): a running thread halts; a waiting one abandons its wait and halts at it. -/
def Dev.threadStop (s : Dev) (n : Fin 8) : Dev :=
  let t := s.th n
  match t.st with
  | .running => s.setTh n { t with st := .halted }
  | .waiting => s.setTh n { t with st := .halted, wait := none }
  | _ => s

/-- RESET (R272, R297), after which `pend` are the pending events. -/
def Dev.threadClear (s : Dev) (n : Fin 8) (pend : List (Nat × Stamp)) : Dev :=
  let t := s.th n
  (s.setTh n { t with st := .halted, cause := 0, q := Vector.replicate 16 0, fz := false, fn := false, fc := false,
                      fv := false, pc := s.fd (R.SEQ_THn_ENTRY n) 13 0, pastEnd := false, pend := pend, delivered := 0,
                      wait := none, ctl := [], cut := false }).ownerReset (.thread n)

/-- RESET (R272, R297). -/
def Dev.threadReset (s : Dev) (n : Fin 8) : Dev := s.threadClear n []

/-- A control field takes effect at tick `b`, when the thread's instruction has retired (R272). -/
def Dev.threadAct (s : Dev) (n : Fin 8) (b : Nat) : ThreadCtl → Dev
  | .start => s.threadStartAt n b
  | .stop => s.threadStop n
  | .reset => s.threadClear n (if (s.th n).cut then (s.th n).pend else [])

/-- What happened at an earlier tick `b`, with the stamps of that tick. -/
def Dev.atTick (s : Dev) (b : Nat) (f : Dev → Dev) : Dev :=
  { f { s with tick := b, tb := s.stampOf b } with tick := s.tick, tb := s.tb }

/-- The control fields that waited for retirement take effect at the tick at which it came (R272). -/
def Dev.threadDue (s : Dev) (n : Fin 8) : Dev :=
  let t := s.th n
  match t.ctl, t.lost with
  | [], _ => s
  | c, some b =>
    if b ≤ s.tick then s.atTick b (fun s => c.foldl (fun s x => s.threadAct n b x) (s.setTh n { t.cutPend b with ctl := [] })) else s
  | _, none => s

/-- Every thread whose instruction has retired has taken the control fields that waited (R272). -/
def Dev.threadsDue (s : Dev) : Dev := (List.finRange 8).foldl (fun s n => s.threadDue n) s

/-- The thread once its instruction has retired, with the control fields that waited for it; time runs to that tick (R272). -/
def Dev.catchUp (s : Dev) (n : Fin 8) : Dev :=
  match (s.th n).ctl, (s.th n).lost with
  | [], _ => s
  | _, some b => (s.to b).threadDue n
  | _, none => s

/-- A control field that is written: it waits while the thread's instruction runs (R272). -/
def Dev.threadTake (s : Dev) (n : Fin 8) (c : ThreadCtl) : Dev :=
  if (s.th n).busy s.tick then s.setTh n { s.th n with ctl := (s.th n).ctl ++ [c] } else (s.threadDue n).threadAct n s.tick c

/-- A write of SEQ.THn_CTRL (R272). -/
def Dev.threadCtl (s : Dev) (n : Fin 8) (v : Word) : Dev :=
  match bit v 35, bit v 34, bit v 33 with
  | true, false, false => s.threadTake n .start
  | false, true, false => s.threadTake n .stop
  | false, false, true => s.threadTake n .reset
  | _, _, _ => s

/-- A write of SEQ.LOCKk (R299, R300); with both fields written as one it is ignored. -/
def Dev.lockWrite (s : Dev) (p : Owner) (k : Fin 32) (v : Word) : Dev :=
  let s := s.threadsDue
  match bit v 35, bit v 34 with
  | true, false => s.acquire p k
  | false, true => s.release p k
  | _, _ => s

/-! ### Line period and slots -/

/-- The line period that SEQ.LINE_PERIOD gives, held to 400 to 400,000 ticks (R276). -/
def Dev.periodReg (s : Dev) : Nat := min (max (s.fd R.SEQ_LINE_PERIOD 18 0) 400) 400000

/-- The start of slot k of a period of P ticks, in ticks after the boundary (R277). -/
def slotStart (P k : Nat) : Nat := k * P / 32

/-- The owner of slot k in the active table: a thread number, or none (R278). -/
def Dev.slotOwner (s : Dev) (k : Nat) : Option Nat :=
  let o := s.fd (R.SEQ_SLOT_ACTIVEj (k / 8)) (4 * (k % 8) + 3) (4 * (k % 8))
  if o < 8 then some o else none

/-- The start ticks of the slots a thread owns in the running period, in order. -/
def Dev.ownedStarts (s : Dev) (n : Fin 8) : List Nat :=
  match s.seq.lpStart with
  | none => []
  | some b => (List.range 32).filterMap (fun k =>
      if s.slotOwner k = some n.val then some (b + slotStart s.seq.lpP k) else none)

/-- The start of the slot that an overrun costs the thread, when it lies in the running period (R280). -/
def Dev.lostSlot (s : Dev) (n : Fin 8) : Option Nat :=
  match (s.th n).lost with
  | some b => ((s.ownedStarts n).filter (fun x => decide (b < x))).head?
  | none => none

/-- A slot lost to an overrun that has come by tick `till` is spent (R280). -/
def Dev.spendLost (s : Dev) (till : Nat) : Dev :=
  (List.finRange 8).foldl (fun s n =>
    match s.lostSlot n with
    | some x => if x ≤ till then let s := s.threadDue n; s.setTh n { s.th n with lost := none } else s
    | none => s) s

/-- The tick at which a running thread issues next in the running period (R278, R287): its first owned slot that has not passed and
starts after its last issue, wake or retirement; after an overrun the first owned slot that starts after retirement issues nothing (R280). -/
def Dev.issueAt (s : Dev) (n : Fin 8) : Option Nat :=
  let t := s.th n
  if t.st ≠ .running then none else
  let ok := (s.ownedStarts n).filter (fun x => match t.after with
    | some a => decide (a < x)
    | none => true)
  (ok.filter (fun x => decide (s.tick ≤ x) && s.lostSlot n != some x)).head?

/-- The line-period boundary falls (R276, R281): event 0, a new period, a staged slot table swapped in. A thread's lost slot that
lay in the ended period is spent. -/
def Dev.lineBoundary (s : Dev) : Dev :=
  match s.seq.lpNext with
  | none => s
  | some t =>
    let s := s.to t
    let s := s.spendLost t
    let s := if s.seq.slotPending then
        (List.range 4).foldl (fun s j => s.wr (R.SEQ_SLOT_ACTIVEj j) (s.rd (R.SEQ_SLOT_SHADOWj j))) s
      else s
    let P := s.periodReg
    ({ s with seq := { s.seq with lpStart := some t, lpP := P, lpNext := some (t + P), lpCount := s.seq.lpCount + 1,
                                  slotPending := false } }).post 0 (s.stampOf t)

/-- SEQ.CTRL.LP_RUN changed (R276): the first boundary falls on the next tick boundary; while it is zero there are none. -/
def Dev.lpRunChanged (s : Dev) (was : Bool) : Dev :=
  let now := s.bt R.SEQ_CTRL 0
  if now && !was then { s with seq := { s.seq with lpNext := some (s.tick + 1) } }
  else if !now && was then
    let s := s.spendLost s.tick
    { s with seq := { s.seq with lpNext := none, lpStart := none } }
  else s

/-- The run of slots, of consecutive slots of one owner, that holds the slot in which the thread issued last: the tick it ends
(R279). -/
def Dev.runEnd (s : Dev) (n : Fin 8) : Option Nat :=
  match s.seq.lpStart, (s.th n).after with
  | some b, some a =>
    match (List.range 32).find? (fun k => b + slotStart s.seq.lpP k == a && s.slotOwner k == some n.val) with
    | none => none
    | some k =>
      let e := ((List.range 33).filter (fun j => decide (k < j) &&
        (decide (j = 32) || s.slotOwner j != some n.val))).head?
      e.map (fun j => b + slotStart s.seq.lpP j)
  | _, _ => none

/-- SLOT_OVERRUN (R280): logged with the thread's code and the instruction's address; the instruction runs on for `extra` ticks, and
the first owned slot after it issues nothing. -/
def Dev.slotOverrun (s : Dev) (n : Fin 8) (extra : Nat) : Dev :=
  match s.runEnd n with
  | none => s
  | some e =>
    let s := s.to e
    let t := s.th n
    ((s.setTh n { t with lost := some (e + extra), after := some (e + extra) }).bump (R.SEQ_THn_OVERRUNS n)).log Ev.SLOT_OVERRUN (8 + n.val) t.lastPc

/-! ### Waits, software events and event outputs -/

/-- The timeout of a waiting thread expires (R285, R286). -/
def Dev.waitTimeout (s : Dev) (n : Fin 8) : Dev :=
  match (s.th n).st, (s.th n).wait with
  | .waiting, some w =>
    match w.deadline with
    | some t =>
      if (s.th n).leftWait t then s.catchUp n else
      let s := s.to t
      s.setTh n (Thread.completeWait (s.th n) w s.tick)
    | none => s
  | _, _ => s

/-- Start or restart the pulse of the event outputs that show software event e (R289): high from the next tick boundary for WIDTH + 1 ticks, while the
feature is granted or asked for at this moment. -/
def Dev.pinoutPulse (s : Dev) (e : Nat) : Dev :=
  (List.finRange 4).foldl (fun (s : Dev) (k : Fin 4) =>
    let r := s.rd (R.SEQ_PINOUTk k)
    if bit r 12 ∧ field r 19 16 = e ∧ (s.granted 6 k || s.asks.any (fun c => c.feat == 6 && c.inst == k.val)) then
      let q := s.seq
      let till := s.tick + 1 + field r 35 20 + 1
      { s with seq := { q with pulseEnd := q.pulseEnd.set k.val (some till) k.isLt, pulseTo := q.pulseTo.set k.val till k.isLt,
                               pulsePast := q.pulsePast.set k.val (keepPast q.pulsePast[k] (s.tick + 1) (q.pulseFrom[k], q.pulseTo[k])) k.isLt,
                               pulseFrom := if pulseRuns q.pulseEnd[k] s.tick then q.pulseFrom else q.pulseFrom.set k.val (s.tick + 1) k.isLt } }
    else s) s

/-- A software event is posted to every thread and shown on its outputs (R288, R289). -/
def Dev.postSoft (s : Dev) (e : Nat) : Dev := (s.post (48 + e) s.tb).pinoutPulse e

/-- A write of SEQ.SIGNAL (R288). -/
def Dev.signalWrite (s : Dev) (v : Word) : Dev :=
  (List.range 16).foldl (fun s e => if bit v e then s.postSoft e else s) s

/-- A write of SEQ.DOORBELL (R288): event 40 from the host port or the relay, 41 from the management bus; a thread's is ignored. -/
def Dev.doorbell (s : Dev) (p : Owner) (v : Word) : Dev :=
  if bit v 0 then
    match p with
    | .host => s.post 40 s.tb
    | .relay => s.post 40 s.tb
    | .mgt => s.post 41 s.tb
    | .thread _ => s
    | .boot => s
  else s

/-- The pulse of an event output is over: it stops at once, when it has not ended. -/
def Dev.pinoutQuiet (s : Dev) (k : Fin 4) : Dev :=
  let q := s.seq
  { s with seq := { q with pulseEnd := q.pulseEnd.set k.val none k.isLt, pulseTo := q.pulseTo.set k.val (min (q.pulseTo[k]) s.tick) k.isLt,
                           pulsePast := q.pulsePast.set k.val (keepPast q.pulsePast[k] s.tick (q.pulseFrom[k], q.pulseTo[k])) k.isLt } }

/-- A write of SEQ.PINOUTk (R289): ignored as a whole when it would leave EN one with a PIN that is no GPIO or STROBE resource. A feature that was not
granted shows no pulse of a posting made before. -/
def Dev.pinoutWrite (s : Dev) (k : Fin 4) (v : Word) : Dev :=
  if bit v 12 then
    if isPin (field v 11 0) then
      ((if s.granted 6 k then s else s.pinoutQuiet k).plainWrite (R.SEQ_PINOUTk k) v).askClaim 6 k.val [field v 11 0]
    else s
  else ((s.plainWrite (R.SEQ_PINOUTk k) v).releaseClaim 6 k.val).pinoutQuiet k

/-- The pulse of an event output ends (R289). -/
def Dev.pinoutEnd (s : Dev) (k : Fin 4) : Dev :=
  match s.seq.pulseEnd[k] with
  | none => s
  | some t =>
    let s := s.to t
    { s with seq := { s.seq with pulseEnd := s.seq.pulseEnd.set k.val none k.isLt } }

end Sys2Proof.Machine
end

