-- ==== Sys2Proof/Machine/Stp.lean ====
section
/-! DEFINITION. STP: entries, arming, fires, steeps, hold bits, node clears and pumps (spec/02_pixel_array_and_steeps.md). -/

namespace Sys2Proof.Machine

/-! ### Access -/

/-- An entry. -/
def Dev.en (s : Dev) (n : Fin 8) : Entry := s.stp.entries[n]

/-- Replace an entry. -/
def Dev.setEn (s : Dev) (n : Fin 8) (e : Entry) : Dev :=
  { s with stp := { s.stp with entries := s.stp.entries.set n.val e n.isLt } }

/-- Change the STP block. -/
def Dev.onStp (s : Dev) (f : Stp → Stp) : Dev := { s with stp := f s.stp }

/-- The state codes of R47. -/
def EntryState.code : EntryState → Nat
  | .idle => 0
  | .arming => 1
  | .armed => 2
  | .steeping => 3
  | .done => 4
  | .refused => 5

/-- A row of a zone row's 1,344 that is its last, by physical row: the zones of that zone row (R43, R123). -/
def lastRowZones (row : Nat) : Zones :=
  if 24 ≤ row ∧ (row - 24) % 1344 = 1343 then
    zUnion ((List.range 8).map (fun zx => zone (8 * ((row - 24) / 1344) + zx)))
  else 0

/-- The zones of a node whose last row has passed step 3 of its conversion, 200 ticks after its start, by this tick (R40, R123). -/
def Dev.emptied (s : Dev) (k : Nat) : Zones :=
  match s.rdo.pour with
  | some p =>
    if p.node = k then
      zUnion ((p.converting.filter (fun x => decide (x.2.started + 200 ≤ s.tick))).map (fun x => lastRowZones x.2.row)) &&& p.cover
    else 0
  | none => 0

/-- The hold bits of a node as last changed by an operation. -/
def Dev.heldBits (s : Dev) (k : Nat) : Zones := s.stp.hold[k % 4]'(Nat.mod_lt _ (by decide))

/-- The hold bits of a node (R40): those of zones that a running pour has emptied by now are clear. -/
def Dev.holdOf (s : Dev) (k : Nat) : Zones := s.heldBits k &&& ~~~ s.emptied k

/-- Replace the hold bits of a node; a copy latched before finds its STALE bit set when they change (R10). -/
def Dev.setHold (s : Dev) (k : Nat) (z : Zones) : Dev :=
  if s.heldBits k = z then s
  else (s.onStp (fun t => { t with hold := t.hold.set (k % 4) z (Nat.mod_lt _ (by decide)) })).stale (R.STP_HOLDk_HI (k % 4)) 35

/-! ### Node content -/

/-- Where the content of the dark and buffer columns of a zone row stands: they follow zone (0, zy) on the left and (7, zy) on the right (R45). -/
def edgeKey (node zy side : Nat) : Nat := 256 + 16 * node + 2 * zy + side

/-- Where the content of the dark and buffer rows and the corners stands: they follow the reference zone (R45). -/
def refKey (node : Nat) : Nat := 320 + node

/-- What a node holds in a segment. -/
def Dev.contentAt (s : Dev) (key : Nat) : List ChargeEvent := Cells.get (fun _ => []) s.stp.content key

/-- The segments of a node that a zone mask works, with the reference zone in force (R43, R45). -/
def segmentKeys (ref node : Nat) (m : Zones) : List Nat :=
  (zoneList m).map (fun z => 64 * node + z) ++
  (List.range 8).flatMap (fun zy =>
    (if m.getLsbD (8 * zy) then [edgeKey node zy 0] else []) ++ (if m.getLsbD (8 * zy + 7) then [edgeKey node zy 1] else [])) ++
  (if m.getLsbD ref then [refKey node] else [])

/-- Change the content of some segments. -/
def Dev.onContent (s : Dev) (keys : List Nat) (f : List ChargeEvent → List ChargeEvent) : Dev :=
  s.onStp (fun t => { t with content := keys.foldl (fun c k => Cells.put (fun _ => []) c k (f (Cells.get (fun _ => []) c k))) t.content })

/-- The segments of a node that a zone mask works now. -/
def Dev.segments (s : Dev) (node : Nat) (m : Zones) : List Nat := segmentKeys s.stp.refZone node m

/-- The node full well in electrons (R38). -/
def fullWell : Nat := 9000

/-- The charge of a pixel of a segment in electrons: what a transfer or storage brings beyond the full well drains away, and the row's own step 3 empties it
(R38, R39, R56, R123). -/
def nodeCharge (l : List ChargeEvent) (row col : Nat) : Nat :=
  l.foldl (fun q e => match e with
    | .steep k => min fullWell (q + Config.steepCharge k row col)
    | .stored k => min fullWell (q + Config.storedCharge k row col)
    | .row p => if p = row then 0 else q) 0

/-- The segments of a physical row, by zone column, then the left and the right dark and buffer columns (R43, R45). -/
def rowSegments (node row : Nat) : List Nat :=
  if row < 24 ∨ 10775 < row then List.replicate 10 (refKey node)
  else
    let zy := (row - 24) / 1344
    (List.range 8).map (fun zx => 64 * node + 8 * zy + zx) ++ [edgeKey node zy 0, edgeKey node zy 1]

/-- The zones of a node that are being poured: the coverage of the running pour of that node (R48, R61). -/
def Dev.poured (s : Dev) (node : Nat) : Zones :=
  match s.rdo.pour with
  | some p => if p.node = node then p.cover else 0
  | none => 0

/-- The zones in which a taken fire waits out its DELAY to steep into a node. -/
def Dev.firedInto (s : Dev) (node : Nat) : Zones :=
  (List.finRange 8).foldl (fun z n =>
    let e := s.en n
    if e.start.isSome ∧ e.node = node then z ||| e.zones else z) 0

/-- The zones that are steeping into a node (R42). -/
def Dev.steepingInto (s : Dev) (node : Nat) : Zones :=
  (List.finRange 8).foldl (fun z n =>
    let e := s.en n
    if e.st = .steeping ∧ e.node = node then z ||| e.fired else z) 0

/-- Is the timebase in holdover (R71)? -/
def Dev.tbHoldover (s : Dev) : Bool := s.bt R.CLK_STATUS 33

/-! ### Arming -/

/-- The programming of an entry as its registers read at the arm (R46). -/
def Dev.entryFromRegs (s : Dev) (n : Fin 8) : Entry :=
  let c := s.rd (R.STP_ENn_CTRL n)
  { s.en n with
    mask := zJoin (s.rd (R.STP_ENn_ZMASK_LO n)) (s.rd (R.STP_ENn_ZMASK_HI n)), node := field c 9 8,
    dur := (s.rd (R.STP_ENn_DURATION n)).toNat, delay := (s.rd (R.STP_ENn_DELAY n)).toNat,
    source := field c 5 3, srcId := field c 23 16, acc := bit c 11, disc := bit c 10,
    pol := s.bt R.STP_TRIG 0, member := false, start := none, reason := 0 }

/-- Does an entry still need feature 3's claim on a timer channel (R49)? -/
def Dev.entryUsesTimer (s : Dev) (ch : Nat) : Bool :=
  (List.finRange 8).any (fun n =>
    let e := s.en n
    !e.member && e.source == 2 && e.srcId % 16 == ch &&
      (decide (e.st = .arming) || decide (e.st = .armed) || decide (e.st = .steeping)))

/-- Does the frame controller hold a claim of feature f on a channel (R85)? -/
def Dev.frmUsesTimer (s : Dev) (f ch : Nat) : Bool :=
  !(decide (s.frm.st = .idle) || decide (s.frm.st = .refused)) && s.frm.source == 2 && s.frm.srcId % 16 == ch &&
    (f == (if s.frm.mode = 5 ∨ s.frm.mode = 6 then 2 else 3))

/-- Release feature 3's claim on a channel when no entry and no frame needs it (R49, R85). -/
def Dev.dropTimer (s : Dev) (ch : Nat) : Dev :=
  if s.entryUsesTimer ch || s.frmUsesTimer 3 ch then s else s.releaseClaim 3 ch

/-- Did an arm or a GO lose its claim of feature f on a channel, and has not been made again since (R48, R84)? -/
def Dev.lostTimer (s : Dev) (f ch : Nat) : Bool :=
  (f == 3 && (List.finRange 8).any (fun n =>
    let e := s.en n
    decide (e.st = .refused) && e.reason == 4 && !e.member && e.srcId % 16 == ch)) ||
  (decide (s.frm.st = .refused) && s.frm.reason == 7 && s.frm.srcId % 16 == ch && f == (if s.frm.mode = 5 ∨ s.frm.mode = 6 then 2 else 3))

/-- An arm or a GO that lost its claim is made again or given up: ID.SUPPRESS shows the lost claim no longer when no other arm or GO lost it (R28; ARM and GO
are written only as one, so that a lost claim shows until then: DESIGN CHOICE, notes/assumptions/212.md). -/
def Dev.forgetLost (s : Dev) (f ch : Nat) : Dev :=
  if s.lostTimer f ch then s else { s with suppressed := s.suppressed.filter (fun x => x != (f, ch)) }

/-- Refuse an arm (R48): the entry holds no claim, and the event of the check is logged. A claim lost in a resolution stays suppressed. -/
def Dev.refuseArm (s : Dev) (n : Fin 8) (e : Entry) (reason : Nat) (ev : Option (Nat × Nat)) : Dev :=
  let s := s.setEn n { e with st := .refused, reason := reason }
  let s := if e.source = 2 ∧ !e.member ∧ reason ≠ 4 then s.dropTimer (e.srcId % 16) else s
  match ev with
  | some (code, detail) => s.log code n.val detail
  | none => s

/-- The other entries in ARMING or ARMED that share a zone, fellow members of one frame apart (R48 check 2, R86). -/
def Dev.overlapping (s : Dev) (n : Fin 8) (e : Entry) : List (Fin 8) :=
  (List.finRange 8).filter (fun o =>
    let f := s.en o
    decide (o ≠ n) && (decide (f.st = .arming) || decide (f.st = .armed)) && decide (f.mask &&& e.mask ≠ 0) &&
      !(e.member && f.member))

/-- Arm an entry with the given programming: checks 1 to 3 of R48, then ARMING, with the claim of R49 asked for. Check 4 is judged
when the claim has been resolved (`Dev.settle`). -/
def Dev.armWith (s : Dev) (n : Fin 8) (mode : Nat) (e : Entry) : Dev :=
  let s := s.onStp (fun t => { t with refZone := s.fd R.STP_CTRL 13 8 })
  let old := s.en n
  let s := if old.st = .refused ∧ old.reason = 4 then (s.setEn n { old with reason := 0 }).forgetLost 3 (old.srcId % 16) else s
  if 3 < e.source ∨ e.dur < 39 ∨ e.mask = 0 ∨ 7 < mode ∨ (e.acc ∧ e.disc) then
    s.refuseArm n e 1 (some (Ev.ARM_INVALID, 1))
  else
    match s.overlapping n e with
    | o :: _ => s.refuseArm n e 2 (some (Ev.ARM_OVERLAP, 2 + o.val * 16))
    | [] =>
      let held := if e.acc ∨ e.disc then s.poured e.node &&& e.mask
                  else (s.poured e.node ||| s.holdOf e.node) &&& e.mask
      if held ≠ 0 then s.refuseArm n e 3 (some (Ev.NODE_BUSY, reducedMask held + e.node * 2 ^ 23))
      else
        let s := s.setEn n { e with st := .arming }
        if e.source = 2 ∧ !e.member then s.askClaim 3 (e.srcId % 16) [0x020 + e.srcId % 16] else s

/-- ARM of STP.ENn_CTRL (R46 to R50); it is ignored in ARMING, ARMED and STEEPING (R55). -/
def Dev.arm (s : Dev) (n : Fin 8) : Dev :=
  match (s.en n).st with
  | .arming => s
  | .armed => s
  | .steeping => s
  | _ => s.armWith n (s.fd (R.STP_ENn_CTRL n) 15 12) (s.entryFromRegs n)

/-- The last zone segment is loaded and the entry enters ARMED (R50). -/
def Dev.segmentsLoaded (s : Dev) (n : Fin 8) : Dev :=
  let e := s.en n
  if e.st = .arming then s.setEn n { e with st := .armed } else s

/-- Take an entry back to IDLE and release its claim (R53), also while a taken fire waits out its DELAY; a fire that came in the same decision, at this
tick, wins (R54). -/
def Dev.disarm (s : Dev) (n : Fin 8) : Dev :=
  let e := s.en n
  if e.start.isSome && e.firedAt == s.tick then s else
  match e.st with
  | .arming => (s.setEn n { e with st := .idle, start := none }).dropTimer (e.srcId % 16)
  | .armed => (s.setEn n { e with st := .idle, start := none }).dropTimer (e.srcId % 16)
  | _ => s

/-! ### Fires -/

/-- A zone ended a steep less than 40 ns (160 ticks) before `start` (R59). -/
def Dev.zoneRecent (s : Dev) (start z : Nat) : Bool :=
  let e := Cells.get (fun _ => 0) s.stp.zoneEnd z
  e != 0 && decide (start + 1 < e + 160)

/-- The zones of an entry that are still steeping in another entry, or ended a steep less than 40 ns before its start (R59). -/
def Dev.earlyZones (s : Dev) (n : Fin 8) (start : Nat) (m : Zones) : Zones :=
  let running := (List.finRange 8).foldl (fun z o =>
    if o ≠ n ∧ (s.en o).st = .steeping then z ||| (s.en o).fired else z) (0 : Zones)
  zUnion ((zoneList m).filterMap (fun z =>
    if running.getLsbD z || s.zoneRecent start z then some (zone z) else none))

/-- Do the pumps let a fire take effect (R60, R74, R75)? Not once ENABLE has been written zero, though they run until the steeps that complete have
ended; the start of a member of a timed frame that was open at the write asks for PUMP_READY alone. -/
def Dev.pumped (s : Dev) (timed : Bool) : Bool := s.stp.pumpReady && (timed || s.stp.pumpStopping.isNone)

/-- Why STP ignores a fire or a member start (R552): the event and its DETAIL, the first of R59, R60 and R61 that holds; `timed` for a member of
a timed frame that no write of ENABLE as zero came before. -/
def Dev.judge (s : Dev) (n : Fin 8) (start : Nat) (m : Zones) (timed : Bool := false) : Option (Nat × Nat) :=
  let early := s.earlyZones n start m
  let node := (s.en n).node
  if early ≠ 0 then some (Ev.FIRE_EARLY, reducedMask early)
  else if !s.pumped timed then some (Ev.PUMP_LOW, 0)
  else if s.poured node &&& m ≠ 0 then some (Ev.NODE_BUSY, reducedMask (s.poured node &&& m) + node * 2 ^ 23)
  else none

/-- The zones whose segments are loaded when a fire meets an ARMING entry: the first k of its mask in ascending order, for a k the
spec leaves to the loading in progress (R50 to R52). -/
def loadedZones (m : Zones) (k : Nat) : Zones := zUnion (((zoneList m).take k).map zone)

/-- A pour, row or fire needs these units, delay line l as l and bank b as 72 + b: the step of an item that measures one is discarded, to be repeated in
the next idle gap (R477). -/
def Dev.discard (s : Dev) (units : List Nat) : Dev :=
  let hit := units.filter (fun u => if u < 72 then s.cal.items[2].running else s.cal.items[3].running && u == 72 + s.cal.bank)
  if hit.isEmpty then s
  else { s with cal := { s.cal with discarded := s.cal.discarded ++ hit.filter (fun u => !s.cal.discarded.contains u) } }

/-- The delay lines that a fire of an entry needs: its delay counter and its zone segments. -/
def fireLines (n : Fin 8) (m : Zones) : List Nat := (64 + n.val) :: zoneList m

/-- A fire reaches an entry that has taken none (R51, R58 to R61, R552): its start falls at the origin plus DELAY. -/
def Dev.fireEntry (s : Dev) (n : Fin 8) (origin : Nat) : Dev :=
  let e := s.en n
  if e.start.isSome then s else
  let start := origin + e.delay
  match e.st with
  | .armed =>
    match s.judge n start e.mask with
    | some (ev, d) => s.log ev n.val d
    | none => (s.setEn n { e with start := some start, firedAt := s.tick, zones := e.mask }).discard (fireLines n e.mask)
  | .arming =>
    let (k, s) := s.drawNat ((zoneList e.mask).length + 1)
    let z := loadedZones e.mask k
    match s.judge n start z with
    | some (ev, d) => s.log ev n.val d
    | none =>
      let s := if z = 0 then s
        else (s.setEn n { e with st := .armed, start := some start, firedAt := s.tick, zones := z }).discard (fireLines n z)
      if z = e.mask then s else s.log Ev.FIRE_UNARMED n.val (reducedMask (e.mask &&& ~~~ z))
  | _ => s

/-- Does an entry listen for a fire of this source (R57, R81)? -/
def Entry.listens (e : Entry) (source : Nat) : Bool :=
  !e.member && e.source == source && (decide (e.st = .arming) || decide (e.st = .armed))

/-- One fire reaches every entry that listens to it (R58). -/
def Dev.fireAll (s : Dev) (who : Entry → Bool) (origin : Nat) : Dev :=
  (List.finRange 8).foldl (fun s n => if who (s.en n) then s.fireEntry n origin else s) s

/-! ### Steeps -/

/-- The steep of an entry starts at tick T (R56, R66 to R71): the node is cleared unless ACCUMULATE is set, the start stamp is taken and the entry enters
STEEPING. -/
def Dev.beginSteep (s : Dev) (n : Fin 8) (T : Nat) : Dev :=
  let e := s.en n
  let s := if e.acc then s else s.onContent (s.segments e.node e.zones) (fun _ => [])
  let s := s.setEn n { e with
    st := .steeping, start := none, fired := e.zones, startedAt := T, endAt := T + e.dur + 1, past := keepPast e.past T (e.startedAt, e.endAt), stamp := s.stampOf T,
    flagPartial := decide (e.zones ≠ e.mask), flagHoldover := s.tbHoldover }
  ((s.bump (R.STP_ENn_FIRE_COUNT n)).stale (R.STP_ENn_START_FLAGS n) 2).stale (R.STP_ENn_FIRED_HI n) 35

/-- Set a run of keys to one value. -/
def putAll (keys : List Nat) (v : Nat) (m : Cells Nat) : Cells Nat :=
  keys.foldl (fun m k => Cells.put (fun _ => 0) m k v) m

/-- The pumps stop when the last of the steeps that R75 lets complete has ended. -/
def Dev.pumpsAfter (s : Dev) (n : Nat) : Dev :=
  match s.stp.pumpStopping with
  | none => s
  | some l =>
    let l' := l.filter (fun x => x != n)
    if l'.isEmpty then s.onStp (fun t => { t with pumpStopping := none, pumpReady := false })
    else s.onStp (fun t => { t with pumpStopping := some l' })

/-- Has a member of the open frame been fired, so that its start falls due? -/
def Dev.memberDue (s : Dev) (n : Nat) : Bool :=
  match s.frm.frame with
  | some o => o.phases.any (fun x => x.1 == n && (match x.2 with
      | .due _ => true
      | _ => false))
  | none => false

/-- Is delay line l timing a steep (R475, R486): a zone segment of a steeping entry, or the delay counter of an entry that has taken a fire? -/
def Dev.lineBusy (s : Dev) (l : Nat) : Bool :=
  if l < 64 then (List.finRange 8).any (fun n => decide ((s.en n).st = .steeping) && (s.en n).fired.getLsbD l)
  else (List.finRange 8).any (fun n => n.val + 64 == l &&
    ((s.en n).start.isSome || decide ((s.en n).st = .steeping) || s.memberDue n.val))

/-- Move the tap setting of a delay line one tap towards its target (R485). -/
def Dev.moveTap (s : Dev) (l : Fin 72) : Dev :=
  let v := (moveTowards 1 (s.cal.taps[l] : Nat) (s.cal.tapTarget[l] : Nat)).toNat
  { s with cal := { s.cal with taps := s.cal.taps.set l.val v l.isLt } }

/-- Tap steps that waited for a steep are made when their line times none (R486). -/
def Dev.payTaps (s : Dev) : Dev :=
  (List.finRange 72).foldl (fun (s : Dev) (l : Fin 72) =>
    if s.cal.tapOwed.contains l.val && !s.lineBusy l.val then
      let s := s.moveTap l
      { s with cal := { s.cal with tapOwed := s.cal.tapOwed.filter (fun x => x != l.val) } }
    else s) s

/-- The steep of an entry ends at tick T (R39 to R41, R56, R68): the charge joins the content of the node, the hold bits set, the end time is recorded, DONE,
the claim released. -/
def Dev.finishSteep (s : Dev) (n : Fin 8) (T : Nat) : Dev :=
  let e := s.en n
  let zs := zoneList e.fired
  let s := s.setEn n { e with st := .done, flagHoldover := e.flagHoldover || s.tbHoldover }
  let s := { s with free := s.free + 1 }.onContent (s.segments e.node e.fired) (fun l => l ++ [ChargeEvent.steep s.free])
  let s := s.setHold e.node (s.holdOf e.node ||| e.fired)
  let s := s.onStp (fun t => { t with ends := putAll (zs.map (fun z => 64 * e.node + z)) (T + 1) t.ends,
                                      zoneEnd := putAll zs (T + 1) t.zoneEnd })
  let s := if e.source = 2 ∧ !e.member then s.dropTimer (e.srcId % 16) else s
  (s.pumpsAfter n.val).payTaps

/-! ### Node clears -/

/-- Begin a node clear of a zone mask (R42). -/
def Dev.beginClear (s : Dev) (node : Nat) (mask : Zones) (byReg : Bool) : Dev :=
  let skip := mask &&& (s.steepingInto node ||| s.poured node)
  let s := s.onStp (fun t => { t with clears := t.clears ++ [⟨node, mask &&& ~~~ skip, byReg⟩] })
  if skip ≠ 0 ∧ byReg then s.log Ev.NODE_BUSY (8 + node) (reducedMask skip + node * 2 ^ 23) else s

/-- STP.CLEAR_HI.GO (R42); ignored while a clear of the register runs. -/
def Dev.clearGo (s : Dev) : Dev :=
  if s.stp.clears.any (·.byReg) then s
  else s.beginClear (s.fd R.STP_CLEAR_HI 31 30) (zJoin (s.rd R.STP_CLEAR_LO) (s.rd R.STP_CLEAR_HI)) true

/-- The oldest node clear completes (R40, R42); what began in its zones since it was requested does not stop it (DESIGN CHOICE,
notes/assumptions/214.md). -/
def Dev.clearComplete (s : Dev) : Dev :=
  match s.stp.clears with
  | [] => s
  | c :: rest =>
    ((s.onStp (fun t => { t with clears := rest })).onContent (s.segments c.node c.mask) (fun _ => [])).setHold c.node (s.holdOf c.node &&& ~~~ c.mask)

/-! ### Pumps and the exposure-active output -/

/-- STP.CTRL.ENABLE was written (R74, R75). -/
def Dev.stpEnableChanged (s : Dev) (was : Bool) : Dev :=
  let now := s.bt R.STP_CTRL 0
  if was && !now then
    let l := (List.finRange 8).filterMap (fun n => if (s.en n).st = .steeping then some n.val else none)
    if l.isEmpty then s.onStp (fun t => { t with pumpReady := false, pumpStopping := none })
    else s.onStp (fun t => { t with pumpStopping := some l })
  else if !was && now then
    { s with stp := { s.stp with pumpStopping := none },
             frm := { s.frm with frame := s.frm.frame.map (fun o => { o with windDown := false }) } }
  else s

/-- The pumps reach regulation (R74). -/
def Dev.pumpReadyNow (s : Dev) : Dev :=
  if s.bt R.STP_CTRL 0 then s.onStp (fun t => { t with pumpReady := true }) else s

/-- A pump falls below its regulation level during operation (R76). -/
def Dev.pumpFalls (s : Dev) (p : Nat) : Dev :=
  if s.bt R.STP_CTRL 0 || s.stp.pumpStopping.isSome then
    (s.onStp (fun t => { t with pumpReady := false })).log Ev.PUMP_LOW (8 + p) 0
  else s

/-- A write of STP.STROBE_ACT (R72); `was` is the word before. -/
def Dev.strobeWrite (s : Dev) (was v : Word) : Dev :=
  let s := s.onStp (fun t => { t with strobePast := keepPast t.strobePast s.tick (field was 10 3) })
  if bit v 0 then s.askClaim 1 0 [0x010 + field v 2 1] else s.releaseClaim 1 0

/-- The start of a fired entry that is no member of a frame falls due (R66). -/
def Dev.steepStart (s : Dev) (n : Fin 8) : Dev :=
  match (s.en n).start with
  | some t => if (s.en n).member then s else (s.to t).beginSteep n t
  | none => s

end Sys2Proof.Machine
end

