-- ==== Sys2Proof/Machine/Frm.lean ====
section
/-! DEFINITION. The frame controller of STP: frames, members, trigger modes, closing and the frame record
(spec/03_infusions_and_trigger_modes.md). -/

namespace Sys2Proof.Machine

/-- Change the frame controller. -/
def Dev.onFrm (s : Dev) (f : Frm → Frm) : Dev := { s with frm := f s.frm }

/-- The state codes of STP.FRM_CTRL.STATE. -/
def FrmState.code : FrmState → Nat
  | .idle => 0
  | .waitNodes => 1
  | .arming => 2
  | .waitFire => 3
  | .opened => 4
  | .refused => 5

/-- Is the controller running: neither IDLE nor REFUSED? -/
def Frm.running (f : Frm) : Bool := !(decide (f.st = .idle) || decide (f.st = .refused))

/-- Is the mode pulse-paced (R83)? -/
def pulsePaced (mode : Nat) : Bool := mode == 2 || mode == 4 || mode == 5

/-- The sources a mode allows (R83). -/
def sourceAllowed (mode source : Nat) : Bool :=
  match mode with
  | 1 => source < 4
  | 2 => source == 1
  | 3 => source < 4
  | 4 => source < 4
  | 5 => source == 2
  | 6 => source == 2
  | 7 => source == 3
  | _ => false

/-- The entry number as an index. -/
def enIdx (n : Nat) : Fin 8 := ⟨n % 8, Nat.mod_lt _ (by decide)⟩

/-- The members that STP.FRM_MAP names, in ascending entry order (R77). -/
def Dev.mapMembers (s : Dev) : List Member :=
  (List.finRange 8).filterMap (fun (n : Fin 8) =>
    let f := s.fd R.STP_FRM_MAP (3 * n.val + 2) (3 * n.val)
    if f = 0 then none else
    some ⟨n.val, f - 1, zJoin (s.rd (R.STP_ENn_ZMASK_LO n)) (s.rd (R.STP_ENn_ZMASK_HI n)),
      (s.rd (R.STP_ENn_DURATION n)).toNat, (s.rd (R.STP_ENn_DELAY n)).toNat⟩)

/-- The start of a member, from the frame origin (R90). -/
def memberStartAt (offs : List Nat) (m : Member) : Nat := offs.getD m.inf 0 + m.delay

/-- The end of a member, from the frame origin (R90). -/
def memberEndAt (offs : List Nat) (m : Member) : Nat := memberStartAt offs m + m.dur + 1

/-- The gap rule of R90 over every pair of members. -/
def gapRule (offs : List Nat) (ms : List Member) : Bool :=
  ms.all (fun a => ms.all (fun b =>
    !(decide (a.inf < b.inf) && decide (a.mask &&& b.mask ≠ 0)) ||
      decide (memberEndAt offs a + 160 ≤ memberStartAt offs b)))

/-- No two members of one infusion share a zone (R84 check 4). -/
def disjointMembers (ms : List Member) : Bool :=
  ms.all (fun a => ms.all (fun b =>
    !(decide (a.entry < b.entry) && a.inf == b.inf) || decide (a.mask &&& b.mask = 0)))

/-- The period rule of R100. -/
def periodRule (offs : List Nat) (ms : List Member) (period : Nat) : Bool :=
  decide ((ms.map (memberEndAt offs)).foldl max 0 + 160 + 1600 * ms.length ≤ period)

/-- The first failing check of R84 among checks 1 to 6, by its reason. -/
def Dev.goCheck (s : Dev) (ms : List Member) (k : Nat) (rotate : Bool) (offs : List Nat) (period : Nat) : Option Nat :=
  let fields := (List.range 8).map (fun n => s.fd R.STP_FRM_MAP (3 * n + 2) (3 * n))
  let ctl := ms.map (fun m => s.rd (R.STP_ENn_CTRL m.entry))
  let mode := field (ctl.headD 0) 15 12
  let source := field (ctl.headD 0) 5 3
  let srcId := field (ctl.headD 0) 23 16
  if !(decide (1 ≤ k) && decide (k ≤ 4) && fields.all (fun f => decide (f ≤ k)) &&
      (List.range k).all (fun i => ms.any (fun m => m.inf == i))) then some 1
  else if !(ctl.all (fun c => field c 15 12 == mode && field c 5 3 == source && field c 23 16 == srcId &&
        !bit c 11 && !bit c 10) && sourceAllowed mode source &&
      (mode != 2 || (offs.all (· == 0) && ms.all (fun m => m.delay == 0)))) then some 2
  else if rotate && !(k == 1 || k == 2) then some 3
  else if !disjointMembers ms then some 4
  else if !pulsePaced mode && !(gapRule offs ms && (mode != 3 || periodRule offs ms period)) then some 5
  else if !ms.all (fun m => match (s.en (enIdx m.entry)).st with
      | .idle => true
      | .done => true
      | .refused => true
      | _ => false) then some 6
  else none

/-- The controller enters REFUSED with a reason (R84, R88); a train goes on to its last frame, which is skipped (R100, R101). -/
def Dev.frmRefuse (s : Dev) (reason : Nat) : Dev :=
  (s.onFrm (fun f => { f with st := .refused, reason := reason, frame := none, fires := [] })).post 5 s.tb

/-- The feature and channel of the controller's claim (R85). -/
def Frm.claim (f : Frm) : Option (Nat × Nat) :=
  if f.source = 2 then some (if f.mode = 5 ∨ f.mode = 6 then 2 else 3, f.srcId % 16) else none

/-- Give up the controller's claim when it stops (R85). -/
def Dev.frmDropClaim (s : Dev) : Dev :=
  match s.frm.claim with
  | some (2, ch) => s.releaseClaim 2 ch
  | some (_, ch) => s.dropTimer ch
  | none => s

/-- GO (R84): the snapshot, checks 1 to 6, and the claim of check 7 asked for. A train that still runs goes on (R100). -/
def Dev.frmGo (s : Dev) : Dev :=
  if s.frm.running then s else
  let s := match decide (s.frm.st = .refused ∧ s.frm.reason = 7), s.frm.claim with
    | true, some (feat, ch) => (s.onFrm (fun f => { f with reason := 0 })).forgetLost feat ch
    | _, _ => s
  let c := s.rd R.STP_FRM_CTRL
  let ms := s.mapMembers
  let k := field c 2 0
  let offs := (List.range 4).map (fun i => (s.rd (R.STP_FRM_OFFSETi i)).toNat)
  let period := (s.rd R.STP_FRM_PERIOD).toNat
  match s.goCheck ms k (bit c 8) offs period with
  | some r => ((s.wr R.STP_FRM_BURST_COUNT 0).log Ev.FRAME_INVALID r 0).frmRefuse r
  | none =>
    let h := s.rd (R.STP_ENn_CTRL ((ms.head?.map (·.entry)).getD 0))
    let s := (s.wr R.STP_FRM_BURST_COUNT 0).onFrm (fun f => { f with
      st := .waitNodes, reason := 0, members := ms, k := k, rotate := bit c 8, offs := offs,
      perFire := (s.rd R.STP_FRM_PER_FIRE).toNat, period := period, burst := (s.rd R.STP_FRM_BURST).toNat,
      mode := field h 15 12, source := field h 5 3, srcId := field h 23 16, pol := s.bt R.STP_TRIG 0,
      opened := 0, frame := none, stopping := false, blockedLogged := false, fires := [] })
    match s.frm.claim with
    | some (feat, ch) => s.askClaim feat ch [0x020 + ch]
    | none => s

/-- The rotation index of the next or open frame (R79). -/
def Frm.rotIndex (f : Frm) : Nat :=
  match f.frame with
  | some o => o.r
  | none => if f.rotate ∧ f.k ≠ 0 then f.opened % (4 / f.k) else 0

/-- The node of an infusion (R78). -/
def Frm.nodeOf (f : Frm) (i : Nat) : Nat := (i + f.rotIndex * f.k) % 4

/-- Take every member that waits for a fire back to IDLE. -/
def Dev.disarmMembers (s : Dev) : Dev :=
  s.frm.members.foldl (fun s m => s.disarm (enIdx m.entry)) s

/-- Phase 1 of R87 ends: the nodes of the next frame hold nothing and are not being poured in any member's zones, and no member steeps any more, as one of
an earlier infusion can at the close (R98, notes/assumptions/192.md). -/
def Dev.nodesFree (s : Dev) : Bool :=
  s.frm.members.all (fun m =>
    let node := s.frm.nodeOf m.inf
    decide ((s.holdOf node ||| s.poured node) &&& m.mask = 0) && decide ((s.en (enIdx m.entry)).st ≠ .steeping))

/-- Phase 2 of R87: DURATION and DELAY are read again (R91) and every member is armed in ascending entry order (R88). -/
def Dev.frmArm (s : Dev) : Dev :=
  if s.frm.st = .waitNodes ∧ s.nodesFree then
    let read := s.frm.members.map (fun m => { m with
      dur := (s.rd (R.STP_ENn_DURATION m.entry)).toNat, delay := (s.rd (R.STP_ENn_DELAY m.entry)).toNat })
    let bad := !pulsePaced s.frm.mode && !gapRule s.frm.offs read
    let s := if bad then s.log Ev.FRAME_TIMING 0 (s.rd R.STP_FRM_NUMBER).toNat else s
    let ms := if bad then s.frm.members else read
    let s := s.onFrm (fun f => { f with st := .arming, members := ms, pol := s.bt R.STP_TRIG 0 })
    let (s, ok) := ms.foldl (fun (acc : Dev × Bool) m =>
      if acc.2 then
        let n := enIdx m.entry
        let s := acc.1
        let s := s.armWith n s.frm.mode { s.entryFromRegs n with
          mask := m.mask, node := s.frm.nodeOf m.inf, dur := m.dur, delay := m.delay, source := s.frm.source,
          srcId := s.frm.srcId, acc := false, disc := false, pol := s.frm.pol, member := true }
        (s, decide ((s.en n).st = .arming))
      else acc) (s, true)
    if ok then s else (s.disarmMembers.frmRefuse 8).frmDropClaim
  else s

/-- Phase 3 of R87: every member is ARMED. -/
def Dev.frmArmed (s : Dev) : Dev :=
  if s.frm.st = .arming ∧ s.frm.members.all (fun m => decide ((s.en (enIdx m.entry)).st = .armed)) then
    s.onFrm (fun f => { f with st := .waitFire })
  else s

/-! ### Opening frames -/

/-- The value of STP.FRM_NUMBER is taken and the register counts on, opening a session at its wrap (R103, R498). -/
def Dev.takeNumber (s : Dev) : Word × Dev :=
  let n := s.rd R.STP_FRM_NUMBER
  let s := s.wr R.STP_FRM_NUMBER (n + 1)
  (n, if n = BitVec.allOnes 36 then s.advanceSession else s)

/-- Set the members of an infusion to start after an origin (R83, R92). -/
def Frm.dueFrom (f : Frm) (origin : Nat) (want : Nat → Bool) (ph : List (Nat × MemberPhase)) : List (Nat × MemberPhase) :=
  ph.map (fun x =>
    match f.members.find? (fun m => m.entry == x.1) with
    | some m => if want m.inf then (x.1, .due (origin + memberStartAt f.offs m)) else x
    | none => x)

/-- The delay lines that the members of a frame that are due need (R477). -/
def Dev.dueLines (s : Dev) (o : OpenFrame) : List Nat :=
  o.phases.flatMap (fun x => match x.2 with
    | .due _ => fireLines (enIdx x.1) (s.en (enIdx x.1)).mask
    | _ => [])

/-- A frame opens (R103): it takes its number; in the timed modes every member's start is set. `T` is the time of a scheduled trigger. -/
def Dev.openFrame (s : Dev) (origin : Nat) (T : Option Stamp := none) : Dev :=
  let (num, s) := s.takeNumber
  let f := s.frm
  let ph := f.members.map (fun m => (m.entry, MemberPhase.waiting))
  let pulse := pulsePaced f.mode
  let o : OpenFrame := {
    num := num, origin := origin, r := f.rotIndex,
    phases := f.dueFrom origin (fun i => !pulse || i == 0) ph,
    fireOrigin := if pulse then some origin else none, serial := f.frameOpens, originStamp := T.getD (s.stampOf origin),
    windDown := s.stp.pumpStopping.isSome }
  ((s.onFrm (fun f => { f with st := .opened, frame := some o, opened := f.opened + 1, frameOpens := f.frameOpens + 1,
                               lastOpen := some s.tick })).discard (s.dueLines o)).post 1 s.tb

/-- A fire the controller ignores (R89): counted, and logged once until the next close. -/
def Dev.blockFire (s : Dev) : Dev :=
  let s := s.bump R.STP_FRM_BLOCKED
  if s.frm.blockedLogged then s
  else (s.log Ev.FRAME_BLOCKED s.frm.st.code (s.rd R.STP_FRM_NUMBER).toNat).onFrm (fun f => { f with blockedLogged := true })

/-- A scheduled frame is skipped (R102): the number advances as if it had been taken. -/
def Dev.skipScheduled (s : Dev) : Dev :=
  let (num, s) := s.takeNumber
  (s.bump R.STP_FRM_SKIPPED).log Ev.FRAME_SKIPPED 7 num.toNat

/-! ### Closing frames -/

/-- The mask of the zones in which an infusion steeped. -/
def steepedZones (l : List SteepDone) (i : Nat) : Zones := zUnion ((l.filter (fun d => d.inf == i)).map (·.mask))

/-- The status word at the close (R110). -/
def Frm.statusWord (f : Frm) (o : OpenFrame) : Word :=
  let group := fun i =>
    place (4 * i) (4 * i) (b2n (o.steeps.any (fun d => d.inf == i))) |||
    place (4 * i + 2) (4 * i + 2) (b2n (o.limited.contains i)) |||
    place (4 * i + 3) (4 * i + 3) (b2n (o.holdover.contains i))
  place 23 22 o.r ||| place 21 19 f.k ||| place 18 18 (b2n o.held) |||
    place 17 17 (b2n (o.closing == some .stopped)) ||| place 16 16 (b2n (o.closing == some .idle)) |||
    (List.range 4).foldl (fun w i => if i < f.k then w ||| group i else w) 0

/-- The earliest of a list of stamps. -/
def minStamp : List Stamp → Option Stamp
  | [] => none
  | x :: xs => some (xs.foldl (fun a b => if b.toNat < a.toNat then b else a) x)

/-- The start timestamp of a frame (R103). -/
def OpenFrame.startStamp (o : OpenFrame) (originStamp : Stamp) : Stamp :=
  match minStamp ((o.stamps.filter (fun x => x.1 == 0)).map (·.2)) with
  | some t => t
  | none => (minStamp (o.stamps.map (·.2))).getD originStamp

/-- The measured duration of a level-controlled infusion: from its start stamp to the latest end, held to the 36 bits of the register, which is within its
± 1 tick (R96). -/
def OpenFrame.levelTicks (o : OpenFrame) (i : Nat) : Nat :=
  match o.lvlDur.filter (fun x => x.1 == i) with
  | [] => 0
  | x :: xs => min (2 ^ 36 - 1) (xs.foldl (fun m y => max m y.2.2) x.2.2 - xs.foldl (fun m y => min m y.2.1) x.2.1)

/-- The record posted to RDO at a close (R99). -/
def Dev.frameRecord (s : Dev) (o : OpenFrame) : FrameRecord :=
  let f := s.frm
  { num := o.num, stamp := o.startStamp o.originStamp, status := f.statusWord o, serial := o.serial,
    steeps := if f.mode = 2 then o.steeps.map (fun d => { d with dur := o.levelTicks d.inf }) else o.steeps,
    infs := (List.range f.k).map (fun i =>
      { node := (i + o.r * f.k) % 4, cover := zUnion ((f.members.filter (fun m => m.inf == i)).map (·.mask)),
        steeped := steepedZones o.steeps i, present := o.steeps.any (fun d => d.inf == i) }) }

/-- The infusion of a member. -/
def Frm.infOf (f : Frm) (n : Nat) : Nat := ((f.members.find? (fun m => m.entry == n)).map (·.inf)).getD 0

/-- The part of a member of an earlier infusion that still steeps at the close, to the end that is set for it (R98, notes/assumptions/192.md). -/
def Dev.stillSteeping (s : Dev) (o : OpenFrame) : OpenFrame :=
  o.phases.foldl (fun o x =>
    if x.2 = .steeping then
      let e := s.en (enIdx x.1)
      let i := s.frm.infOf x.1
      { o with steeps := o.steeps ++ [⟨i, e.fired, e.endAt - e.startedAt⟩], holdover := if e.flagHoldover then o.holdover ++ [i] else o.holdover,
               lvlDur := if s.frm.mode = 2 then o.lvlDur ++ [(i, e.startedAt, e.endAt)] else o.lvlDur }
    else o) o

/-- A frame closes (R98, R99, R107, R108): the record goes to RDO, and the controller prepares the next frame or returns to IDLE. RDO's queue takes every record
(DESIGN CHOICE, log entry 219). -/
def Dev.closeFrame (s : Dev) (o : OpenFrame) : Dev :=
  let o := s.stillSteeping o
  let rec' := s.frameRecord o
  let s := s.disarmMembers
  let s := s.wr R.STP_FRM_STATUS rec'.status
  let s : Dev := (List.range 4).foldl (fun (s : Dev) i =>
    s.wr (R.STP_FRM_LVLDURi i) (BitVec.ofNat 36 (o.levelTicks i))) s
  let s := { s with rdo := { s.rdo with queue := s.rdo.queue ++ [PourReq.frame rec'] } }
  let s := s.bump R.STP_FRM_BURST_COUNT
  let s : Dev := if o.closing = some .idle then s.log Ev.FRAME_IDLE_CLOSE s.frm.mode o.num.toNat else s
  let s := s.post 3 s.tb
  let f : Frm := s.frm
  let ended := f.trainFrames != 0 && decide (f.trainFrames ≤ f.trainJ)
  let s := s.onFrm (fun f => { f with frame := none, lastSerial := some o.serial, blockedLogged := false, trainT0 := if ended then none else f.trainT0 })
  let burstDone := f.burst != 0 && decide (f.burst ≤ (s.rd R.STP_FRM_BURST_COUNT).toNat)
  let s := if burstDone then s.post 4 s.tb else s
  if burstDone || f.stopping then
    (s.onFrm (fun f => { f with st := .idle, reason := 0, stopping := false, fires := [] })).frmDropClaim
  else s.onFrm (fun f => { f with st := .waitNodes })

/-- Is any member of the frame steeping? -/
def OpenFrame.steeping (o : OpenFrame) : Bool := o.phases.any (fun x => x.2 == .steeping)

/-- Has a member's part in the frame ended? -/
def MemberPhase.over : MemberPhase → Bool
  | .ended => true
  | .missed => true
  | _ => false

/-- Is a member of an infusion that has started still to start (R92)? -/
def Frm.starting (f : Frm) (o : OpenFrame) : Bool :=
  o.phases.any (fun x => match x.2 with
    | .due _ => f.infOf x.1 < o.nextInf
    | _ => false)

/-- Close the open frame when its time has come (R98, R104, R108). -/
def Dev.closeCheck (s : Dev) : Dev :=
  match s.frm.frame with
  | none => s
  | some o =>
    let done := if o.closing.isSome then !o.steeping && !s.frm.starting o
      else if pulsePaced s.frm.mode then
        decide (s.frm.k ≤ o.nextInf) && o.phases.all (fun x => s.frm.infOf x.1 + 1 != s.frm.k || x.2.over)
      else o.phases.all (fun x => x.2.over)
    if done then s.closeFrame o else s

/-- Replace the open frame. -/
def Dev.setFrame (s : Dev) (o : OpenFrame) : Dev := s.onFrm (fun f => { f with frame := some o })

/-- Set a member's phase. -/
def OpenFrame.setPhase (o : OpenFrame) (n : Nat) (p : MemberPhase) : OpenFrame :=
  { o with phases := o.phases.map (fun x => if x.1 = n then (n, p) else x) }

/-- When the last member of an infusion that steeped has ended, its end is posted (R112). -/
def Dev.infusionEnd (s : Dev) (i : Nat) : Dev :=
  match s.frm.frame with
  | none => s
  | some o =>
    if o.steeps.any (fun d => d.inf == i) && o.phases.all (fun x => s.frm.infOf x.1 != i || x.2.over) then s.post 2 s.tb else s

/-! ### Idle time -/

/-- The idle limit in force (R104): zero acts as one tick. -/
def Dev.idleLimit (s : Dev) : Nat := max (s.rd R.STP_BURST_IDLE_LIMIT).toNat 1

/-- Does a pulse-paced frame wait for an infusion that has not started, its idle time counting (R104)? -/
def Dev.idleSince (s : Dev) : Option Nat :=
  match s.frm.frame with
  | some o => if pulsePaced s.frm.mode ∧ o.nextInf < s.frm.k ∧ o.fireOrigin.isNone ∧ o.closing.isNone then o.idleFrom else none
  | none => none

/-- The tick at which the idle time that counts from `t` passes the limit with HOLD as `hold` (R104): the limit and HOLD are those that stand at each tick, so
that a write acts from the tick after it. -/
def Dev.idlePasses (s : Dev) (hold : Bool) (t : Nat) : Option Nat :=
  let now := if s.bt R.STP_FRM_CTRL 9 = hold then some (t + s.idleLimit) else none
  match s.frm.idleWas with
  | some (w, limit, h) => if h = hold ∧ t + limit ≤ w then some (t + limit) else now.map (fun u => max u (w + 1))
  | none => now

/-- What the idle limit has done before this tick (R104, R106): with HOLD one the frame is HELD; with HOLD zero its close is decided. A fire or a STOP of this
tick comes before a limit that passes with it (R105, R108). -/
def Dev.idleCatchUp (s : Dev) : Dev :=
  match s.frm.frame, s.idleSince with
  | some o, some t =>
    let before := fun (u : Option Nat) => u.any (fun u => decide (u < s.tick))
    let o := if before (s.idlePasses true t) then { o with held := true } else o
    if before (s.idlePasses false t) then (s.setFrame { o with closing := some .idle }).closeCheck else s.setFrame o
  | _, _ => s

/-- HOLD or the idle limit is about to be written (R104): what they have done until now is done, and both stay in force for this tick. -/
def Dev.idleWrite (s : Dev) : Dev :=
  let s := s.idleCatchUp
  s.onFrm (fun f => { f with idleWas := match f.idleWas with
    | some (w, limit, h) => if w = s.tick then some (w, limit, h) else some (s.tick, s.idleLimit, s.bt R.STP_FRM_CTRL 9)
    | none => some (s.tick, s.idleLimit, s.bt R.STP_FRM_CTRL 9) })

/-! ### Fires of the controller -/

/-- Hand a fire to the controller (R62, R81). -/
def Dev.fireController (s : Dev) (origin : Nat) (sched : Option Stamp) (late : Bool) : Dev :=
  s.onFrm (fun f => { f with fires := f.fires ++ [⟨s.tick, origin, sched, late⟩] })

/-- An admitted fire starts the due infusion of the open frame (R92). -/
def Dev.fireInfusion (s : Dev) (o : OpenFrame) (origin : Nat) : Dev :=
  let o := { o with
    phases := s.frm.dueFrom origin (fun i => i == o.nextInf) o.phases,
    fireOrigin := some origin, judged := false, idleFrom := none, inactiveAt := none }
  (s.setFrame o).discard (s.dueLines o)

/-- One fire reaches the controller and is admitted or ignored (R89, R100, R102). -/
def Dev.frameFire (s : Dev) : Dev :=
  match s.frm.fires with
  | [] => s
  | c :: rest =>
    let s := (s.onFrm (fun f => { f with fires := rest })).idleCatchUp
    if !s.frm.running then s
    else if s.frm.trainT0.isSome then s.blockFire
    else if s.frm.mode = 7 then
      let s := s.to c.origin
      if s.frm.st = .waitFire ∧ !c.late then s.openFrame c.origin c.sched else s.skipScheduled
    else if s.frm.mode = 3 then
      if s.frm.st = .waitFire then
        (s.onFrm (fun f => { f with trainT0 := some c.origin, trainJ := 1, trainPeriod := f.period, trainFrames := f.perFire })).openFrame c.origin c.sched
      else s.blockFire
    else if s.frm.st = .waitFire then s.openFrame c.origin c.sched
    else
      match s.frm.frame with
      | some o =>
        if pulsePaced s.frm.mode ∧ o.nextInf < s.frm.k ∧ o.fireOrigin.isNone ∧ o.closing.isNone
        then s.fireInfusion o c.origin else s.blockFire
      | none => s.blockFire

/-- The origin of the next frame of a train arrives (R100, R101): a controller that waits for the frames of mode 0x3 opens it. -/
def Dev.trainOrigin (s : Dev) : Dev :=
  match s.frm.trainT0 with
  | none => s
  | some t0 =>
    let f := s.frm
    if f.trainFrames ≠ 0 ∧ f.trainFrames ≤ f.trainJ then s else
    let t := t0 + f.trainJ * f.trainPeriod
    let s := (s.to t).onFrm (fun f => { f with trainJ := f.trainJ + 1 })
    if f.st = .waitFire ∧ f.mode = 3 then s.openFrame t
    else
      let s := (s.bump R.STP_FRM_SKIPPED).log Ev.FRAME_SKIPPED 3 (s.rd R.STP_FRM_NUMBER).toNat
      if f.trainFrames ≠ 0 ∧ f.trainFrames ≤ f.trainJ + 1 ∧ s.frm.frame.isNone then s.onFrm (fun f => { f with trainT0 := none }) else s

/-- Every fire that has reached the controller is admitted or ignored, before what it meets in one decision (R105, R109). -/
def Dev.takeFires (s : Dev) : Dev := s.frm.fires.foldl (fun s _ => s.frameFire) s

/-- The idle time reaches the limit (R104, R106): a fire that has reached the controller by then is admitted first (R105). -/
def Dev.idleReached (s : Dev) : Dev :=
  let s := s.takeFires
  match s.frm.frame, s.idleSince with
  | some o, some t =>
    match s.idlePasses false t, s.idlePasses true t with
    | some u, h =>
      let o := if h.any (fun v => decide (v < u)) then { o with held := true } else o
      ((s.to u).setFrame { o with closing := some .idle }).closeCheck
    | none, some v => (s.to v).setFrame { o with held := true }
    | none, none => s
  | _, _ => s

/-! ### Members -/

/-- A member that STP ignores is disarmed for the frame (R553). -/
def Dev.missMember (s : Dev) (n : Fin 8) (ev d : Nat) (o : OpenFrame) : Dev :=
  let s := s.disarm n
  let s := s.setFrame { o.setPhase n.val .missed with pumpLogged := o.pumpLogged || ev == Ev.PUMP_LOW }
  let s := if ev = Ev.PUMP_LOW && !pulsePaced s.frm.mode then (if o.pumpLogged then s else s.log ev 15 o.num.toNat) else s.log ev n.val d
  (s.infusionEnd (s.frm.infOf n.val)).closeCheck

/-- The end that an inactive edge whose effect falls at tick u gives a level steep: never before 40 ticks, and none after its DURATION; whether the limit of
40 ticks set it (R93, R94). -/
def Entry.edgeEnd (e : Entry) (u : Nat) : Option (Nat × Bool) :=
  if e.endAt < u then none
  else if u < e.startedAt + 40 then some (e.startedAt + 40, true) else some (u, false)

/-- A member starts at its due tick; an inactive edge that came before sets its end (R93). -/
def Dev.startMember (s : Dev) (n : Fin 8) (t : Nat) (o : OpenFrame) : Dev :=
  let s := (s.setEn n { s.en n with zones := (s.en n).mask }).beginSteep n t
  let o := { o.setPhase n.val .steeping with stamps := o.stamps ++ [(s.frm.infOf n.val, s.stampOf t)] }
  match o.inactiveAt.bind (s.en n).edgeEnd with
  | some (u, limit) => (s.setEn n { s.en n with endAt := u }).setFrame { o with cut := o.cut ++ [(n.val, limit)] }
  | none => s.setFrame o

/-- The judgement of a whole infusion at the earliest of its members' starts, each against its own start (R92). -/
def Dev.judgeInfusion (s : Dev) (o : OpenFrame) : Option (Nat × Nat × Nat) :=
  (o.phases.filterMap (fun x =>
    match x.2 with
    | .due t => if s.frm.infOf x.1 = o.nextInf then
        (s.judge (enIdx x.1) t (s.en (enIdx x.1)).mask).map (fun e => (x.1, e.1, e.2)) else none
    | _ => none)).head?

/-- A member's start falls due and is judged (R92, R553). -/
def Dev.memberStart (s : Dev) (n : Fin 8) : Dev :=
  match s.frm.frame with
  | none => s
  | some o =>
    match o.phases.find? (fun x => x.1 == n.val) with
    | some (_, .due t) =>
      let s := s.to t
      if pulsePaced s.frm.mode && !o.judged && s.frm.infOf n.val == o.nextInf then
        match s.judgeInfusion o with
        | some (m, ev, d) =>
          (s.log ev m d).setFrame { o with
            phases := o.phases.map (fun x => if s.frm.infOf x.1 = o.nextInf then (x.1, .waiting) else x),
            fireOrigin := none, idleFrom := o.fireOrigin }
        | none =>
          s.startMember n t { o with judged := true, nextInf := o.nextInf + 1, fireOrigin := none,
                                     idleFrom := some (max t (o.fireOrigin.getD 0)) }
      else
        match s.judge n t (s.en n).mask (!o.windDown) with
        | some (ev, d) => s.missMember n ev d o
        | none => s.startMember n t o
    | _ => s

/-- A member's steep ended at tick T: its part in the frame is recorded (R96, R98, R110, R180). -/
def Dev.memberEnded (s : Dev) (n : Fin 8) (T : Nat) (limited : Bool) : Dev :=
  match s.frm.frame with
  | none => s
  | some o =>
    let e := s.en n
    let i := s.frm.infOf n.val
    let o := o.setPhase n.val .ended
    let o := { o with
      steeps := o.steeps ++ [⟨i, e.fired, T - e.startedAt⟩],
      holdover := if e.flagHoldover then o.holdover ++ [i] else o.holdover,
      limited := if limited then o.limited ++ [i] else o.limited,
      lvlDur := if s.frm.mode = 2 then o.lvlDur ++ [(i, e.startedAt, T)] else o.lvlDur }
    ((s.setFrame o).infusionEnd i).closeCheck

/-- Does the entry steep as a member of the open frame? -/
def Dev.inFrame (s : Dev) (n : Fin 8) : Bool :=
  match s.frm.frame with
  | some o => o.phases.any (fun x => x.1 == n.val && x.2 == .steeping)
  | none => false

/-- Does a limit of R94 set the end of a member's level steep: its DURATION, or 40 ticks against an inactive edge? -/
def Frm.limited (f : Frm) (n : Nat) : Bool :=
  f.mode == 2 && (((f.frame.bind (fun o => o.cut.find? (fun x => x.1 == n))).map (·.2)).getD true)

/-- A steep ends (R68, R98): a level steep that reaches a limit is LIMITED (R94). -/
def Dev.steepEnd (s : Dev) (n : Fin 8) : Dev :=
  let e := s.en n
  if e.st = .steeping then
    let s := s.to e.endAt
    let inF := s.inFrame n
    let s := s.finishSteep n e.endAt
    if inF then s.memberEnded n e.endAt (s.frm.limited n.val) else s
  else s

/-- An inactive edge whose effect falls at tick t meets a member that steeps: it ends there, or at 40 ticks as LIMITED (R93, R94); one edge sets its end. -/
def Dev.edgeMeets (s : Dev) (n : Fin 8) (t : Nat) : Dev :=
  match s.frm.frame with
  | none => s
  | some o =>
    let e := s.en n
    if s.inFrame n && decide (e.st = .steeping) && !o.cut.any (fun x => x.1 == n.val) then
      match e.edgeEnd t with
      | some (u, true) => (s.setEn n { e with endAt := u }).setFrame { o with cut := o.cut ++ [(n.val, true)] }
      | some (u, false) => (((s.to u).setEn n { e with endAt := u }).finishSteep n u).memberEnded n u false
      | none => s
    else s

/-- A pulse of TRIG_P/N is accepted by its width in picoseconds (R63): never below 1,500, always from 3,000, and between by a free value. -/
def Dev.qualified (s : Dev) (width : Nat) : Bool × Dev :=
  if width < 1500 then (false, s)
  else if 3000 ≤ width then (true, s)
  else
    let (k, s) := s.drawNat 2
    (k == 1, s)

/-- The inactive edge ends the level steeps of the infusion (R93 to R96): at the edge's delay, or at 40 ticks as LIMITED. A member that has not reached its
start ends so after it; a fire that has reached the controller is admitted first. -/
def Dev.levelEnd (s : Dev) (lat width : Nat) : Dev :=
  let s := s.takeFires
  match decide (s.frm.mode = 2), s.frm.frame with
  | true, some _ =>
    let t := s.tick + lat
    let s := s.onStp (fun b => { b with trig := s.frm.pol })
    let (ok, s) := s.qualified width
    if !ok then s else
    let s := match s.frm.frame with
      | some o => if o.inactiveAt.isNone && o.phases.any (fun x => match x.2 with
          | .due _ => true
          | _ => false) then s.setFrame { o with inactiveAt := some t } else s
      | none => s
    (List.finRange 8).foldl (fun s n => s.edgeMeets n t) s
  | _, _ => s

/-! ### STOP -/

/-- STOP (R108), after the fires that have reached the controller (R109); a STOP ends a train (R100). -/
def Dev.frmStop (s : Dev) : Dev :=
  let s := s.takeFires.idleCatchUp
  match s.frm.st with
  | .idle => s.onFrm (fun f => { f with trainT0 := none })
  | .refused => s.onFrm (fun f => { f with trainT0 := none })
  | .opened =>
    if pulsePaced s.frm.mode then
      match s.frm.frame with
      | some o => ((s.setFrame { o with closing := some (o.closing.getD .stopped) }).onFrm
          (fun f => { f with stopping := true, trainT0 := none })).closeCheck
      | none => s
    else s.onFrm (fun f => { f with stopping := true, trainT0 := none })
  | _ => (s.disarmMembers.onFrm (fun f => { f with st := .idle, trainT0 := none, stopping := false, fires := [] })).frmDropClaim

/-! ### Fires by source -/

/-- Does the controller run with a source? In IDLE and REFUSED it takes no fire, a scheduled trigger of mode 0x7 included (DESIGN CHOICE,
notes/assumptions/215.md). -/
def Frm.takes (f : Frm) (source : Nat) : Bool := f.running && f.source == source

/-- An edge of TRIG_P/N that begins a pulse of a width (R57, R62, R63): `lat` is the delay of R64. -/
def Dev.trigEdge (s : Dev) (rising : Bool) (lat width : Nat) : Dev :=
  let s := s.onStp (fun b => { b with trig := rising })
  let (ok, s) := s.qualified width
  if !ok then s else
  let active := fun (pol : Bool) => rising != pol
  let listening := (List.finRange 8).any (fun n => (s.en n).listens 1)
  let takes := s.frm.takes 1
  let s1 := s.fireAll (fun e => e.listens 1 && active e.pol) (s.tick + lat)
  let s2 := if takes && active s.frm.pol then s1.fireController (s.tick + lat) none false else s1
  if !listening && !takes && active (s.bt R.STP_TRIG 0) then s2.bump R.STP_TRIG_MISSED else s2

/-- A write of STP.SOFT_GO, or a fire instruction (R58, R66, R81). -/
def Dev.softFire (s : Dev) (mask : Nat) : Dev :=
  let members := s.frm.running && s.frm.members.any (fun m => mask.testBit m.entry)
  let s1 := (List.finRange 8).foldl (fun s n =>
    if mask.testBit n.val && (s.en n).listens 0 && !(s.frm.running && s.frm.members.any (fun m => m.entry == n.val))
    then s.fireEntry n (s.tick + 16) else s) s
  if members && s.frm.takes 0 then s1.fireController (s.tick + 16) none false else s1

/-- A compare event of timer channel c at tick t (R57, R66). -/
def Dev.timerFire (s : Dev) (c t : Nat) : Dev :=
  if s.active 3 c then
    let s1 := s.fireAll (fun e => e.listens 2 && e.srcId % 16 == c) (t + 16)
    if s.frm.takes 2 && s.frm.srcId % 16 == c && s.frm.mode != 5 && s.frm.mode != 6
    then s1.fireController (t + 16) none false else s1
  else s

/-- A capture of timer channel c at tick t is a paced pulse of modes 0x5 and 0x6 (R83). -/
def Dev.pacedPulse (s : Dev) (c t : Nat) : Dev :=
  if s.active 2 c && s.frm.takes 2 && s.frm.srcId % 16 == c && (s.frm.mode == 5 || s.frm.mode == 6)
  then s.fireController (t + 16) none false else s

/-- A fabric scheduled trigger of time `time` fires at tick T (R57, R66, R102). -/
def Dev.fabricFire (s : Dev) (id T : Nat) (time : Stamp) (late : Bool) : Dev :=
  let s1 := if late then s else s.fireAll (fun e => e.listens 3 && e.srcId == id) T
  if s.frm.takes 3 && s.frm.srcId == id && (!late || s.frm.mode == 7) then s1.fireController T (some time) late else s1

/-! ### Claims settled -/

/-- Resolve the claims of this moment, and refuse what rested on a claim that was not granted: an entry by check 4 of R48, the frame
controller by check 7 of R84. -/
def Dev.settle (s : Dev) : Dev :=
  let asked := s.asks
  if asked.isEmpty then s else
  let s := s.resolve
  asked.foldl (fun s c =>
    if s.granted c.feat c.inst then s else
    let s := if c.feat = 3 then
        (List.finRange 8).foldl (fun s n =>
          let e := s.en n
          if e.st = .arming ∧ !e.member ∧ e.source = 2 ∧ e.srcId % 16 = c.inst then s.refuseArm n e 4 none else s) s
      else s
    if s.frm.st = .waitNodes ∧ s.frm.opened = 0 ∧ s.frm.claim = some (c.feat, c.inst) then s.frmRefuse 7 else s) s

end Sys2Proof.Machine
end

