-- ==== Sys2Proof/Machine/Mem.lean ====
section
/-! DEFINITION. MEM: the frame memory, error correction, scrubbing, regions and rings, and the channel arbiters
(spec/07_frame_memory_and_arbiters.md). -/

namespace Sys2Proof.Machine

/-- Change the MEM block. -/
def Dev.onMem (s : Dev) (f : Mem → Mem) : Dev := { s with mem := f s.mem }

/-! ### Addresses and channels -/

/-- What an unlisted word of frame memory reads as: zero (R555). -/
def memZero : Nat → Word := fun _ => 0

/-- What an unlisted codeword holds: no error (R555). -/
def eccZero : Nat → Nat := fun _ => 0

/-- The state code of a channel (R231). -/
def Dev.chanState (s : Dev) (c : Nat) : Nat := s.fd R.MEM_STATUS (2 * c + 1) (2 * c)

/-- Is one channel masked, so that the map of R201 applies? -/
def Dev.memMasked (s : Dev) : Bool := s.bt R.MEM_STATUS 16

/-- The top of the usable space (R200, R201); zero while every channel is untrained (R202). -/
def Dev.usableTop (s : Dev) : Nat :=
  if (List.range 8).all (fun c => s.chanState c == 3) then 0
  else if s.memMasked then 0x1C000000 else 0x20000000

/-- The unmasked channels in ascending order. -/
def Dev.unmaskedChannels (s : Dev) : List Nat := (List.range 8).filter (fun c => s.chanState c != 2)

/-- The channel and beat index of a word address (R200, R201). -/
def Dev.chanOf (s : Dev) (a : Nat) : Nat × Nat :=
  if s.memMasked then (s.unmaskedChannels.getD ((a / 32) % 7) 0, (a / 32) / 7)
  else ((a / 32) % 8, a / 256)

/-- The first word of a channel's beat (R200, R201). -/
def Dev.beatAddr (s : Dev) (c idx : Nat) : Nat :=
  if s.memMasked then (idx * 7 + s.unmaskedChannels.idxOf c) * 32 else idx * 256 + c * 32

/-- A channel. -/
def Dev.chan (s : Dev) (c : Fin 8) : Channel := s.mem.channels[c]

/-- Replace a channel. -/
def Dev.setChan (s : Dev) (c : Fin 8) (v : Channel) : Dev :=
  s.onMem (fun m => { m with channels := m.channels.set c.val v c.isLt })

/-- A channel number as an index. -/
def chIdx (n : Nat) : Fin 8 := ⟨n % 8, Nat.mod_lt _ (by decide)⟩

/-! ### Errors -/

/-- Mark a row for remap (R209, R211). -/
def Dev.markRow (s : Dev) (c row : Nat) : Dev :=
  let ch := s.chan (chIdx c)
  if !s.bt R.MEM_CTRL 1 || ch.marked.contains row then s
  else
    let free := s.fd (if c < 4 then R.MEM_SPARE_ROWS_LO else R.MEM_SPARE_ROWS_HI) (7 * (c % 4) + 6) (7 * (c % 4))
    if free ≤ ch.marked.length then
      if ch.exhausted then s else (s.setChan (chIdx c) { ch with exhausted := true }).logNow Ev.MEM_SPARES_EXHAUSTED 0 0
    else s.setChan (chIdx c) { ch with marked := ch.marked ++ [row] }

/-- An error is found at codeword `cw` by a source (R204, R205, R209). -/
def Dev.foundError (s : Dev) (cw source : Nat) (ue : Bool) : Dev :=
  let (c, idx) := s.chanOf (2 * cw)
  let row := idx / 32
  let s := (s.bump (if ue then R.MEM_UE_COUNT else R.MEM_CE_COUNT)).wr R.MEM_ECC_LAST
    (place 35 35 1 ||| place 34 34 (b2n ue) ||| place 33 30 source ||| place 28 0 (2 * cw))
  let s := s.logNow (if ue then Ev.MEM_UE else Ev.MEM_CE) 0 0
  if ue then s.markRow c row
  else
    let ch := s.chan (chIdx c)
    let n := Cells.get (fun _ => 0) ch.rowCe row + 1
    let s := s.setChan (chIdx c) { ch with rowCe := Cells.put (fun _ => 0) ch.rowCe row n }
    if max (s.fd R.MEM_CTRL 7 4) 1 ≤ n then s.markRow c row else s

/-- Clear what is known of a codeword's errors: it was written with fresh check bits. -/
def Dev.freshCode (s : Dev) (cw : Nat) : Dev := s.onMem (fun m => { m with ecc := Cells.put eccZero m.ecc cw 0 })

/-- A requester wrote the beat of an address: a pending write-back of the scrubber is dropped (R208). -/
def Dev.beatWritten (s : Dev) (a : Nat) : Dev :=
  let (c, idx) := s.chanOf a
  let ch := s.chan (chIdx c)
  match ch.back with
  | some b => if b.beat = idx then s.setChan (chIdx c) { ch with back := some { b with dirty := true } } else s
  | none => s

/-! ### Reads and writes -/

/-- The stored word of an address. -/
def Dev.memWord (s : Dev) (a : Nat) : Word := Cells.get memZero s.mem.words a

/-- Store a word, with no check. -/
def Dev.putWord (s : Dev) (a : Nat) (w : Word) : Dev := s.onMem (fun m => { m with words := Cells.put memZero m.words a w })

/-- A read of one word by a requester (R202, R204, R205): the word, and whether its codeword is uncorrectable. -/
def Dev.memRead (s : Dev) (rq a : Nat) : Word × Bool × Dev :=
  if s.usableTop ≤ a then (0, false, s.logNow Ev.MEM_RANGE rq 0)
  else match Cells.get eccZero s.mem.ecc (a / 2) with
    | 0 => (s.memWord a, false, s)
    | 1 => (s.memWord a, false, s.foundError (a / 2) rq false)
    | _ => (s.memWord a, true, s.foundError (a / 2) rq true)

/-- A write of one word within a whole beat (R202, R206). -/
def Dev.memWrite (s : Dev) (rq a : Nat) (w : Word) : Dev :=
  if s.usableTop ≤ a then s.logNow Ev.MEM_RANGE rq 0
  else ((s.putWord a w).freshCode (a / 2)).beatWritten a

/-- A write of a part of a codeword by the host data port (R206); it occupies the channel for one extra
round. -/
def Dev.memWritePart (s : Dev) (a : Nat) (w : Word) : Dev :=
  if s.usableTop ≤ a then s.logNow Ev.MEM_RANGE 9 0
  else
    let s := match Cells.get eccZero s.mem.ecc (a / 2) with
      | 0 => s
      | 1 => s.foundError (a / 2) 9 false
      | _ => s.foundError (a / 2) 9 true
    let s := ((s.putWord a w).freshCode (a / 2)).beatWritten a
    let c := chIdx (s.chanOf a).1
    s.setChan c { s.chan c with extra := true }

/-- Write a run of words within whole beats. -/
def Dev.memWriteRun (s : Dev) (rq a : Nat) : List Word → Dev
  | [] => s
  | w :: ws => (s.memWrite rq a w).memWriteRun rq (a + 1) ws

/-- What a read delivers for a word, beside what it does when it finds an error: the word, and whether its codeword is uncorrectable. -/
def Dev.memPeek (s : Dev) (a : Nat) : Word × Bool :=
  if s.usableTop ≤ a then (0, false) else (s.memWord a, decide (2 ≤ Cells.get eccZero s.mem.ecc (a / 2)))

/-- Read a run of words by a requester: each with its mark. A codeword is read once for its two words, and its error found once (R204, R205); `seen` when
the first word shares its codeword with the word read before. Each word beyond the usable top is an access of its own (DESIGN CHOICE, log entry 222). -/
def Dev.memReadRun (s : Dev) (rq a : Nat) (n : Nat) (seen : Bool := false) : List (Word × Bool) × Dev :=
  match n with
  | 0 => ([], s)
  | n + 1 =>
    let x := s.memPeek a
    let s := if seen && a % 2 == 1 && decide (a < s.usableTop) then s else (s.memRead rq a).2.2
    let (l, s) := s.memReadRun rq (a + 1) n true
    (x :: l, s)

/-- A length in words rounded up to a whole beat. -/
def toBeat (n : Nat) : Nat := (n + 31) / 32 * 32

/-- Read a run of words that goes on from the run before it, in whole beats (R206): the beats begun by the run before are not read again. -/
def Dev.memReadOn (s : Dev) (rq a n : Nat) : List (Word × Bool) × Dev :=
  let ws := (List.range n).map (fun i => s.memPeek (a + i))
  (ws, (s.memReadRun rq (toBeat a) (toBeat (a + n) - toBeat a)).2)

/-! ### Scrubbing and remap -/

/-- Is the running round of a channel idle: no requester granted, and no partial write in it (R206, R207)? -/
def Channel.idleRound (c : Channel) : Bool := c.grant.isNone && !c.occupied

/-- The scrubber reads its next beat in an idle round (R207, R209): it corrects single-bit errors and marks rows. The next read is due INTERVAL ticks after this
one (DESIGN CHOICE, log entry 223). -/
def Dev.scrubRead (s : Dev) (c : Fin 8) : Dev :=
  let ch := s.chan c
  if s.bt R.MEM_CTRL 0 && ch.idleRound && ch.back.isNone && s.chanState c.val < 2 then
    let s := s.to ch.scrubDue
    let a := s.beatAddr c.val ch.scrubBeat
    let codes := (List.range 16).map (fun i => a / 2 + i)
    let s := codes.foldl (fun s cw =>
      match Cells.get eccZero s.mem.ecc cw with
      | 0 => s
      | 1 => s.foundError cw 10 false
      | _ => s.foundError cw 10 true) s
    let fix := codes.any (fun cw => Cells.get eccZero s.mem.ecc cw == 1)
    let held := codes.map (fun cw =>
      (s.memWord (2 * cw), s.memWord (2 * cw + 1), if Cells.get eccZero s.mem.ecc cw < 2 then 0 else Cells.get eccZero s.mem.ecc cw))
    let ch := s.chan c
    let wrap := ch.scrubBeat + 1 == 2097152
    let s := s.setChan c { ch with
      scrubBeat := if wrap then 0 else ch.scrubBeat + 1,
      scrubDue := s.tick + max (s.fd R.MEM_SCRUB 23 0) 1,
      back := if fix then some { beat := ch.scrubBeat, codes := held } else ch.back,
      rowCe := if wrap then [] else ch.rowCe,
      passes := if wrap then ch.passes + 1 else ch.passes }
    let done := (List.finRange 8).all (fun i => s.chanState i.val == 2 || decide ((s.chan i).passes ≠ 0))
    if done then
      let s := (List.finRange 8).foldl (fun s i =>
        let x := s.chan i
        s.setChan i { x with passes := x.passes - 1 }) s
      s.wf R.MEM_SCRUB 35 24 (s.fd R.MEM_SCRUB 35 24 + 1)
    else s
  else s

/-- The scrubber writes a corrected beat back in an idle round as it read and corrected it, unless a requester wrote it meanwhile (R208). -/
def Dev.scrubWriteback (s : Dev) (c : Fin 8) : Dev :=
  let ch := s.chan c
  match ch.back with
  | some b =>
    if ch.idleRound then
      let s := s.setChan c { ch with back := none }
      if b.dirty then s
      else
        let a := s.beatAddr c.val b.beat
        b.codes.zipIdx.foldl (fun s x =>
          ((s.putWord (a + 2 * x.2) x.1.1).putWord (a + 2 * x.2 + 1) x.1.2.1).onMem (fun m => { m with
            ecc := Cells.put eccZero m.ecc (a / 2 + x.2) x.1.2.2 })) s
    else s
  | none => s

/-- The codewords of a channel row. -/
def Dev.rowCodes (s : Dev) (c : Nat) (row : Nat) : List Nat :=
  (List.range 32).flatMap (fun b => (List.range 16).map (fun i => s.beatAddr c (32 * row + b) / 2 + i))

/-- The copy of the oldest marked row into the lowest free spare row ends (R210): the copy has read every codeword of the row (R204,
R205); a corrected one is stored with fresh check bits, an uncorrectable one as it was. The copy ends in an idle round. The row keeps its corrections of the pass
(DESIGN CHOICE, log entry 224). -/
def Dev.remapDone (s : Dev) (c : Fin 8) : Dev :=
  let ch := s.chan c
  match ch.marked with
  | [] => s
  | row :: rest =>
    if !ch.idleRound then s else
    let s := (s.rowCodes c.val row).foldl (fun s cw =>
      match Cells.get eccZero s.mem.ecc cw with
      | 0 => s
      | 1 => (s.foundError cw 11 false).freshCode cw
      | _ => s.foundError cw 11 true) s
    let s := s.setChan c { s.chan c with marked := rest, remapped := ch.remapped ++ [row] }
    let r := if c.val < 4 then R.MEM_SPARE_ROWS_LO else R.MEM_SPARE_ROWS_HI
    let lo := 7 * (c.val % 4)
    let s := s.wf r (lo + 6) lo (s.fd r (lo + 6) lo - 1)
    s.log Ev.MEM_REMAP c.val row

/-! ### Regions and rings -/

/-- Do two runs of words overlap? A run of no words overlaps nothing (R213). -/
def overlaps (a n b m : Nat) : Bool := n != 0 && m != 0 && decide (a < b + m) && decide (b < a + n)

/-- Half of the preview region (R213). -/
def pvWords : Nat := 602112

/-- The first failing check of R213. -/
def Dev.ringCheck (s : Dev) : Option Nat :=
  let v := fun a => s.fd a 29 0
  let rs := [(v R.MEM_POUR_BASE, v R.MEM_POUR_SIZE), (v R.MEM_OUT_BASE, v R.MEM_OUT_SIZE), (v R.MEM_PV_BASE, 2 * pvWords)]
  let pairs := [(0, 1), (0, 2), (1, 2)]
  let at_ := fun i => rs.getD i (0, 0)
  if pairs.any (fun p => overlaps (at_ p.1).1 (at_ p.1).2 (at_ p.2).1 (at_ p.2).2) then some 1
  else if rs.any (fun r => decide (s.usableTop < r.1 + r.2)) then some 2
  else if !(s.mem.pours.isEmpty && s.mem.outs.isEmpty && s.rdo.pour.isNone && !s.pip.busy) then some 3
  else none

/-- MEM.RING_CTRL.APPLY (R213). -/
def Dev.ringApply (s : Dev) : Dev :=
  match s.ringCheck with
  | some r => (s.wf R.MEM_RING_CTRL 34 32 (4 + r)).log Ev.MEM_REGION_REFUSED 0 0
  | none =>
    let v := fun a => s.fd a 29 0
    s.onMem (fun m => { m with
      pourBase := v R.MEM_POUR_BASE, pourSize := v R.MEM_POUR_SIZE, outBase := v R.MEM_OUT_BASE, outSize := v R.MEM_OUT_SIZE,
      pvBase := v R.MEM_PV_BASE, pourHead := v R.MEM_POUR_BASE, outHead := v R.MEM_OUT_BASE })

/-- Where an area of a length goes in a ring (R214): at the head, or at the base when the room to the end is too small; none when the
space holds an unreleased area or one not yet freed (R217). -/
def placeArea (base size head : Nat) (areas : List Area) (len : Nat) : Option Nat :=
  let n := toBeat len
  let head := if areas.isEmpty then base else head
  let at_ := if head + n ≤ base + size then head else base
  if n ≤ size ∧ !areas.any (fun x => overlaps at_ n x.base (toBeat x.len)) then some at_ else none

/-- Free the released areas at the front of a ring (R217). -/
def pruneAreas : List Area → List Area
  | [] => []
  | a :: rest => if a.released then pruneAreas rest else a :: rest

/-- Place a pour area (R214). -/
def Dev.placePour (s : Dev) (len : Nat) (frame : Option Word) (serial : Nat) : Option (Nat × Dev) :=
  (placeArea s.mem.pourBase s.mem.pourSize s.mem.pourHead s.mem.pours len).map (fun b =>
    (b, s.onMem (fun m => { m with pours := m.pours ++ [{ base := b, len := len, frame := frame, serial := serial }],
                                   pourHead := b + toBeat len })))

/-- Place an output area (R218). -/
def Dev.placeOut (s : Dev) (len : Nat) (frame : Word) (lens : List Nat) : Option (Nat × Dev) :=
  (placeArea s.mem.outBase s.mem.outSize s.mem.outHead s.mem.outs len).map (fun b =>
    (b, s.onMem (fun m => { m with outs := m.outs ++ [{ base := b, len := len, frame := some frame, lens := lens }],
                                   outHead := b + toBeat len })))

/-- Release up to `n` of the oldest areas that may be released: one of a frame PIP has not ended waits for that end (R216). An area whose release waits already
is not named again (DESIGN CHOICE, log entry 225). -/
def releaseAreas (may : Area → Bool) : Nat → List Area → List Area
  | 0, l => l
  | _, [] => []
  | n + 1, a :: rest =>
    if !a.released && !a.deferred && may a then
      (if a.frame.isNone || a.pipDone then { a with released := true } else { a with deferred := true })
        :: releaseAreas may n rest
    else a :: releaseAreas may (n + 1) rest

/-- May MEM.POUR_RELEASE release an area under the mode in force (R216)? -/
def Dev.mayRelease (s : Dev) (a : Area) : Bool := a.frame.isNone || s.bt R.MEM_RING_CTRL 0 || a.pipDone

/-- A write of MEM.POUR_RELEASE (R216). -/
def Dev.pourRelease (s : Dev) (n : Nat) : Dev :=
  s.onMem (fun m => { m with pours := pruneAreas (releaseAreas s.mayRelease n m.pours) })

/-- A write of MEM.OUT_RELEASE (R218). -/
def Dev.outRelease (s : Dev) (n : Nat) : Dev :=
  s.onMem (fun m => { m with outs := pruneAreas (releaseAreas (fun _ => true) n m.outs) })

/-- PIP has ended or discarded a frame: its pour areas are released under RELEASE 0 or by a release that waited (R216). -/
def Dev.pipReleases (s : Dev) (serial : Nat) : Dev :=
  let auto := !s.bt R.MEM_RING_CTRL 0
  s.onMem (fun m => { m with pours := pruneAreas (m.pours.map (fun a =>
    if a.frame.isSome ∧ a.serial = serial ∧ !a.pipDone then { a with pipDone := true, released := a.released || auto || a.deferred } else a)) })

/-- PIP has written a frame's output area: a release that waited takes effect (R218). -/
def Dev.outWritten (s : Dev) (num : Word) : Dev :=
  s.onMem (fun m => { m with outs := pruneAreas (m.outs.map (fun a =>
    if a.frame = some num ∧ !a.pipDone then { a with pipDone := true, released := a.released || a.deferred } else a)) })

/-- Release the output area at a base address (R218). -/
def Dev.releaseOutAt (s : Dev) (base : Nat) : Dev :=
  s.onMem (fun m => { m with outs := pruneAreas (m.outs.map (fun a => if a.base = base then { a with released := true } else a)) })

/-- The oldest unreleased area's address, or the ring base (MEM.POUR_TAIL, MEM.OUT_TAIL). -/
def ringTail (base : Nat) (l : List Area) : Nat := ((l.find? (fun a => !a.released)).map (·.base)).getD base

/-- The number of unreleased areas. -/
def ringCount (l : List Area) : Nat := (l.filter (fun a => !a.released)).length

/-! ### Arbitration -/

/-- The length of a requester's burst in beats (MEM.RQn_CFG.BURST). -/
def Dev.burstLen (s : Dev) (n : Nat) : Nat := 2 ^ s.fd (R.MEM_RQn_CFG n) 6 4

/-- A requester at an arbiter. -/
def Channel.rq (c : Channel) (n : Fin 10) : Rq := c.rqs[n]

/-- Replace a requester at an arbiter. -/
def Channel.setRq (c : Channel) (n : Fin 10) (r : Rq) : Channel := { c with rqs := c.rqs.set n.val r n.isLt }

/-- The winner among requesters: the lowest rank, then the lower index (R221). -/
def Dev.arbWinner (s : Dev) : List (Fin 10) → Option (Fin 10)
  | [] => none
  | n :: rest =>
    match s.arbWinner rest with
    | none => some n
    | some m => if s.fd (R.MEM_RQn_CFG n) 3 0 ≤ s.fd (R.MEM_RQn_CFG m) 3 0 then some n else some m

/-- A wait of a requester that has reached MEM.STARVE_LIMIT is logged once until RQn_LONGEST is read (R228). -/
def Dev.starveCheck (s : Dev) (n wait : Nat) : Dev :=
  let limit := (s.rd R.MEM_STARVE_LIMIT).toNat
  if limit ≠ 0 ∧ limit ≤ wait ∧ !s.mem.starved.contains n then
    (s.onMem (fun m => { m with starved := m.starved ++ [n] })).log Ev.MEM_STARVE n 0 else s

/-- Grant one beat to a requester (R224, R225, R227, R228). -/
def Dev.grantBeat (s : Dev) (c : Fin 8) (n : Fin 10) (round : Nat) : Dev :=
  let ch := s.chan c
  let r := ch.rq n
  let wait := round + 1 - r.first.getD round
  let b := if s.burstLen n.val ≤ r.burst + 1 then 0 else r.burst + 1
  let s := s.setChan c { ch.setRq n { posted := r.posted - 1, first := none, k := 0, next := 0, burst := b } with
                         grant := some n.val, owner := some n.val }
  let s := s.wr (R.MEM_RQn_WAITED n) (satAdd (s.rd (R.MEM_RQn_WAITED n)) wait)
  let s := if (s.rd (R.MEM_RQn_LONGEST n)).toNat < wait then s.wr (R.MEM_RQn_LONGEST n) (satAdd 0 wait) else s
  s.starveCheck n.val wait

/-- A bit error of the arrays in a codeword (R203, R205): a second one makes it uncorrectable, and what then stands in its two words
is a free value; with more, whether it is detected is free too. -/
def Dev.upset (s : Dev) (cw : Nat) (double : Bool) : Dev :=
  let old := Cells.get eccZero s.mem.ecc cw
  if old = 0 ∧ !double then s.onMem (fun m => { m with ecc := Cells.put eccZero m.ecc cw 1 })
  else
    let (a, s) := s.drawWord
    let (b, s) := s.drawWord
    let (e, s) := if 2 ≤ old ∨ (old = 1 ∧ double) then s.drawNat 3 else (2, s)
    ((s.putWord (2 * cw) a).putWord (2 * cw + 1) b).onMem (fun m => { m with ecc := Cells.put eccZero m.ecc cw e })

/-- The decision of one round of a channel arbiter (R221 to R228): the round granted before runs, the next grant is decided, and the
requests posted during the round are seen by the next decision. After a partial write the next round is that write's, and no requester is granted it (R206);
the burst that was open goes on after it. `upsets` are the bit errors the arrays took since (codeword, double). -/
def Dev.arbitrate (s : Dev) (c : Fin 8) (posts : List (Fin 10)) (upsets : List (BitVec 28 × Bool)) : Dev :=
  let ch0 := s.chan c
  let s := match ch0.grant with
    | some n => if ch0.voided || s.mem.masked.contains n then s.bump (R.MEM_CHc_WASTED c) else s.bump (R.MEM_RQn_GRANTS n)
    | none => s
  let r := ch0.round + 1
  let seen := (List.finRange 10).foldl (fun (ch : Channel) n =>
    let q := ch.rq n
    if q.posted ≠ 0 ∧ q.first.isNone then ch.setRq n { q with first := some r } else ch)
    { ch0 with round := r, extra := false, occupied := ch0.extra }
  let s := s.setChan c { seen with grant := none, voided := false, owner := if ch0.extra then ch0.owner else none }
  let open_ := match ch0.owner with
    | some n => if h : n < 10 then
        let q := seen.rq ⟨n, h⟩
        if q.posted ≠ 0 ∧ q.burst % 4 ≠ 0 ∧ !s.mem.masked.contains n then some (⟨n, h⟩ : Fin 10) else none
      else none
    | none => none
  let s := if ch0.extra then s else match open_ with
    | some n => s.grantBeat c n r
    | none =>
      let cands := (List.finRange 10).filter (fun n =>
        decide ((seen.rq n).posted ≠ 0) && decide ((seen.rq n).next ≤ r) && !s.mem.masked.contains n.val)
      match s.arbWinner cands with
      | none => s
      | some w =>
        let s := (cands.filter (fun n => n ≠ w)).foldl (fun s n =>
          let ch := s.chan c
          let q := ch.rq n
          let k := min (q.k + 1) 8
          s.setChan c (ch.setRq n { q with k := k, next := r + 2 ^ k })) s
        s.grantBeat c w r
  let s := (List.finRange 10).foldl (fun s n =>
    match ((s.chan c).rq n).first with
    | some f => s.starveCheck n.val (r - f)
    | none => s) s
  let s := posts.foldl (fun s n =>
    let ch := s.chan c
    let q := ch.rq n
    if s.mem.masked.contains n.val then s else s.setChan c (ch.setRq n { q with posted := q.posted + 1 })) s
  upsets.foldl (fun s x => s.upset x.1.toNat x.2) s

/-- Mask or unmask a requester (R222): masking removes its requests at once and resets its loss count, and a round granted to it becomes an empty
beat (R223). -/
def Dev.maskRequester (s : Dev) (n : Fin 10) (on : Bool) : Dev :=
  if on then
    let s := s.onMem (fun m => { m with masked := if m.masked.contains n.val then m.masked else m.masked ++ [n.val] })
    (List.finRange 8).foldl (fun s c =>
      let ch := s.chan c
      s.setChan c { ch.setRq n {} with voided := ch.voided || ch.grant == some n.val }) s
  else s.onMem (fun m => { m with masked := m.masked.filter (fun x => x != n.val) })

end Sys2Proof.Machine
end

