-- ==== Sys2Proof/Machine/Cnv.lean ====
section
/-! DEFINITION. CNV: codes, failures and spare substitution (spec/04_column_converters.md). -/

namespace Sys2Proof.Machine

/-- Change the CNV block. -/
def Dev.onCnv (s : Dev) (f : Cnv → Cnv) : Dev := { s with cnv := f s.cnv }

/-! ### Codes -/

/-- The highest in-range code of a resolution (R118). -/
def topCode (res : Nat) : Nat := if res = 0 then 1022 else if res = 2 then 16382 else 4094

/-- The over-range code of a resolution (R118). -/
def overCode (res : Nat) : Nat := topCode res + 1

/-- The pedestal of a resolution (R118). -/
def pedestal (res : Nat) : Nat := if res = 0 then 24 else if res = 2 then 384 else 96

/-- The row time of a resolution (R123). -/
def rowTime (res : Nat) : Nat := if res = 0 then 2736 else if res = 2 then 12320 else 3080

/-- The gain of a resolution and conversion gain, in 1/10,000 electrons per LSB (R118). -/
def gainOf (res cg : Nat) : Nat :=
  (if res = 0 then 88000 else if res = 2 then 5500 else 22000) / (if cg = 1 then 4 else 1)

/-- The input of a converter in 1/256 LSB (R118, R551): the pedestal, the charge at the nominal gain, and the sample's own deviation, which is what the
noise, the offset and the remaining gain error of the converter add to it. -/
def inputOf (res cg charge : Nat) (dev : Int) : Int :=
  (256 * pedestal res + 2560000 * charge / gainOf res cg : Nat) + dev

/-- Is an input within the 2 LSB below the top, where R120 leaves the code open? -/
def nearTop (res : Nat) (x : Int) : Bool :=
  let top : Int := 256 * topCode res + 128
  decide (top - 512 ≤ x) && decide (x ≤ top)

/-- The code of an input in 1/256 LSB (R551, R119 to R121): above the top the over-range code; within the 2 LSB below it the over-range code past the
converter's own transition, `trans` below the top, else the highest in-range code; below the bottom zero; else the code whose level is nearest, and of two
equally near the lower (log entry 179). -/
def codeOf (res trans : Nat) (x : Int) : Nat :=
  let top : Int := 256 * topCode res + 128
  if top < x then overCode res
  else if nearTop res x then (if top - trans < x then overCode res else topCode res)
  else if x ≤ 128 then 0
  else ((x + 127) / 256).toNat

/-- The code of an input in the converter `unit` of a bank, in the pour that started at a tick: working converters have their number, spare k is
7,168 + k, edge converter e is 7,280 + e. Its transition to the over-range code is free within R120, and one for the pour. -/
def columnCode (start res bank unit : Nat) (x : Int) : Nat := codeOf res (Config.overTransition start bank unit % 513) x

/-! ### Spare substitution -/

/-- The state of a spare: 0 FREE, 1 MATCHING, 2 IN_SERVICE, 3 FAILED. -/
def Dev.spareState (s : Dev) (b k : Nat) : Nat := s.fd (R.CNV_SUBb_k b k) 35 34

/-- The working converter a spare serves. -/
def Dev.spareConv (s : Dev) (b k : Nat) : Nat := s.fd (R.CNV_SUBb_k b k) 12 0

/-- The spares of a bank in ascending order. -/
def spares : List Nat := List.range 112

/-- The spare that serves a converter, in MATCHING or IN_SERVICE. -/
def Dev.spareOf (s : Dev) (b c : Nat) : Option Nat :=
  spares.find? (fun k => (s.spareState b k == 1 || s.spareState b k == 2) && s.spareConv b k == c)

/-- Is substitution running in a bank (R127, R136)? -/
def Dev.sparing (s : Dev) (b : Nat) : Bool := s.bt R.CNV_CTRL 12 && !s.bt R.CNV_STATUS (8 + b)

/-- Write an entry of the substitution table. -/
def Dev.setSpare (s : Dev) (b k st cause conv : Nat) : Dev :=
  s.wr (R.CNV_SUBb_k b k) (place 35 34 st ||| place 18 16 cause ||| place 12 0 conv)

/-- A table of trims whose unlisted entries are zero. -/
def trimZero : Nat → Int := fun _ => 0

/-- Where gain trims stand: working converter c of a bank, its spare k, and its edge converter e. -/
def gainKey (b c : Nat) : Nat := 7168 * b + c
def gainKeySpare (b k : Nat) : Nat := 28672 + 112 * b + k
def gainKeyEdge (b e : Nat) : Nat := 29120 + 48 * b + e

/-- What the spares of a converter are matched to: the offset and gain last accepted for it before it failed (R131), which stand from its failure on. -/
def Dev.matchTarget (s : Dev) (b c : Nat) : MatchTarget :=
  let ofs := fun (x : Nat) => Cells.get trimZero s.cal.ofsTarget (14336 * b + x)
  (s.cnv.targets.find? (fun t => t.bank == b && t.conv == c)).getD
    ⟨b, c, (ofs (2 * c), ofs (2 * c + 1)), Cells.get trimZero s.cal.gainTarget (gainKey b c)⟩

/-- The match targets without that of a converter. -/
def Cnv.otherTargets (v : Cnv) (b c : Nat) : List MatchTarget := v.targets.filter (fun t => !(t.bank == b && t.conv == c))

/-- Assign a spare to a failed converter (R129), or leave it waiting (R135, R136). -/
def Dev.assignSpare (s : Dev) (b c cause : Nat) : Dev :=
  let t := s.matchTarget b c
  let s := s.onCnv (fun v => { v with targets := v.otherTargets b c ++ [t] })
  let wait := fun (s : Dev) (noSpare : Bool) => s.onCnv (fun v => { v with
    waiting := v.waiting.filter (fun x => !(x.bank == b && x.conv == c)) ++ [⟨b, c, cause, noSpare⟩] })
  if s.sparing b then
    let own := c / 64
    let pick := if s.spareState b own = 0 then some own else spares.find? (fun k => s.spareState b k == 0)
    match pick with
    | some k => (s.setSpare b k 1 cause c).onCnv (fun v => { v with
        waiting := v.waiting.filter (fun x => !(x.bank == b && x.conv == c)), matching := v.matching ++ [{ bank := b, spare := k, pours := 0, matched := false, inPour := false, tOfs := t.ofs, tGain := t.gain }] })
    | none => wait (if s.cnv.waiting.any (fun x => x.bank == b && x.noSpare) then s else s.log Ev.CNV_SPARES_EXHAUSTED 0 0) true
  else wait s false

/-- Log a failure of a converter or a spare and keep it in CNV.FAIL_LAST (R126). -/
def Dev.failLog (s : Dev) (b n cause : Nat) (spare : Bool) : Dev :=
  (s.wr R.CNV_FAIL_LAST (place 35 35 1 ||| place 18 16 cause ||| place 15 15 (b2n spare) ||| place 14 13 b ||| place 12 0 n)).log
    Ev.CNV_FAIL b (n + cause * 2 ^ 13)

/-- A spare fails (R131, R134): it enters FAILED. -/
def Dev.spareFails (s : Dev) (b k cause : Nat) : Dev :=
  let c := s.spareConv b k
  let orig := s.fd (R.CNV_SUBb_k b k) 18 16
  let s := (s.failLog b k cause true).setSpare b k 3 (if cause = 6 then 6 else orig) c
  s.onCnv (fun v => { v with matching := v.matching.filter (fun m => !(m.bank == b && m.spare == k)) })

/-- Units of a bank fail in one decision (R126, R129 to R131, R134), working converters and spares, each with its cause. The spares enter FAILED before any
spare is assigned; then the converters that failed, and with their own causes those whose spares did, are served, the lower number first. -/
def Dev.failTogether (s : Dev) (b : Nat) (convs units : List (Nat × Nat)) : Dev :=
  let units := units.filter (fun x => s.spareState b x.1 != 3)
  let owed := (units.filter (fun x => s.spareState b x.1 == 1 || s.spareState b x.1 == 2)).map (fun x =>
    (s.spareConv b x.1, s.fd (R.CNV_SUBb_k b x.1) 18 16))
  let s := convs.foldl (fun s x => s.failLog b x.1 x.2 false) s
  let s := units.foldl (fun s x => s.spareFails b x.1 x.2) s
  ((convs ++ owed).mergeSort (fun x y => decide (x.1 ≤ y.1))).foldl (fun s x => s.assignSpare b x.1 x.2) s

/-- An edge converter fails (R128). -/
def Dev.failEdge (s : Dev) (b e : Nat) : Dev :=
  if s.cnv.edgeBad.contains (b, e) then s else
  let r := if e < 24 then R.CNV_EDGE_FAIL_L else R.CNV_EDGE_FAIL_R
  let s := (s.log Ev.CNV_EDGE_FAIL 0 0).onCnv (fun v => { v with edgeBad := v.edgeBad ++ [(b, e)] })
  s.wf r (5 * b + 4) (5 * b) (s.fd r (5 * b + 4) (5 * b) + 1)

/-- Serve the waiting converters of the banks in which substitution runs, in ascending bank and converter order (R136). -/
def Dev.serveWaiting (s : Dev) : Dev :=
  (List.range 4).foldl (fun s b =>
    if s.sparing b then
      let w := ((s.cnv.waiting.filter (fun x => x.bank == b)).mergeSort (fun x y => decide (x.conv ≤ y.conv)))
      w.foldl (fun s x => s.assignSpare b x.conv x.cause) s
    else s) s

/-- CNV.SUB_CMD FORCE (R137). -/
def Dev.forceConv (s : Dev) (b c : Nat) : Dev :=
  if 7167 < c ∨ (s.spareOf b c).isSome then s
  else s.failTogether b [(c, 5)] []

/-- The trims of a spare are discarded (R137). -/
def Dev.dropTrims (s : Dev) (b k : Nat) : Dev :=
  { s with cal := { s.cal with spareOfs := Cells.put trimZero s.cal.spareOfs (112 * b + k) 0,
                               gain := Cells.put trimZero s.cal.gain (gainKeySpare b k) 0,
                               gainTarget := Cells.put trimZero s.cal.gainTarget (gainKeySpare b k) 0 } }

/-- CNV.SUB_CMD RELEASE (R137): the spare becomes FREE and its trim is discarded, and a converter that waits in the bank takes it (R135); pours take their
defective columns at their start, so the converter is back in the data path from the next pour start. -/
def Dev.releaseConv (s : Dev) (b c : Nat) : Dev :=
  if 7167 < c then s else
  match s.spareOf b c with
  | some k => (((s.setSpare b k 0 0 0).dropTrims b k).onCnv (fun v => { v with
      matching := v.matching.filter (fun m => !(m.bank == b && m.spare == k)), targets := v.otherTargets b c })).serveWaiting
  | none => s

/-- A write of CNV.SUB_CMD (R137). -/
def Dev.subCmd (s : Dev) (v : Word) : Dev :=
  match field v 35 34 with
  | 1 => s.forceConv (field v 14 13) (field v 12 0)
  | 2 => s.releaseConv (field v 14 13) (field v 12 0)
  | _ => s

/-- The bank of a gain trim. -/
def gainBank (k : Nat) : Nat := if k < 28672 then k / 7168 else if k < 29120 then (k - 28672) / 112 else (k - 29120) / 48

/-- The gain trims of some banks move one code towards their targets (R485). -/
def Dev.gainStep (s : Dev) (banks : List Nat) : Dev :=
  let keys := (s.cal.gain.map (·.1) ++ s.cal.gainTarget.map (·.1)).filter (fun k => banks.contains (gainBank k))
  { s with cal := { s.cal with gain := keys.foldl (fun (m : Cells Int) (k : Nat) =>
      Cells.put trimZero m k (moveTowards 1 (Cells.get trimZero s.cal.gain k) (Cells.get trimZero s.cal.gainTarget k))) s.cal.gain } }

/-- What changes at the start of a pour in some banks: matched spares enter service (R132, R133) but in a bank whose substitution a
bank fault suspends (R127), and the spares being matched convert
along in the pour (R130). -/
def Dev.cnvPourStart (s : Dev) (banks : List Nat) : Dev :=
  let go := s.cnv.matching.filter (fun m => m.matched && banks.contains m.bank && !s.bt R.CNV_STATUS (8 + m.bank))
  let s := go.foldl (fun s m => (s.wf (R.CNV_SUBb_k m.bank m.spare) 35 34 2).log Ev.CNV_SUBSTITUTED 0 0) s
  (s.onCnv (fun v => { v with matching := (v.matching.filter (fun m => !go.contains m)).map (fun m => { m with inPour := true, cur := (0, 0) }) })).gainStep
    banks

/-- The converters whose columns PIP treats as defective: failed and not replaced by a spare in service (R130, R135). -/
def Dev.badConvs (s : Dev) : List (Nat × Nat) :=
  s.cnv.waiting.map (fun x => (x.bank, x.conv)) ++
  (List.range 4).flatMap (fun b => spares.filterMap (fun k => if s.spareState b k = 1 then some (b, s.spareConv b k) else none))

/-- The converters that a spare in service replaces: bank, converter, spare (R132). -/
def Dev.served (s : Dev) : List (Nat × Nat × Nat) :=
  (List.range 4).flatMap (fun b => spares.filterMap (fun k => if s.spareState b k = 2 then some (b, s.spareConv b k, k) else none))

/-- A dark-row sample at 12-bit scale, in 1/16 LSB (R481). -/
def darkScaled (res c : Nat) : Nat := if res = 0 then 64 * c else if res = 2 then 4 * c else 16 * c

/-- Does a spare being matched gather dark samples in a pour: it converts along, and its 16 pours are not behind it (R130, R131)? -/
def Matching.gathers (m : Matching) : Bool := m.inPour && !m.matched && decide (m.pours < 16)

/-- A spare has converted its two columns in a dark row. -/
def Matching.sample (m : Matching) (a b : Nat) : Matching := { m with cur := (m.cur.1 + a, m.cur.2 + b) }

/-- The offset of a spare in a column after its 16 pours, with a trim in force, lies how far from its target, in 1/16 LSB over a denominator: the mean of its
64 dark samples, less the mean of the bank's medians in its pours. -/
def Matching.residual (m : Matching) (sum : Nat) (trim target : Int) : Int × Nat :=
  let den : Nat := 64 * m.mid.2
  ((sum * m.mid.2 : Nat) - (4 * m.mid.1 : Nat) + (trim - target) * den, den)

/-- Are the residuals of a match within the limits of R131, with the trims it takes: 0.5 LSB of offset on both columns, and 0.1 % of gain? The gain stands in
parts per million, a trim code for 625 of them. -/
def Matching.within (m : Matching) (trim gain : Int) : Bool :=
  let near := fun (r : Int × Nat) => decide (r.1.natAbs ≤ 8 * r.2)
  near (m.residual m.sum.1 trim m.tOfs.1) && near (m.residual m.sum.2 trim m.tOfs.2) && decide ((gain - 625 * m.tGain).natAbs ≤ 1000)

/-- Is a gain code in range (R475)? -/
def gainInRange (k : Int) : Bool := decide (-128 ≤ k) && decide (k ≤ 127)

/-- Why a match fails (R131, R475): cause 2 when it needs a gain code out of range, cause 6 when a residual lies beyond the limits. -/
def Matching.failure (m : Matching) (x : SpareMatch) : Option Nat :=
  if !gainInRange x.gainTrim then some 2 else if !m.within x.ofsTrim x.gain then some 6 else none

/-- A match succeeds (R131, R485): the spare takes its trims. -/
def Dev.matchTaken (s : Dev) (x : SpareMatch) : Dev :=
  let key := gainKeySpare x.bank x.spare
  { s.onCnv (fun v => { v with matching := v.matching.map (fun m =>
      if m.bank = x.bank ∧ m.spare = x.spare then { m with matched := true } else m) }) with
    cal := { s.cal with spareOfs := Cells.put trimZero s.cal.spareOfs (112 * x.bank + x.spare) x.ofsTrim,
                        gain := Cells.put trimZero s.cal.gain key x.gainTrim,
                        gainTarget := Cells.put trimZero s.cal.gainTarget key x.gainTrim } }

/-- The gain matches of the spares that have their 16 pours of dark rows behind them end together, bank by bank (R129, R131). -/
def Dev.matchResults (s : Dev) (l : List SpareMatch) : Dev :=
  let ended := (s.cnv.matching.filter (fun m => !m.matched && decide (16 ≤ m.pours))).filterMap (fun m =>
    (l.find? (fun x => x.bank == m.bank && x.spare == m.spare)).map (fun x => (x, m.failure x)))
  let s := (ended.filter (fun x => x.2.isNone)).foldl (fun s x => s.matchTaken x.1) s
  (List.range 4).foldl (fun s b =>
    s.failTogether b [] (ended.filterMap (fun x => if x.1.bank = b then x.2.map (fun cause => (x.1.spare, cause)) else none))) s

/-- CNV.SPARE_STATUS: free spares per bank, and the banks in which a converter waits. -/
def Dev.spareStatus (s : Dev) : Word :=
  (List.range 4).foldl (fun w b =>
    w ||| place (8 * b + 7) (8 * b) (spares.filter (fun k => s.spareState b k == 0)).length |||
      place (32 + b) (32 + b) (b2n (s.cnv.waiting.any (fun x => x.bank == b)))) 0

end Sys2Proof.Machine
end

