-- ==== Sys2Proof/Machine/Rdo.lean ====
section
/-! DEFINITION. RDO: pour requests, windows, row sequencing, binning, and the pour area (spec/05_windows_zones_and_binning.md). -/

namespace Sys2Proof.Machine

/-- Change the RDO block. -/
def Dev.onRdo (s : Dev) (f : Rdo → Rdo) : Dev := { s with rdo := f s.rdo }

/-! ### Windows -/

/-- First active column of a window. -/
def Win.x0 (w : Win) : Nat := field w.pos 13 0
/-- First active row. -/
def Win.y0 (w : Win) : Nat := field w.pos 29 16
/-- Sum mode (R149). -/
def Win.sum (w : Win) : Bool := bit w.pos 35
/-- Width in active columns. -/
def Win.w (w : Win) : Nat := field w.size 13 0
/-- Height in active rows. -/
def Win.h (w : Win) : Nat := field w.size 29 16
/-- Column binning. -/
def Win.bx (w : Win) : Nat := field w.size 15 14 + 1
/-- Row binning. -/
def Win.by' (w : Win) : Nat := field w.size 31 30 + 1
/-- Column subsampling. -/
def Win.sx (w : Win) : Nat := 2 ^ field w.size 33 32
/-- Row subsampling. -/
def Win.sy (w : Win) : Nat := 2 ^ field w.size 35 34
/-- Output columns (R146). -/
def Win.cols (w : Win) : Nat := w.w / (w.bx * w.sx)
/-- Output rows (R146). -/
def Win.rows (w : Win) : Nat := w.h / (w.by' * w.sy)
/-- Samples in a full bin. -/
def Win.n (w : Win) : Nat := w.bx * w.by'

/-- The checks of R147. -/
def Win.valid (w : Win) : Bool :=
  w.x0 % 2 == 0 && w.w % 2 == 0 && w.w % (w.bx * w.sx) == 0 && decide (16 ≤ w.cols) &&
  w.h % (w.by' * w.sy) == 0 && w.h != 0 && decide (w.x0 + w.w ≤ 14336) && decide (w.y0 + w.h ≤ 10752)

/-- The first active row of an output row (R146). -/
def Win.rowOf (w : Win) (j : Nat) : Nat := w.y0 + j * w.by' * w.sy

/-- The first active column of an output column (R146). -/
def Win.colOf (w : Win) (i : Nat) : Nat := w.x0 + i * w.bx * w.sx

/-- The zone of an active pixel (R43). -/
def zoneAt (x y : Nat) : Nat := 8 * (y / 1344) + x / 1792

/-- The active rows a window needs, in ascending order. -/
def Win.needs (w : Win) : List Nat :=
  (List.range w.rows).flatMap (fun j => (List.range w.by').map (fun v => w.rowOf j + v))

/-- Remove repeats from an ascending list. -/
def dedup : List Nat → List Nat
  | [] => []
  | [x] => [x]
  | x :: y :: r => if x = y then dedup (y :: r) else x :: dedup (y :: r)

/-- The active rows needed by any window, ascending (R148, R152). -/
def neededRows (ws : List Win) : List Nat := dedup ((ws.flatMap Win.needs).mergeSort (· ≤ ·))

/-- Does a zone row hold a zone of the coverage? -/
def rowCovered (cover : Zones) (y : Nat) : Bool := (List.range 8).any (fun zx => cover.getLsbD (8 * (y / 1344) + zx))

/-- Samples per word in the packing of R160: three of 12 bits, or two of 18. -/
def perWord (res : Nat) (wide : Bool) : Nat := if res = 2 ∨ wide then 2 else 3

/-- Does a window use the 18-bit packing for its sums (R160)? -/
def Win.wide (w : Win) : Bool := w.sum && decide (1 < w.n)

/-- Words that hold `n` samples. -/
def wordsFor (n per : Nat) : Nat := (n + per - 1) / per

/-- Words of the dark-row block (R159). -/
def darkWords (res : Nat) : Nat := wordsFor (16 * 14336) (perWord res false)

/-- Words of a window's data. -/
def Win.words (w : Win) (res : Nat) : Nat := wordsFor (w.cols * w.rows) (perWord res w.wide)

/-- Offset of the row dark records (R159). -/
def recordsAt (res : Nat) (dark : Bool) : Nat := 64 + (if dark then darkWords res else 0)

/-- Offset of window k's data from the start of the area (R159, R161). -/
def windowAt (res : Nat) (dark : Bool) (nrec : Nat) : List Win → Nat → Option Nat
  | [], _ => none
  | w :: ws, k =>
    if w.k = k then some (recordsAt res dark + nrec)
    else (windowAt res dark nrec ws k).map (fun o => o + w.words res)

/-- Total words of a pour area (R159). -/
def areaWords (res : Nat) (dark : Bool) (nrec : Nat) (ws : List Win) : Nat :=
  recordsAt res dark + nrec + (ws.map (fun w => w.words res)).foldl (· + ·) 0

/-! ### Samples in memory -/

/-- Which requester writes for a physical row: the readout bank (R220). -/
def bankOfRow (p : Nat) : Nat := p % 4

/-- Put one sample into a part of an area, first sample in the most significant field (R160). -/
def Dev.putSample (s : Dev) (rq base per idx v : Nat) : Dev :=
  let a := base + idx / per
  let f := idx % per
  let w := 36 / per
  let hi := 35 - w * f
  s.memWrite rq a (setField (s.memWord a) hi (hi + 1 - w) v)

/-- The zero fields that pad the last word of a part of `n` samples (R159). -/
def padding (n per : Nat) : List Nat := List.replicate (wordsFor n per * per - n) 0

/-- Put a run of samples. -/
def Dev.putSamples (s : Dev) (rq base per idx : Nat) : List Nat → Dev
  | [] => s
  | v :: vs => (s.putSample rq base per idx v).putSamples rq base per (idx + 1) vs

/-! ### Binning -/

/-- A sample that may enter a bin: its code, or none when R151 or R153 leaves it out. -/
def Pour.sample (p : Pour) (binned : Bool) (x y : Nat) : Option Nat :=
  if !p.cover.getLsbD (zoneAt x y) then none
  else if binned && p.defects.contains ((y + 24) % 4, x / 2) then none
  else (p.done.find? (fun r => r.row == y + 24)).map (fun r => r.codes.getD x 0)

/-- The output code of a bin from its samples (R149 to R151, R153); `n` is the size of the full bin. -/
def binCode (res : Nat) (sum : Bool) (n : Nat) (vs : List Nat) : Nat :=
  let m := vs.length
  let S := vs.foldl (· + ·) 0
  if vs.any (fun v => decide (overCode res ≤ v)) then (if sum && decide (1 < n) then 0x3FFFF else overCode res)
  else if m = 0 then 0
  else if sum then (S * n + m / 2) / m
  else (S + m / 2) / m

/-- One output pixel of a window (R146, R153). -/
def Pour.outPixel (p : Pour) (w : Win) (i j : Nat) : Nat :=
  let x := w.colOf i
  let y := w.rowOf j
  if !p.cover.getLsbD (zoneAt x y) then 0
  else
    let vs := (List.range w.by').flatMap (fun v => (List.range w.bx).filterMap (fun u =>
      p.sample (decide (1 < w.n)) (x + u) (y + v)))
    binCode p.res w.sum w.n vs

/-- One output row of a window. -/
def Pour.outRow (p : Pour) (w : Win) (j : Nat) : List Nat := (List.range w.cols).map (fun i => p.outPixel w i j)

/-- Is an active row converted in the pour (R152)? -/
def Pour.converts (p : Pour) (y : Nat) : Bool := rowCovered p.cover y

/-- Has an active row been written by its bank? -/
def Pour.hasRow (p : Pour) (y : Nat) : Bool := p.done.any (fun r => r.row == y + 24)

/-- The output row of a window that the active row y completes: the row of its bin, once every converted row of the bin is there. -/
def Win.closes (w : Win) (p : Pour) (y : Nat) : Option Nat :=
  let span := w.by' * w.sy
  if y < w.y0 ∨ w.y0 + w.h ≤ y then none else
  let j := (y - w.y0) / span
  let v := (y - w.y0) % span
  if v < w.by' ∧ (List.range w.by').all (fun u => !p.converts (w.rowOf j + u) || p.hasRow (w.rowOf j + u)) then some j else none

/-- Write one output row of a window into the area. -/
def Dev.writeOutRow (s : Dev) (p : Pour) (rq : Nat) (w : Win) (j : Nat) : Dev :=
  match windowAt p.res p.dark p.needed.length p.wins w.k with
  | some o => s.putSamples rq (p.base + o) (perWord p.res w.wide) (j * w.cols)
      (p.outRow w j ++ if j + 1 = w.rows then padding (w.cols * w.rows) (perWord p.res w.wide) else [])
  | none => s

/-- One side of a row dark record (R162): the mean in 1/16 LSB of the usable samples of dark columns; how it is rounded is open. -/
def Dev.darkMean (s : Dev) (edgeBad : List (Nat × Nat)) (bank first : Nat) (cols : List Nat) (off : Nat) : Nat × Dev :=
  let use := (cols.zipIdx).filterMap (fun x => if edgeBad.contains (bank, first + (x.2 + off) / 2) then none else some x.1)
  let n := use.length
  if n = 0 then (0x3FFFF, s)
  else
    let S := 16 * use.foldl (· + ·) 0
    if S % n = 0 then (S / n, s)
    else
      let (f, s) := s.drawNat 2
      (S / n + f, s)

/-- A row dark record (R162): left columns 0 to 39, right columns 14,392 to 14,431, which are 8 to 47 of the right side; without the edge converters that
had failed when the pour started (R128). -/
def Dev.darkRecord (s : Dev) (edgeBad : List (Nat × Nat)) (r : RowBuf) : Word × Dev :=
  let b := bankOfRow r.row
  let (l, s) := s.darkMean edgeBad b 0 (r.left.take 40) 0
  let (q, s) := s.darkMean edgeBad b 24 ((r.right.drop 8).take 40) 8
  (place 35 18 l ||| place 17 0 q, s)

/-! ### Starting pours -/

/-- The snapshot of the windows of a mask (R142, R147): valid windows, and the mask of those dropped, each logged. -/
def Dev.snapWindows (s : Dev) (mask : Nat) : List Win × Dev :=
  let sel := ((List.range 16).filter (fun k => mask.testBit k)).map (fun k =>
    (⟨k, s.rd (R.RDO_WINk_POS k), s.rd (R.RDO_WINk_SIZE k)⟩ : Win))
  let bad := sel.filter (fun w => !w.valid)
  let s := bad.foldl (fun s w => s.log Ev.WIN_INVALID w.k 0) s
  (sel.filter Win.valid, s.onRdo (fun r => { r with winDropped := bad.foldl (fun m w => m + 2 ^ w.k) 0 }))

/-- The next present infusion of a record at or after i. -/
def FrameRecord.nextPresent (r : FrameRecord) (i : Nat) : Option Nat :=
  (List.range r.infs.length).find? (fun j => decide (i ≤ j) && ((r.infs[j]?).map (·.present)).getD false)

/-- An infusion of a record. -/
def FrameRecord.infAt (r : FrameRecord) (i : Nat) : InfRecord := (r.infs[i]?).getD ⟨0, 0, 0, false, false⟩

/-- The zones judged AGED at tick t (R41): of the zones to judge, those whose transfer ended longer ago than the limit; a limit of
zero takes every one. -/
def Dev.agedZones (s : Dev) (node t : Nat) (judge : Zones) : Zones :=
  let lim := (s.rd R.STP_AGE_LIMIT).toNat
  zUnion ((zoneList judge).filterMap (fun z =>
    let e := Cells.get (fun _ => 0) s.stp.ends (64 * node + z)
    if lim = 0 ∨ (e ≠ 0 ∧ lim + e < t + 1) then some (zone z) else none))

/-- The physical rows of a pour in order (R152, R155). -/
def pourRows (dark : Bool) (cover : Zones) (needed : List Nat) : List Nat :=
  (if dark then List.range 16 else []) ++ (needed.filter (rowCovered cover)).map (· + 24)

/-- Start a pour at the boundary tick t (R140, R142, R163, R41, R214, R215). -/
def Dev.beginPour (s : Dev) (t : Nat) (manual : Bool) (num : Word) (serial inf node : Nat) (cover judge : Zones) (wins : List Win) : Dev :=
  let res := s.fd R.CNV_CTRL 1 0
  let cg := b2n (s.bt R.CNV_CTRL (8 + node))
  let dark := s.bt R.RDO_CTRL 1 && cover.getLsbD s.stp.refZone
  let needed := neededRows wins
  let rows := pourRows dark cover needed
  let banks := (List.range 4).filter (fun b => rows.any (fun p => p % 4 == b))
  let s := (s.discard (banks.map (72 + ·))).cnvPourStart banks
  let aged := s.agedZones node t judge
  let agedFlag := decide (aged ≠ 0) || s.rd R.STP_AGE_LIMIT = 0
  let len := areaWords res dark needed.length wins
  let (place', s) := match s.placePour len (if manual then none else some num) serial with
    | some (b, s) => (some b, s)
    | none => (none, (s.bump R.MEM_POUR_DROPPED).log Ev.MEM_RING_FULL node
        (if manual then 0xFFFFFFFFF else num.toNat))
  let stamp := s.stampOf t
  let p : Pour := {
    manual := manual, num := num, inf := inf, node := node, cover := cover, res := res, cg := cg, dark := dark, wins := wins,
    start := t, stamp := stamp, base := place'.getD 0, len := len, dropped := place'.isNone, aged := aged, agedFlag := agedFlag,
    rowsLeft := rows, total := rows, needed := needed, defects := s.badConvs, edgeBad := s.cnv.edgeBad, served := s.served }
  let s := s.onRdo (fun r => { r with pour := some p, idleDone := 0, idleWant := none, lastInf := inf, lastNode := node })
  let s := (s.wf R.CNV_STATUS 1 0 res).wr72 R.RDO_LAST_START_LO stamp
  (s.stale R.RDO_LAST_INFO 35).post 6 stamp

/-- Mark an infusion AGED in its record, and in STP.FRM_STATUS while that shows the frame (R111). -/
def Dev.markAged (s : Dev) (sv : Serving) (i : Nat) : Serving × Dev :=
  let r := sv.rec'
  let sv' := { sv with rec' := { r with status := setField r.status (4 * i + 1) (4 * i + 1) 1,
                                        infs := modNth r.infs i (fun x => { x with aged := true }) } }
  (sv', if s.frm.lastSerial = some r.serial then s.wf R.STP_FRM_STATUS (4 * i + 1) (4 * i + 1) 1 else s)

/-- Does an entry steep into a node in a zone of a coverage (R141), or has it taken a fire to steep into one (DESIGN CHOICE, log entry 180: the steep would
otherwise run into a node being poured, which R61 and R154 exclude)? -/
def Dev.steepBlocks (s : Dev) (node : Nat) (cover : Zones) : Bool :=
  decide ((s.steepingInto node ||| s.firedInto node) &&& cover ≠ 0)

/-- Is a node held by a record in the queue or being poured (R144)? -/
def Dev.nodeHeldByRecord (s : Dev) (node : Nat) : Bool :=
  s.rdo.queue.any (fun q => match q with
    | .frame r => r.infs.any (fun x => x.present && x.node == node)
    | .manual _ _ => false) ||
  (match s.rdo.serving with
   | some sv => (sv.rec'.infs.zipIdx).any (fun x => x.1.present && x.1.node == node && decide (sv.nextInf ≤ x.2))
   | none => false)

/-- Take the record at the head of the queue into service. -/
def Dev.takeRecord (s : Dev) : Dev :=
  match s.rdo.serving, s.rdo.queue with
  | none, .frame r :: rest => s.onRdo (fun x => { x with queue := rest, serving := some ⟨r, 0, none, []⟩ })
  | _, _ => s

/-- A frame record has ended: the frame is ready for PIP (R164, R554). -/
def Dev.recordEnds (s : Dev) (sv : Serving) (wins : List Win) : Dev :=
  s.onRdo (fun r => { r with serving := none, ready := r.ready ++ [⟨sv.rec', wins, sv.pours⟩] })

/-- Start the next pour of the record in service. -/
def Dev.startRecordPour (s : Dev) (t : Nat) (sv : Serving) : Dev :=
  match sv.rec'.nextPresent sv.nextInf with
  | none => s
  | some i =>
    let x := sv.rec'.infAt i
    if s.steepBlocks x.node x.cover then s else
    let (wins, s) := match sv.wins with
      | some w => (w, s)
      | none => s.snapWindows (s.fd R.RDO_WIN_MASK 15 0)
    let s := s.beginPour t false sv.rec'.num sv.rec'.serial i x.node x.cover x.steeped wins
    let aged := (s.rdo.pour.map (·.agedFlag)).getD false
    let sv := { sv with nextInf := i + 1, wins := some wins }
    let (sv, s) := if aged then s.markAged sv i else (sv, s)
    s.onRdo (fun r => { r with serving := some sv })

/-- Judge and start a manual pour at the head of the queue (R144). -/
def Dev.startManual (s : Dev) (t node mask : Nat) (rest : List PourReq) : Dev :=
  let clear := fun (s : Dev) => s.onRdo (fun r => { r with queue := rest, lastTry := none })
  let refuse := fun (why : Nat) => ((clear s).wf R.RDO_MAN_POUR 34 33 1).log Ev.POUR_REFUSED node why
  if s.nodeHeldByRecord node then refuse 1
  else if s.holdOf node = 0 then refuse 2
  else if s.steepBlocks node (s.holdOf node) then s
  else
    let s := (clear s).wb R.RDO_MAN_POUR 34 false
    let cover := s.holdOf node
    let (wins, s) := s.snapWindows mask
    s.beginPour t true (BitVec.allOnes 36) 0 0 node cover cover wins

/-- The cut in force, in 1/256 (R469, R472, R473). -/
def Dev.ktlCut (s : Dev) : Nat :=
  max s.ktl.prop (if s.ktl.blind || s.ktl.enforced then min (s.fd R.KTL_THROTTLE 7 0) 240 else 0)

/-- The idle line periods that the kettle gives at a pour start (R472). -/
def Dev.ktlIdle (s : Dev) : Nat :=
  let P := s.periodReg
  let np := (s.fd R.RDO_LAST_INFO 31 0 + P - 1) / P
  let c := s.ktlCut
  (np * c + (256 - c) - 1) / (256 - c)

/-- The kettle's answer at a pour start (R472): asked once for each pour. -/
def Dev.askKettle (s : Dev) : Nat × Dev :=
  match s.rdo.idleWant with
  | some i => (i, s)
  | none =>
    let i := s.ktlIdle
    let s := (s.wr R.KTL_IDLE (BitVec.ofNat 36 i)).onRdo (fun r => { r with idleWant := some i })
    (i, if 0 < i then s.bump R.KTL_THROTTLE_COUNT else s)

/-- May a pour start at this boundary (R140, R145)? The idle line periods that the kettle asks for are counted here, one a boundary. -/
def Dev.pourGate (s : Dev) : Bool × Dev :=
  if s.seq.lpStart = some s.tick ∧ s.rdo.pour.isNone ∧ s.bt R.RDO_CTRL 0 ∧ s.rdo.lastTry ≠ some s.tick ∧
      (s.rdo.serving.isSome ∨ !s.rdo.queue.isEmpty) then
    let s := s.onRdo (fun r => { r with lastTry := some s.tick })
    let (i, s) := s.askKettle
    if s.rdo.idleDone < i then (false, s.onRdo (fun r => { r with idleDone := r.idleDone + 1 }))
    else (true, s)
  else (false, s)

/-- POUR_START on a line-period boundary (R140). -/
def Dev.pourStart (s : Dev) : Dev :=
  let empty := match s.rdo.serving, s.rdo.queue with
    | none, .frame r :: _ => (r.nextPresent 0).isNone
    | _, _ => false
  if empty then s else
  let (go, s) := s.pourGate
  if !go then s else
  let s := s.takeRecord
  match s.rdo.serving with
  | some sv => s.startRecordPour s.tick sv
  | none =>
    match s.rdo.queue with
    | .manual node mask :: rest => s.startManual s.tick node mask rest
    | _ => s

/-- A record with no present infusion is taken on the boundary where its pour would start (R554). -/
def Dev.emptyTake (s : Dev) : Dev :=
  match s.rdo.serving, s.rdo.queue with
  | none, .frame r :: _ =>
    if (r.nextPresent 0).isSome then s else
    let (go, s) := s.pourGate
    if !go then s else
    let s := s.takeRecord
    match s.rdo.serving with
    | some sv =>
      let (wins, s) := s.snapWindows (s.fd R.RDO_WIN_MASK 15 0)
      (s.recordEnds sv wins).onRdo (fun r => { r with lastTry := none })
    | none => s
  | _, _ => s

/-! ### Rows -/

/-- Replace the running pour. -/
def Dev.setPour (s : Dev) (p : Pour) : Dev := s.onRdo (fun r => { r with pour := some p })

/-- Is a bank free to start a row at tick t: no row in conversion (R123)? -/
def Pour.bankIdle (p : Pour) (b t : Nat) : Bool :=
  !p.converting.any (fun x => x.1 == b) && decide ((p.bankFree[b % 4]'(Nat.mod_lt _ (by decide))) ≤ t)

/-- Has a bank a free row buffer (R158)? -/
def Pour.hasBuffer (p : Pour) (b : Nat) : Bool := decide ((p.buffers.filter (fun x => x.1 == b)).length < 2)

/-- Start the next rows in order at a boundary, for as long as R155 lets them; the flag says that a start moved for want of a row
buffer (R158). -/
def startRows (t : Nat) : Nat → Pour → List Nat → Pour × Bool
  | 0, p, _ => (p, false)
  | fuel + 1, p, used =>
    match p.rowsLeft with
    | [] => (p, false)
    | r :: rest =>
      let b := bankOfRow r
      if used.contains b || !p.bankIdle b t then (p, false)
      else if !p.hasBuffer b then (p, true)
      else startRows t fuel { p with
        rowsLeft := rest, converting := p.converting ++ [(b, ⟨r, t, [], [], [], []⟩)], lastStart := some t,
        bankFree := p.bankFree.set (b % 4) (t + rowTime p.res) (Nat.mod_lt _ (by decide)) } (b :: used)

/-- Zones whose last row has passed step 3 by now lose their hold bits (R40, R123); `holdOf` shows them so at once. -/
def Dev.rowsEmptied (s : Dev) (p : Pour) : Dev := s.setHold p.node (s.heldBits p.node &&& ~~~ s.emptied p.node)

/-- The hold bits that a running pour has cleared by now are clear: a copy latched before the change finds its STALE bit set, one latched after it does not
(R10, R40). -/
def Dev.holdsNow (s : Dev) : Dev :=
  match s.rdo.pour with
  | some p => s.rowsEmptied p
  | none => s

/-- The content that step 3 of a row moves out, by zone column and then left and right, with what the node has gathered while it held it (R39): the transfer
gates of zones outside the coverage stay closed (R123). -/
def Dev.rowCharge (s : Dev) (p : Pour) (row : Nat) : List (List ChargeEvent) :=
  (rowSegments p.node row).map (fun k =>
    if 64 * p.node ≤ k ∧ k < 64 * p.node + 64 ∧ !p.cover.getLsbD (k - 64 * p.node) then [] else s.contentAt k ++ [.stored s.free])

/-- Step 3 of a row: what its converters will see is taken, and the row is empty in the zones of the coverage and in the dark and buffer columns (R123). -/
def Dev.transferRow (s : Dev) (p : Pour) (row : Nat) : List (List ChargeEvent) × Dev :=
  let open' := (dedup (rowSegments p.node row)).filter (fun k =>
    !decide (64 * p.node ≤ k ∧ k < 64 * p.node + 64) || p.cover.getLsbD (k - 64 * p.node))
  (s.rowCharge p row, { s with free := s.free + 1 }.onContent open' (fun l => if l.isEmpty then l else l ++ [ChargeEvent.row row]))

/-- Take the charge of the rows that a boundary started. -/
def Dev.transferRows (s : Dev) (p : Pour) : Dev :=
  let (l, s) := p.converting.foldl (fun (acc : List (Nat × RowBuf) × Dev) x =>
    if x.2.started = s.tick then
      let (c, d) := acc.2.transferRow p x.2.row
      (acc.1 ++ [(x.1, { x.2 with charge := c })], d)
    else (acc.1 ++ [x], acc.2)) ([], s)
  s.setPour { p with converting := l }

/-- ROW_START on a line-period boundary (R155, R156, R158). A row start that moves over several boundaries counts once (DEDUCED,
log entry 170). -/
def Dev.rowStart (s : Dev) : Dev :=
  match s.rdo.pour with
  | none => s
  | some p =>
    let s := s.rowsEmptied p
    if s.seq.lpStart = some s.tick ∧ p.start + 2000 ≤ s.tick ∧ p.lastTry ≠ some s.tick then
      let (q, moved) := startRows s.tick 5 { p with lastTry := some s.tick } []
      let s := s.transferRows { q with backlog := q.backlog || moved, movedRow := if moved then q.rowsLeft.head? else q.movedRow }
      if moved then
        let s := if q.movedRow = q.rowsLeft.head? then s else s.bump R.RDO_BACKLOG_COUNT
        if p.backlog then s
        else s.log Ev.RDO_BACKLOG p.node (if p.manual then 0xFFFFFFFFF else p.num.toNat)
      else s
    else s

/-- The codes of active columns from x on: physical column 48 + x, of working converter x / 2 or the spare in service for it (R114, R132). -/
def Pour.activeCodes (p : Pour) (b : Nat) (r : RowBuf) (dev : List Int) : List Nat :=
  (dev.zipIdx).map (fun y =>
    let c := y.2 / 2
    let unit := match p.served.find? (fun v => v.1 == b && v.2.1 == c) with
      | some v => 7168 + v.2.2
      | none => c
    columnCode p.start p.res b unit (inputOf p.res p.cg (nodeCharge (r.charge.getD (y.2 / 1792) []) r.row (48 + y.2)) y.1))

/-- The codes of the dark and buffer columns of a side, `col0` the first physical column, `e0` its edge converter, `seg` its place in the row's content
(R45, R115). -/
def Pour.edgeCodes (p : Pour) (b : Nat) (r : RowBuf) (col0 e0 seg : Nat) (dev : List Int) : List Nat :=
  (dev.zipIdx).map (fun y =>
    columnCode p.start p.res b (7280 + e0 + y.2 / 2) (inputOf p.res p.cg (nodeCharge (r.charge.getD seg []) r.row (col0 + y.2)) y.1))

/-- A spare being matched converts the two columns of its converter along in a row; dark rows count for its offset (R130, R131). -/
def Dev.spareSamples (s : Dev) (p : Pour) (b : Nat) (r : RowBuf) (devs : List (Nat × Int × Int)) : Dev :=
  if 16 ≤ r.row then s else
  s.onCnv (fun v => { v with matching := v.matching.map (fun m =>
    if m.bank = b ∧ m.gathers then
      let x := 2 * s.spareConv b m.spare
      let dev := ((devs.find? (fun d => d.1 == m.spare)).map (·.2)).getD (0, 0)
      let code := fun (x : Nat) (d : Int) => darkScaled p.res (columnCode p.start p.res b (7168 + m.spare)
        (inputOf p.res p.cg (nodeCharge (r.charge.getD (x / 1792) []) r.row (48 + x)) d))
      m.sample (code x dev.1) (code (x + 1) dev.2)
    else m) })

/-- ROW_HANDOVER (R123, R158): a bank ends converting a row and hands its samples to a free row buffer. The over-range codes of its active columns are counted (R122),
those of a spare in service for a converter with them (DESIGN CHOICE, log entry 218). -/
def Dev.rowHandover (s : Dev) (b : Nat) (x : RowInput) : Dev :=
  match s.rdo.pour with
  | none => s
  | some p =>
    match p.converting.find? (fun c => c.1 == b) with
    | none => s
    | some (_, r) =>
      if !p.hasBuffer b then s else
      let s := s.to (r.started + rowTime p.res - 40)
      let codes := p.activeCodes b r x.active
      let left := p.edgeCodes b r 0 0 8 x.left
      let right := p.edgeCodes b r 14384 24 9 x.right
      let overs := (codes.filter (fun c => c == overCode p.res)).length
      let s := s.wr (R.CNV_OVR_COUNTb b) (satAdd (s.rd (R.CNV_OVR_COUNTb b)) overs)
      let s := (s.rowsEmptied p).spareSamples p b r x.spares
      s.setPour { p with converting := p.converting.filter (fun c => c.1 != b),
                         buffers := p.buffers ++ [(b, { r with codes := codes, left := left, right := right })] }

/-- Write what a row completes into the pour area (R159). -/
def Dev.writeRow (s : Dev) (p : Pour) (r : RowBuf) : Dev :=
  let rq := bankOfRow r.row
  if r.row < 16 then s.putSamples rq (p.base + 64) (perWord p.res false) (r.row * 14336)
    (r.codes ++ if r.row = 15 then padding (16 * 14336) (perWord p.res false) else [])
  else
    let y := r.row - 24
    let (w, s) := s.darkRecord p.edgeBad r
    let s := s.memWrite rq (p.base + recordsAt p.res p.dark + p.needed.idxOf y) w
    p.wins.foldl (fun s w => match w.closes p y with
      | some j => s.writeOutRow p rq w j
      | none => s) s

/-- ROW_WRITE_DONE (R156, R158): the oldest buffered row of a bank is written and its buffer is free. -/
def Dev.rowWritten (s : Dev) (b : Nat) : Dev :=
  match s.rdo.pour with
  | none => s
  | some p =>
    match p.buffers.find? (fun c => c.1 == b) with
    | none => s
    | some (b', r) =>
      let p' := { p with buffers := p.buffers.erase (b', r), done := p.done ++ [r] }
      let s := if p.dropped then s else s.writeRow p' r
      s.setPour p'

/-! ### Ending pours -/

/-- POUR_NODE_CLEAR (R154): after the last converted row passes step 3, or 2,000 ticks after the start of a pour with no rows. -/
def Dev.pourClear (s : Dev) : Dev :=
  match s.rdo.pour with
  | none => s
  | some p =>
    if p.cleared || !p.rowsLeft.isEmpty then s else
    let s := s.to (match p.lastStart with
      | some t => t + 200
      | none => p.start + 2000)
    let s := s.rowsEmptied p
    let m := s.holdOf p.node &&& p.cover
    let s := s.setPour { p with cleared := true }
    if m = 0 then s else s.onStp (fun t => { t with clears := t.clears ++ [⟨p.node, m, false⟩] })

/-- The rows of the busiest bank (R125). -/
def busiest (rows : List Nat) : Nat :=
  ((List.range 4).map (fun b => (rows.filter (fun p => p % 4 == b)).length)).foldl max 0

/-- The descriptor of a pour area (R161). -/
def Pour.descriptor (p : Pour) : List Word :=
  let valid := p.wins.foldl (fun m w => m + 2 ^ w.k) 0
  let win := fun (k : Nat) => p.wins.find? (fun w => w.k == k)
  [p.num,
   place 35 35 (b2n p.manual) ||| place 34 34 (b2n p.dark) ||| place 33 33 (b2n p.agedFlag) ||| place 32 32 (b2n p.backlog) |||
     place 31 30 p.inf ||| place 29 28 p.node ||| place 27 26 p.res ||| place 25 25 p.cg ||| place 15 0 valid,
   loWord p.stamp, hiWord p.stamp, zLo p.cover, zHi p.cover, zLo p.aged, zHi p.aged,
   BitVec.ofNat 36 p.needed.length, BitVec.ofNat 36 p.len, 0, 0, 0, 0, 0, 0] ++
  (List.range 16).flatMap (fun k => match win k with
    | some w => [w.pos, w.size]
    | none => [0, 0]) ++
  (List.range 16).map (fun k => BitVec.ofNat 36 ((windowAt p.res p.dark p.needed.length p.wins k).getD 0))

/-- The parts that no converted row writes: zero output rows, and the records of rows that are not converted (R153, R162). -/
def Dev.writeRest (s : Dev) (p : Pour) : Dev :=
  let s := p.needed.foldl (fun s y => if p.converts y then s
    else s.memWrite (bankOfRow (y + 24)) (p.base + recordsAt p.res p.dark + p.needed.idxOf y) (BitVec.allOnes 36)) s
  let s := p.wins.foldl (fun s w => (List.range w.rows).foldl (fun s j =>
    if (List.range w.by').any (fun v => p.converts (w.rowOf j + v)) then s
    else s.writeOutRow p (bankOfRow (w.rowOf j + 24)) w j) s) s
  (List.range (toBeat p.len - p.len)).foldl (fun s i => s.memWrite 0 (p.base + p.len + i) 0) s

/-- What PIP and CAL need to know of the pour. -/
def Pour.facts (p : Pour) : PourFacts :=
  ⟨p.base, p.len, p.dropped, p.inf, p.res, p.cg, p.cover, p.dark, p.wins, p.needed, p.defects, p.served⟩

/-- POUR_END (R157). -/
def Dev.pourEnd (s : Dev) : Dev :=
  match s.rdo.pour with
  | none => s
  | some p =>
    if p.rowsLeft.isEmpty && p.converting.isEmpty && p.buffers.isEmpty && p.cleared &&
        !s.stp.clears.any (fun c => !c.byReg) then
      let s := s.to (p.start + busiest p.total * rowTime p.res + 8000)
      let s := if p.dropped then s else (s.writeRest p).memWriteRun 0 p.base p.descriptor
      let s := s.wf R.RDO_LAST_INFO 31 0 (s.tick - p.start)
      let s := { s with cal := { s.cal with idleFrom := s.tick } }
      let s := ((s.bump R.RDO_POUR_COUNT).onRdo (fun r => { r with pour := none })).post 7 s.tb
      if p.manual then s else
      match s.rdo.serving with
      | none => s
      | some sv =>
        let sv := { sv with pours := sv.pours ++ [p.facts] }
        if (sv.rec'.nextPresent sv.nextInf).isNone then s.recordEnds sv p.wins
        else s.onRdo (fun r => { r with serving := some sv })
    else s

/-! ### Manual requests -/

/-- RDO.MAN_POUR.GO (R144); ignored while PENDING is one. -/
def Dev.manPour (s : Dev) : Dev :=
  if s.bt R.RDO_MAN_POUR 34 then s
  else (s.wb R.RDO_MAN_POUR 34 true).onRdo (fun r => { r with
    queue := r.queue ++ [.manual (s.fd R.RDO_MAN_POUR 25 24) (s.fd R.RDO_MAN_POUR 15 0)] })

/-- Does the record in service have a pour that has not started? -/
def Dev.servingWaits (s : Dev) : Bool :=
  match s.rdo.serving with
  | some sv => (sv.rec'.nextPresent sv.nextInf).isSome
  | none => false

/-- RDO.STATUS; a record waits while one of its pours has not started (DEDUCED, log entry 168). -/
def Dev.rdoStatus (s : Dev) : Word :=
  place 35 35 (b2n s.rdo.pour.isSome) |||
  place 34 32 (s.rdo.queue.length + b2n s.servingWaits) |||
  place 31 30 s.rdo.lastInf ||| place 29 28 s.rdo.lastNode ||| place 15 0 s.rdo.winDropped

/-- CNV.STATUS.BUSY: banks that convert a row, for its whole row time (R123). -/
def Dev.cnvBusy (s : Dev) : Nat :=
  match s.rdo.pour with
  | some p => (List.finRange 4).foldl (fun m b =>
      if p.converting.any (fun x => x.1 == b.val) || decide (s.tick < p.bankFree[b]) then m + 2 ^ b.val else m) 0
  | none => 0

end Sys2Proof.Machine
end

