-- ==== Sys2Proof/Machine/PipMath.lean ====
section
/-! DEFINITION. The arithmetic of PIP, stages 1 to 7 and the preview (R167 to R195), as functions of numbers and lists
(spec/06_pixel_pipeline_and_blend.md). -/

namespace Sys2Proof.Machine

/-- A pixel between stages (R167): its value in 1/16 LSB of the pour's resolution and its flags; `bad` marks it defective (R174). -/
structure Px where
  v : Int := 0
  sat : Bool := false
  repl : Bool := false
  absent : Bool := false
  bad : Bool := false
  deriving DecidableEq, Repr

/-- Rounded shift (R169). -/
def rnd (a : Int) (s : Nat) : Int := if s = 0 then a else (a + 2 ^ (s - 1)) / (2 ^ s : Nat)

/-! ### Stage 1 -/

/-- The usable side means of a row dark record (R162, R171); an uncorrectable one has none (R205). -/
def usableMeans (r : Word × Bool) : List Nat :=
  if r.2 then [] else [field r.1 35 18, field r.1 17 0].filter (fun m => m != 0x3FFFF)

/-- The clamp of an active row (R171) from the records of the pour (row, usable means, ascending): the clamp when some mean is usable. -/
def clampFrom (recs : List (Nat × List Nat)) (y : Nat) : Option Nat :=
  let mine := (recs.filter (fun r => decide (r.1 ≤ y) && r.1 % 4 == y % 4)).reverse.take 8
  let ms := mine.flatMap (·.2)
  if ms.isEmpty then none else some ((ms.foldl (· + ·) 0 + ms.length / 2) / ms.length)

/-- What stage 1 has found so far: the clamps per row, the latest clamp per bank, and the banks that used a fallback. -/
structure Clamps where
  rows : List (Nat × Nat) := []
  last : Vector (Option Nat) 4
  fell : Nat := 0
  deriving DecidableEq, Repr

/-- A bank number as an index. -/
def bankIdx (b : Nat) : Fin 4 := ⟨b % 4, Nat.mod_lt _ (by decide)⟩

/-- The clamp of one more row (R171); only a converted row counts as having used a fallback. -/
def Clamps.row (c : Clamps) (en : Bool) (res : Nat) (converted : Bool) (recs : List (Nat × List Nat)) (y : Nat) : Clamps :=
  let ped := 16 * pedestal res
  let b := y % 4
  if !en then { c with rows := (y, ped) :: c.rows, fell := 15 }
  else match clampFrom recs y with
    | some v => { c with rows := (y, v) :: c.rows, last := c.last.set b (some v) (Nat.mod_lt _ (by decide)) }
    | none => { c with
        rows := (y, (c.last[bankIdx b]).getD ped) :: c.rows,
        fell := if converted then c.fell ||| 2 ^ b else c.fell }

/-- The clamps of every needed row of a pour, in ascending order. -/
def Clamps.pour (c : Clamps) (en : Bool) (f : PourFacts) (recs : List (Nat × List Nat)) : Clamps :=
  f.rows.foldl (fun (c : Clamps) (y : Nat) => c.row en f.res (rowCovered f.cover y) recs y) { c with rows := [] }

/-- The clamp of a row. -/
def Clamps.at (c : Clamps) (y : Nat) : Nat := ((c.rows.find? (fun r => r.1 == y)).map (·.2)).getD 0

/-- B_bin of R172. -/
def binClamp (w : Win) (b : Nat → Nat) (y : Nat) : Nat :=
  let S := (List.range w.by').foldl (fun a v => a + b (y + v)) 0
  if w.sum then w.bx * S else (S + w.by' / 2) / w.by'

/-! ### Stage 2 -/

/-- A column offset scaled to a resolution (R173). -/
def scaledOffset (res : Nat) (o : Int) : Int := if res = 0 then rnd o 2 else if res = 2 then 4 * o else o

/-- The samples that entered a bin (R151, R153): active column and row. -/
def binSamples (f : PourFacts) (w : Win) (x y : Nat) : List (Nat × Nat) :=
  (List.range w.by').flatMap (fun v => (List.range w.bx).filterMap (fun u =>
    if f.cover.getLsbD (zoneAt (x + u) (y + v)) &&
        !(decide (1 < w.n) && f.defects.contains ((y + v + 24) % 4, (x + u) / 2)) then some (x + u, y + v) else none))

/-- O_bin of R173 over the samples that entered; `ofs` is the column-offset table by bank and column. -/
def binOffset (f : PourFacts) (w : Win) (ofs : Nat → Nat → Int) (l : List (Nat × Nat)) : Int :=
  let m := l.length
  let S := l.foldl (fun (a : Int) p => a + scaledOffset f.res (ofs (p.2 % 4) p.1)) 0
  if m = 0 then 0
  else if w.sum then (S * (w.n : Int) + ((m / 2 : Nat) : Int)) / (m : Int)
  else (S + ((m / 2 : Nat) : Int)) / (m : Int)

/-! ### Stage 3 -/

/-- Does an entry of the defect map hold an active pixel (R177)? -/
def mapEntryHas (e : Word) (x y : Nat) : Bool :=
  let X := field e 13 0
  let Y := field e 27 14
  let L := field e 33 28
  match field e 35 34 with
  | 0 => x == X && y == Y
  | 1 => x == X && decide (Y ≤ y) && decide (y ≤ Y + L)
  | 2 => y == Y && decide (X ≤ x) && decide (x ≤ X + L)
  | _ => false

/-- Is an output pixel defective (R174, R130)? -/
def isDefective (dmap : List Word) (f : PourFacts) (w : Win) (x y : Nat) (entered : List (Nat × Nat)) : Bool :=
  entered.isEmpty ||
  (w.n == 1 && f.defects.contains ((y + 24) % 4, x / 2)) ||
  (List.range w.by').any (fun v => (List.range w.bx).any (fun u => dmap.any (fun e => mapEntryHas e (x + u) (y + v))))

/-- The nearest good pixel among candidates, nearest first (R175). -/
def nearestGood (l : List Px) : Option Px := l.find? (fun p => !p.bad && !p.absent)

/-- The value formed from two neighbours, and its SAT flag (R175). -/
def fromPair (a b : Option Px) : Option (Int × Bool) :=
  match a, b with
  | some p, some q => some (rnd (p.v + q.v) 1, p.sat || q.sat)
  | some p, none => some (p.v, p.sat)
  | none, some q => some (q.v, q.sat)
  | none, none => none

/-- The pixels at offsets 1 to n before index i, nearest first. -/
def before (l : List Px) (i n : Nat) : List Px := ((l.take i).reverse).take n

/-- The pixels at offsets 1 to n after index i. -/
def after (l : List Px) (i n : Nat) : List Px := (l.drop (i + 1)).take n

/-- The replacement of the defective pixel at row j, column i of a window (R175); the flag says that no neighbour was found. -/
def replaceAt (ext : Bool) (rows : List (List Px)) (j i : Nat) (p : Px) : Px × Bool :=
  let row := rows.getD j []
  let col := rows.map (fun r => r.getD i { absent := true })
  let h := fromPair (nearestGood (before row i 4)) (nearestGood (after row i 4))
  let v := if ext then fromPair (nearestGood (before col j 2)) (nearestGood (after col j 2)) else none
  match h.orElse (fun _ => v) with
  | some (x, s) => ({ p with v := if p.sat then 0 else x, sat := p.sat || s, repl := true }, false)
  | none => ({ p with v := 0, repl := true }, true)

/-- Stage 3 over a window: the pixels, the pixels replaced, and the replacements without a neighbour. -/
def stage3 (ext : Bool) (rows : List (List Px)) : List (List Px) × Nat × Nat :=
  let out := rows.zipIdx.map (fun r => r.1.zipIdx.map (fun p =>
    if p.1.bad && !p.1.absent then
      let x := replaceAt ext rows r.2 p.2 p.1
      (x.1, 1, b2n x.2)
    else (p.1, 0, 0)))
  (out.map (fun r => r.map (·.1)),
   out.foldl (fun a r => a + r.foldl (fun b p => b + p.2.1) 0) 0,
   out.foldl (fun a r => a + r.foldl (fun b p => b + p.2.2) 0) 0)

/-! ### Stages 1 to 4 over a window -/

/-- What stages 1 to 4 take at the frame start (R165): the enables, the extended context, the map, the offsets and the gains. -/
structure StageSet where
  clamp : Bool
  colofs : Bool
  defect : Bool
  zgain : Bool
  ext : Bool
  dmap : List Word
  ofs : Nat → Nat → Int
  gain : Nat → Nat

/-- One output pixel after stages 1 and 2; `c` is the code RDO wrote, none when it is over range. -/
def stage12 (t : StageSet) (f : PourFacts) (w : Win) (b : Nat → Nat) (expo : Nat → Nat) (j i : Nat) (c : Option Nat) : Px :=
  let x := w.colOf i
  let y := w.rowOf j
  let z := zoneAt x y
  if !f.cover.getLsbD z || expo z = 0 then { absent := true }
  else
    let entered := binSamples f w x y
    let bad := t.defect && isDefective t.dmap f w x y entered
    match c with
    | none => { sat := true, bad := bad }
    | some c =>
      let v1 : Int := (16 * c : Nat) - (binClamp w b y : Nat)
      { v := if t.colofs then v1 - binOffset f w t.ofs entered else v1, bad := bad }

/-- Stage 4 (R179). -/
def stage4 (t : StageSet) (w : Win) (j : Nat) (row : List Px) : List Px :=
  if t.zgain then row.zipIdx.map (fun p =>
    { p.1 with v := rnd (p.1.v * (t.gain (zoneAt (w.colOf p.2) (w.rowOf j)) : Int)) 10 })
  else row

/-- The field of a sample in its word (R160), first sample in the most significant field. -/
def sampleOf (words : List (Word × Bool)) (per idx : Nat) : Nat × Bool :=
  let e := words.getD (idx / per) (0, false)
  let w := 36 / per
  let hi := 35 - w * (idx % per)
  (field e.1 hi (hi + 1 - w), e.2)

/-- The codes of an output row: none for an over-range result and for a sample of an uncorrectable codeword (R167, R205). -/
def codesOf (f : PourFacts) (w : Win) (words : List (Word × Bool)) (j : Nat) : List (Option Nat) :=
  (List.range w.cols).map (fun i =>
    let s := sampleOf words (perWord f.res w.wide) (j * w.cols + i)
    if s.2 || s.1 == (if w.wide then 0x3FFFF else overCode f.res) then none else some s.1)

/-- The pixels of a window of one infusion after stage 4, with the counts of stage 3. -/
def windowPixels (t : StageSet) (f : PourFacts) (w : Win) (b : Nat → Nat) (expo : Nat → Nat) (words : List (Word × Bool)) :
    List (List Px) × Nat × Nat :=
  let s2 := (List.range w.rows).map (fun j => (codesOf f w words j).zipIdx.map (fun c => stage12 t f w b expo j c.2 c.1))
  let (s3, n, u) := if t.defect then stage3 t.ext s2 else (s2, 0, 0)
  (s3.zipIdx.map (fun r => stage4 t w r.2 r.1), n, u)

/-! ### Stage 5 -/

/-- What stage 5 takes at the frame start: HI, BAND, TREF, and the offset of R185. -/
structure BlendSet where
  hi : Nat
  band : Nat
  tref : Nat
  offset : Nat
  deriving DecidableEq, Repr

/-- The largest b of at most the field's value with 2^b ≤ HI; zero when there is none (PIP.BLEND.BAND). -/
def bandOf (hi : Nat) : Nat → Nat
  | 0 => 0
  | b + 1 => if 2 ^ (b + 1) ≤ hi then b + 1 else bandOf hi b

/-- The exponent e of R181. -/
def blendExp (res cg : Nat) : Nat := (if res = 0 then 6 else if res = 2 then 2 else 4) - (if cg = 1 then 2 else 0)

/-- The level t of R181; `n` divides the value first in sum mode. -/
def blendLevel (res : Nat) (n : Nat) (v : Int) : Int :=
  let u := v / (n : Int)
  if res = 0 then u * 4 else if res = 2 then u / 4 else u

/-- One infusion at a pixel: its index, exposure, resolution, gain and pixel. -/
structure Cand where
  inf : Nat
  t : Nat
  res : Nat
  cg : Nat
  px : Px
  deriving DecidableEq, Repr

/-- The multiplier M of R182. -/
def blendMul (tref t : Nat) : Nat := min ((2 ^ 16 * tref + t / 2) / t) (2 ^ 36 - 1)

/-- The scaled value y of R182. -/
def blendValue (tref : Nat) (c : Cand) : Int :=
  rnd (c.px.v * (2 ^ blendExp c.res c.cg : Nat) * (blendMul tref c.t : Int)) 16

/-- Insert a candidate, longest exposure first, the lower index first among equals (R183). -/
def insertCand (c : Cand) : List Cand → List Cand
  | [] => [c]
  | d :: rest => if d.t < c.t then c :: d :: rest else d :: insertCand c rest

/-- The result of stage 5: L, the source infusion, SAT_ALL and REPLACED (R185). -/
structure Blended where
  l : Nat := 0
  src : Nat := 0
  satAll : Bool := false
  repl : Bool := false
  deriving DecidableEq, Repr

/-- The limited linear value (R185). -/
def linearValue (y : Int) (offset : Nat) : Nat := (min (max (rnd y 6 + (offset : Int)) 0) 16777214).toNat

/-- Where the chosen candidate stands: the first with t at most HI, else the last (R183). -/
def chooseCand (hi : Nat) (n : Nat) : List Cand → Option (Cand × Option Cand)
  | [] => none
  | [c] => some (c, none)
  | c :: d :: rest =>
    if blendLevel c.res n c.px.v ≤ (hi : Int) then some (c, some d) else chooseCand hi n (d :: rest)

/-- Stage 5 at one pixel (R181 to R185); `n` is the bin size in sum mode, else one. `all` holds the present infusions in index order. Of equally
short infusions that a SAT_ALL result could name, the one it names is free. -/
def blend (set : BlendSet) (n : Nat) (all : List Cand) : Blended :=
  let seen := all.filter (fun c => !c.px.absent && c.t != 0)
  let order := (seen.filter (fun c => !c.px.sat)).foldl (fun l c => insertCand c l) []
  let tref := if set.tref = 0 then seen.foldl (fun m c => max m c.t) 0 else set.tref
  let b := bandOf set.hi set.band
  match chooseCand set.hi n order with
  | none =>
    match seen with
    | [] => {}
    | c :: rest =>
      let t := rest.foldl (fun m d => min m d.t) c.t
      let short := (seen.filter (fun d => d.t == t)).map (·.inf)
      { l := 16777215, src := short.getD (Config.shortestSource short % short.length) 0, satAll := true, repl := false }
  | some (j, k?) =>
    let t := blendLevel j.res n j.px.v
    let lo : Int := (set.hi : Int) - (2 ^ b : Nat)
    match k? with
    | some k =>
      if 1 ≤ b ∧ lo < t then
        let y := (blendValue tref j * ((set.hi : Int) - t) + blendValue tref k * (t - lo) + (2 ^ (b - 1) : Nat)) / (2 ^ b : Nat)
        { l := linearValue y set.offset, src := if t - lo < (2 ^ (b - 1) : Nat) then j.inf else k.inf,
          repl := j.px.repl || k.px.repl }
      else { l := linearValue (blendValue tref j) set.offset, src := j.inf, repl := j.px.repl }
    | none => { l := linearValue (blendValue tref j) set.offset, src := j.inf, repl := j.px.repl }

/-! ### Stage 6 -/

/-- The highest segment that starts at or below L, with its code base (R187). -/
def segmentOf (l : Nat) : Nat → List (Nat × Nat) → Nat × Nat × Nat
  | base, [] => (base, 0, 0)
  | base, [(st, sh)] => (base, st, sh)
  | base, (st, sh) :: (st', sh') :: rest =>
    if st' ≤ l then segmentOf l (base + (st' - st) / 2 ^ sh) ((st', sh') :: rest) else (base, st, sh)

/-- The companded code of L (R187). -/
def compand (knees : List (Nat × Nat)) (l : Nat) : Nat :=
  let (base, st, sh) := segmentOf l 0 knees
  base + (l - st) / 2 ^ sh

/-- The first segment whose width fails (R188, R550); `s` is its index; the last segment runs to 16,777,215. -/
def kneeWidths : Nat → List (Nat × Nat) → Option Nat
  | _, [] => none
  | s, [(st, sh)] => if st < 16777216 ∧ (16777216 - st) % 2 ^ sh = 0 then none else some s
  | s, (st, sh) :: (st', sh') :: rest =>
    if st < st' ∧ (st' - st) % 2 ^ sh = 0 then kneeWidths (s + 1) ((st', sh') :: rest) else some s

/-- The check of the knee table (R188): none when it passes, else the number EV_PIP_KNEE_INVALID reports (R550). -/
def kneeFault (knees : List (Nat × Nat)) : Option Nat :=
  if (knees.headD (0, 0)).1 ≠ 0 then some 0
  else match kneeWidths 0 knees with
    | some s => some s
    | none => if 262143 < compand knees 16777215 then some 8 else none

/-! ### Stage 7 -/

/-- The value of R190 in a field of P bits. -/
def outField (P res ped : Nat) (p : Px) : Nat :=
  let R := 10 + 2 * res
  if p.absent then 0
  else if p.sat then 2 ^ P - 1
  else
    let v := max (rnd p.v (4 + R - P) + ((ped * 2 ^ P / 4096 : Nat) : Int)) 0
    if ((2 ^ P - 2 : Nat) : Int) < v then 2 ^ P - 1 else v.toNat

/-- The width of a pixel field (R189). -/
def fieldWidth (fmt : Nat) : Nat := if fmt = 0 then 12 else if fmt = 1 then 9 else if fmt = 4 then 36 else 18

/-- Pixels per word (R189). -/
def pixelsPerWord (fmt : Nat) : Nat := 36 / fieldWidth fmt

/-- Pack one word, first pixel in the most significant field. -/
def packWord (width : Nat) (l : List Nat) : Word :=
  BitVec.ofNat 36 (l.zipIdx.foldl (fun a p => a + p.1 * 2 ^ (36 - width * (p.2 + 1))) 0)

/-- Pack a line (R189, R192). -/
def packLine (fmt : Nat) (fields : List Nat) : List Word :=
  (chunks (pixelsPerWord fmt) fields.length fields).map (packWord (fieldWidth fmt))

/-- What stages 5 to 7 take: format, the infusion selected, whether stage 5 blends, the blend's settings, the pedestal, the knees. -/
structure OutSet where
  fmt : Nat
  sel : Nat
  blends : Bool
  set : BlendSet
  ped : Nat
  knees : List (Nat × Nat)
  deriving DecidableEq, Repr

/-- The pixel, resolution and node of an infusion among those at a pixel. -/
def candOf (all : List Cand) (i : Nat) : Option Cand := all.find? (fun c => c.inf == i)

/-- One output pixel (R189 to R191): its field, whether it counts as saturated, and its linear value. `node` gives the node of an
infusion. -/
def outPixelOf (o : OutSet) (n : Nat) (node : Nat → Nat) (all : List Cand) : Nat × Bool × Nat :=
  let plain := fun (P i : Nat) => match candOf all i with
    | some c => outField P c.res o.ped c.px
    | none => 0
  if o.fmt = 0 ∨ o.fmt = 1 then
    let P := fieldWidth o.fmt
    let f := plain P o.sel
    (f, f == 2 ^ P - 1, 0)
  else
    let b := blend o.set n (if o.blends then all else all.filter (fun c => c.inf == o.sel))
    if o.fmt = 2 then
      let src := if o.blends then b.src else o.sel
      let f := plain 14 src
      match candOf all src with
      | some c => if c.px.absent then (0, false, b.l) else
          (f * 16 + b2n c.px.sat * 8 + b2n b.repl * 4 + node src, f == 2 ^ 14 - 1, b.l)
      | none => (0, false, b.l)
    else if o.fmt = 3 then (compand o.knees b.l, b.satAll, b.l)
    else (b.l * 4096 + b.src * 1024 + b2n b.satAll * 512 + b2n b.repl * 256, b.satAll, b.l)

/-- The words of an output line after its line word. -/
def lineWords (fmt : Nat) (w : Win) : Nat := wordsFor w.cols (pixelsPerWord fmt)

/-- The total words of an output area (R193). -/
def outAreaWords (fmt : Nat) (wins : List Win) : Nat :=
  32 + wins.foldl (fun a w => a + w.rows * (1 + lineWords fmt w)) 0

/-- The line word (R192). -/
def OutLine.word (l : OutLine) : Word := place 35 32 l.win ||| place 31 18 l.row ||| place 17 0 l.sat

/-! ### Preview -/

/-- The integer square root by bits: the largest r below 2^n with r² ≤ x. -/
def sqrtBits (x : Nat) : Nat → Nat → Nat
  | 0, r => r
  | n + 1, r => sqrtBits x n (if (r + 2 ^ n) * (r + 2 ^ n) ≤ x then r + 2 ^ n else r)

/-- The 8-bit preview value of a mean (R195). -/
def previewValue (curve : Bool) (m : Nat) : Nat := if curve then min 255 (sqrtBits (16 * m) 9 0) else m / 16

/-- One preview pixel (R194, R195) from the source values of the window's output rows. -/
def previewPixel (bx by' : Nat) (curve : Bool) (src : List (List Nat)) (i j : Nat) : Nat :=
  let vals := ((src.drop (by' * j)).take by').flatMap (fun r => (r.drop (bx * i)).take bx)
  let m := vals.length
  if m = 0 then 0 else previewValue curve ((vals.foldl (· + ·) 0 + m / 2) / m)

/-- The words of the preview image: p in bits 8:1 of each F9 field (R195). -/
def previewWords (bx by' : Nat) (curve : Bool) (src : List (List Nat)) : List Word :=
  (List.range 1344).flatMap (fun j => packLine 1 ((List.range 1792).map (fun i => 2 * previewPixel bx by' curve src i j)))

end Sys2Proof.Machine
end

