-- ==== Sys2Proof/Machine/Pip.lean ====
section
/-! DEFINITION. PIP: frames entering and leaving, the defect map, and the preview engine (R164 to R166, R176 to R178, R193 to R199). -/

namespace Sys2Proof.Machine

/-- Change the PIP block. -/
def Dev.onPip (s : Dev) (f : Pip → Pip) : Dev := { s with pip := f s.pip }

/-! ### Column offsets -/

/-- The column offset in force of a bank and active column. -/
def Dev.colofs (s : Dev) (b x : Nat) : Int := Cells.get (fun _ => (0 : Int)) s.cal.ofs (14336 * b + x)

/-- The column offsets move towards their targets at a PIP frame start (R485). -/
def Dev.slewOffsets (s : Dev) : Dev :=
  let step := s.fd R.CAL_SLEW 11 0
  let keys := s.cal.ofs.map (·.1) ++ s.cal.ofsTarget.map (·.1)
  { s with cal := { s.cal with ofs := keys.foldl (fun (m : Cells Int) (k : Nat) =>
      Cells.put (fun _ => (0 : Int)) m k (moveTowards step (Cells.get (fun _ => (0 : Int)) s.cal.ofs k)
        (Cells.get (fun _ => (0 : Int)) s.cal.ofsTarget k))) s.cal.ofs } }

/-! ### Frames -/

/-- The exposure of an infusion in a zone (R180). -/
def exposure (steeps : List SteepDone) (i z : Nat) : Nat :=
  (steeps.filter (fun d => d.inf == i && d.mask.getLsbD z)).foldl (fun m d => max m d.dur) 0

/-- Does LNK take frames now (R199)? -/
def Dev.lnkReady (s : Dev) : Bool := s.bt R.LNK_CTRL 0 && s.lnk.state == 2

/-- Does LNK take frames from PIP now (R199, R251)? -/
def Dev.lnkTakes (s : Dev) : Bool := s.lnkReady && !s.bt R.LNK_CTRL 12

/-- A frame is discarded (R205, R215): its number reaches nobody, and its pour areas are released (R216). -/
def Dev.pipDiscard (s : Dev) (f : ReadyFrame) : Dev :=
  ((s.onRdo (fun r => { r with ready := r.ready.erase f })).bump R.MEM_FRAME_DROPPED).pipReleases f.rec'.serial

/-- The pixels of one window of a frame: per present infusion in index order, its cells with resolution, gain and exposures. -/
structure WinLayer where
  inf : Nat
  res : Nat
  cg : Nat
  expo : Nat → Nat
  rows : List (List Px)

/-- Stages 1 to 4 over the pours of a frame (R166): the layers of every window, with what is counted. -/
structure LayerAcc where
  dev : Dev
  clamps : Clamps
  layers : List (Nat × WinLayer)
  replaced : Nat
  unresolved : Nat

/-- Take one window of a pour through stages 1 to 4; `area` is the pour area from its word 64 on. -/
def layerWindow (t : StageSet) (expo : Nat → Nat) (f : PourFacts) (area : List (Word × Bool)) (a : LayerAcc) (w : Win) : LayerAcc :=
  match windowAt f.res f.dark f.rows.length f.wins w.k with
  | none => a
  | some o =>
    let (rows, n, u) := windowPixels t f w a.clamps.at expo ((area.drop (o - 64)).take (w.words f.res))
    { a with layers := a.layers ++ [(w.k, ⟨f.inf, f.res, f.cg, expo, rows⟩)], replaced := a.replaced + n, unresolved := a.unresolved + u }

/-- Read one pour area after its descriptor, in whole beats (R206): its row dark records, then its windows. -/
def layerPour (t : StageSet) (steeps : List SteepDone) (a : LayerAcc) (f : PourFacts) : LayerAcc :=
  let (area, d) := a.dev.memReadRun 4 (f.base + 64) (toBeat f.len - 64)
  let recs := (area.drop (recordsAt f.res f.dark - 64)).take f.rows.length
  let clamps := a.clamps.pour t.clamp f (f.rows.zip (recs.map usableMeans))
  f.wins.foldl (layerWindow t (fun z => exposure steeps f.inf z) f area) { a with dev := d, clamps := clamps }

/-- The candidates at one output pixel of a window. -/
def candsAt (layers : List WinLayer) (w : Win) (j i : Nat) : List Cand :=
  layers.map (fun l =>
    { inf := l.inf, t := l.expo (zoneAt (w.colOf i) (w.rowOf j)), res := l.res, cg := l.cg,
      px := (l.rows.getD j []).getD i { absent := true } })

/-- The output pixels of a window: per row, field, saturation and linear value. -/
def windowOut (o : OutSet) (node : Nat → Nat) (layers : List WinLayer) (w : Win) : List (List (Nat × Bool × Nat)) :=
  (List.range w.rows).map (fun j => (List.range w.cols).map (fun i =>
    outPixelOf o (if w.sum then w.n else 1) node (candsAt layers w j i)))

/-- The lines of a window (R192). -/
def windowLines (fmt : Nat) (w : Win) (px : List (List (Nat × Bool × Nat))) : List OutLine :=
  px.zipIdx.map (fun r => { win := w.k, row := r.2, sat := (r.1.filter (fun p => p.2.1)).length,
                            words := packLine fmt (r.1.map (·.1)) })

/-- The source values of the preview window (R194). -/
def previewSource (o : OutSet) (shift : Nat) (layers : List WinLayer) (w : Win) (px : List (List (Nat × Bool × Nat))) :
    List (List Nat) :=
  if o.fmt = 3 ∨ o.fmt = 4 then px.map (fun r => r.map (fun p => min 4095 (p.2.2 / 2 ^ min shift 12)))
  else (List.range w.rows).map (fun j => (List.range w.cols).map (fun i =>
    match candOf (candsAt layers w j i) o.sel with
    | some c => outField 12 c.res o.ped c.px
    | none => 0))

/-- Is the extended defect context granted (R175, R176)? -/
def Dev.extGranted (s : Dev) : Bool := s.bt R.PIP_DMAP_CTRL 32 && s.active 8 0

/-- The knee table as the registers read. -/
def Dev.kneeRegs (s : Dev) : List (Nat × Nat) :=
  (List.range 8).map (fun i => (s.fd (R.PIP_KNEEs i) 23 0, s.fd (R.PIP_KNEEs i) 27 24))

/-- Check the knee table at a frame start (R188). -/
def Dev.checkKnees (s : Dev) (num : Word) : Dev :=
  match kneeFault s.kneeRegs with
  | none => s.onPip (fun p => { p with knees := s.kneeRegs })
  | some f => (s.wb R.PIP_STATUS 33 true).log Ev.PIP_KNEE_INVALID f num.toNat

/-- A free preview buffer. -/
def Pip.freeBuf (p : Pip) : Option (Fin 2) :=
  if p.bufs[(0 : Fin 2)].st = .free then some 0 else if p.bufs[(1 : Fin 2)].st = .free then some 1 else none

/-- Replace a preview buffer. -/
def Dev.setBuf (s : Dev) (b : Fin 2) (v : PvBuf) : Dev := s.onPip (fun p => { p with bufs := p.bufs.set b.val v b.isLt })

/-- The preview engine meets a frame (R196, R197): none when it does not take it. -/
def Dev.previewTake (s : Dev) (r : FrameRecord) : Option (Fin 2) × Dev :=
  if s.bt R.PIP_PREVIEW 0 then
    let due := s.pip.pvCount % (s.fd R.PIP_PREVIEW 23 16 + 1) = 0
    let s := s.onPip (fun p => { p with pvCount := p.pvCount + 1 })
    if due ∧ s.active 9 0 then
      match s.pip.freeBuf with
      | some b => (some b, s.setBuf b { st := .filling, num := r.num, stamp := r.stamp, status := r.status })
      | none => (none, s.bump R.PIP_PV_SKIPPED)
    else (none, s)
  else (none, s)

/-- A pour of the frame cannot be used: it was dropped, or its descriptor reads uncorrectable (R205, R215). The descriptors are read
here. -/
def Dev.readDescriptors (s : Dev) (f : ReadyFrame) : Bool × Dev :=
  f.pours.foldl (fun (a : Bool × Dev) p =>
    let (ws, d) := a.2.memReadRun 4 p.base 64
    (a.1 || ws.any (·.2), d)) (false, s)

/-- Stages 1 to 7 of a frame, with the settings of this moment (R165, R166). -/
def Dev.processFrame (s : Dev) (f : ReadyFrame) (base : Option Nat) : Dev :=
  let r := f.rec'
  let c := s.rd R.PIP_CTRL
  let fmt := field c 10 8
  let sel := field c 7 6
  let present := (List.range r.infs.length).filter (fun i => (r.infAt i).present)
  let absentSel := (!bit c 5 || fmt == 0 || fmt == 1) && !present.contains sel
  let s := if absentSel then s.log Ev.PIP_INF_ABSENT sel r.num.toNat else s
  let gains := s
  let t : StageSet := {
    clamp := bit c 1, colofs := bit c 2, defect := bit c 3, zgain := bit c 4, ext := s.extGranted,
    dmap := s.pip.dmap, ofs := s.colofs, gain := fun z => gains.fd (R.PIP_ZGAINz z) 13 0 }
  let acc := f.pours.foldl (layerPour t r.steeps) ⟨s, { last := s.pip.clampLast }, [], 0, 0⟩
  let s := acc.dev.onPip (fun p => { p with clampLast := acc.clamps.last })
  let s := s.wb R.PIP_STATUS 34 (acc.clamps.fell != 0)
  let s := if acc.clamps.fell ≠ 0 then s.log Ev.PIP_CLAMP_FALLBACK acc.clamps.fell r.num.toNat else s
  let s := s.wr R.PIP_REPLACED_COUNT (satAdd (s.rd R.PIP_REPLACED_COUNT) acc.replaced)
  let s := s.wr R.PIP_UNRESOLVED_COUNT (satAdd (s.rd R.PIP_UNRESOLVED_COUNT) acc.unresolved)
  let b := s.rd R.PIP_BLEND
  let o : OutSet := {
    fmt := fmt, sel := sel, blends := bit c 5, ped := s.fd R.PIP_OUT 11 0, knees := s.pip.knees,
    set := { hi := field b 15 0, band := field b 19 16, tref := (s.rd R.PIP_BLEND_TREF).toNat,
             offset := s.fd R.PIP_OUT 27 12 } }
  let node := fun i => (r.infAt i).node
  let wins := f.wins.map (fun w =>
    let layers := (acc.layers.filter (fun l => l.1 == w.k)).map (·.2)
    (w, layers, windowOut o node layers w))
  let lines := wins.flatMap (fun x => windowLines fmt x.1 x.2.2)
  let out : OutFrame := {
    num := r.num, stamp := r.stamp, status := r.status, fmt := fmt, valid := f.wins.foldl (fun m w => m + 2 ^ w.k) 0,
    lines := lines, base := base, len := outAreaWords fmt f.wins, serial := r.serial }
  let (pv, s) := s.previewTake r
  let p := s.rd R.PIP_PREVIEW
  let image := pv.map (fun k =>
    let src := match wins.find? (fun x => x.1.k == field p 4 1) with
      | some x => previewSource o (field p 15 12) x.2.1 x.1 x.2.2
      | none => []
    (k.val, previewWords (field p 7 5 + 1) (field p 10 8 + 1) (bit p 11) src))
  s.onPip (fun q => { q with frame := some out, pvImage := image })

/-- A frame starts (R165, R29): the line buffer changes hands, the settings, the defect map and the offsets are taken; with LNK in the destination the lines go there. -/
def Dev.pipBegin (s : Dev) (f : ReadyFrame) (toLnk : Bool) (base : Option Nat) : Dev :=
  let s := s.onRdo (fun r => { r with ready := r.ready.erase f })
  let s := s.onPip (fun p => { p with busy := true, lastStart := some s.tick, toLnk := toLnk,
                                      dmap := p.dmapNext.getD p.dmap, dmapNext := none })
  let s := ((s.handover 0x030).slewOffsets).checkKnees f.rec'.num
  let (bad, s) := s.readDescriptors f
  if bad then
    let s := (s.pipDiscard f).onPip (fun p => { p with busy := false, toLnk := false })
    match base with
    | some b => s.releaseOutAt b
    | none => s
  else
    let s := s.processFrame f base
    match s.pip.frame, toLnk with
    | some o, true => { s with lnk := { s.lnk with frames := s.lnk.frames ++ [o] } }
    | _, _ => s

/-- Mark the output area at a base as none for LNK to send (R199). -/
def Dev.areaNotSent (s : Dev) (base : Nat) : Dev :=
  s.onMem (fun m => { m with outs := m.outs.map (fun a => if a.base = base then { a with sent := true } else a) })

/-- PIP_FRAME_START (R165, R199, R215, R218): a frame with a dropped pour is discarded; else the oldest ready frame starts when PIP is
enabled and idle, LNK takes frames where the destination is LNK alone, and the output area fits. -/
def Dev.pipStart (s : Dev) : Dev :=
  match s.rdo.ready.find? (fun f => f.pours.any (·.dropped)) with
  | some f => s.pipDiscard f
  | none =>
    match s.rdo.ready with
    | [] => s
    | f :: _ =>
      let c := s.rd R.PIP_CTRL
      let dest := field c 13 12
      if s.pip.busy || !bit c 0 || (dest == 1 && !s.lnkReady) then s
      else if dest = 1 then s.pipBegin f true none
      else match s.placeOut (outAreaWords (field c 10 8) f.wins) f.rec'.num
          (f.wins.flatMap (fun w => List.replicate w.rows (lineWords (field c 10 8) w))) with
        | none => s
        | some (b, s1) =>
          let link := dest == 2 && s.lnkTakes
          (if dest = 2 then s1.areaNotSent b else s1).pipBegin f link (some b)

/-- The header of an output area (R193): the offset of each window's first line word follows the lines before it. -/
def OutFrame.header (o : OutFrame) : List Word :=
  let at_ := fun (k : Nat) =>
    if o.valid.testBit k then
      32 + (o.lines.filter (fun l => decide (l.win < k))).foldl (fun a l => a + 1 + l.words.length) 0
    else 0
  [o.num, place 35 33 o.fmt ||| place 15 0 o.valid, loWord o.stamp, hiWord o.stamp, o.status, BitVec.ofNat 36 o.len,
   0, 0, 0, 0, 0, 0, 0, 0, 0, 0] ++ (List.range 16).map (fun k => BitVec.ofNat 36 (at_ k))

/-- The words of the lines as they stand in an output area. -/
def OutFrame.body (o : OutFrame) : List Word := o.lines.flatMap (fun l => l.word :: l.words)

/-- What fills the last beat of an output area, which PIP writes whole (R206): the spec does not say, so the words are free. -/
def Dev.padBeat (s : Dev) (rq a : Nat) : Nat → Dev
  | 0 => s
  | n + 1 =>
    let (w, s) := s.drawWord
    (s.memWrite rq a w).padBeat rq (a + 1) n

/-- Has LNK taken every line of a frame that PIP sends to it? It takes none while LNK.CTRL.SRC is one, and the frame stays with PIP (DESIGN CHOICE, log entry
220). -/
def Dev.lnkDrained (s : Dev) (num : Word) : Bool :=
  !s.lnk.frames.any (fun f => f.num == num) &&
  (match s.lnk.cur with
   | some c => c.area.isSome || c.frame.num != num || c.rest.isEmpty
   | none => true)

/-- PIP_FRAME_END (R164, R193, R216): the lines and then the header are written, the preview image is complete, event 8 is posted. -/
def Dev.pipEnd (s : Dev) : Dev :=
  match s.pip.frame with
  | none => s
  | some o =>
    if s.pip.toLnk && !s.lnkDrained o.num then s else
    let s := match o.base with
      | some b => (((s.memWriteRun 4 (b + 32) o.body).padBeat 4 (b + o.len) (toBeat o.len - o.len)).memWriteRun 4 b o.header).outWritten o.num
      | none => s
    let s := match s.pip.pvImage with
      | some (k, ws) =>
        let b : Fin 2 := if k = 0 then 0 else 1
        let s := s.memWriteRun 6 (s.mem.pvBase + b.val * pvWords) ws
        (s.setBuf b { s.pip.bufs[b] with st := .complete, order := s.pip.completed }).onPip
          (fun p => { p with pvImage := none, completed := p.completed + 1 })
      | none => s
    let s := (s.onPip (fun p => { p with busy := false, frame := none, toLnk := false })).pipReleases o.serial
    (s.bump R.PIP_FRAME_COUNT).post 8 s.tb

/-! ### Defect map -/

/-- Read the staged map (R177, R178): its entries when every check passes. `prev` is one above the latest (Y, X) key. -/
def readMap (read : Nat → Word) : Nat → Nat → Nat → Option (List Word)
  | 0, _, _ => none
  | fuel + 1, i, prev =>
    let e := read i
    let X := field e 13 0
    let Y := field e 27 14
    let L := field e 33 28
    let kind := field e 35 34
    if e = 0xC00000000 then some []
    else
      let inside := decide (X < 14336) && decide (Y < 10752) &&
        (match kind with
         | 0 => L == 0
         | 1 => decide (Y + L < 10752)
         | 2 => decide (X + L < 14336)
         | _ => false)
      if inside && decide (prev ≤ Y * 16384 + X) then (readMap read fuel (i + 1) (Y * 16384 + X + 1)).map (e :: ·) else none

/-- PIP.DMAP_CTRL.SWAP (R178). A refused one leaves no earlier map waiting (DESIGN CHOICE, log entry 221). -/
def Dev.dmapSwap (s : Dev) : Dev :=
  match readMap (fun i => Cells.get (fun _ => (0 : Word)) s.pip.staging i) 262081 0 0 with
  | some m => s.onPip (fun p => { p with dmapNext := some m })
  | none => (((s.onPip (fun p => { p with dmapNext := none })).wb R.PIP_DMAP_CTRL 33 true).log Ev.DMAP_INVALID 0 0)

/-- PIP.DMAP_CTRL.EXT was written (R176). -/
def Dev.extChanged (s : Dev) : Dev :=
  if s.bt R.PIP_DMAP_CTRL 32 then s.askClaim 8 0 [0x030] else s.releaseClaim 8 0

/-- PIP.PREVIEW.EN was written (R196, R197). -/
def Dev.previewChanged (s : Dev) (was : Bool) : Dev :=
  if s.bt R.PIP_PREVIEW 0 then
    (if was then s else s.onPip (fun p => { p with pvCount := 0 })).askClaim 9 0 [0x030]
  else s.releaseClaim 9 0

/-- PIP.STATUS. -/
def Dev.pipStatus (s : Dev) : Word :=
  (s.rd R.PIP_STATUS &&& (fieldMask 34 33)) ||| place 35 35 (b2n s.pip.busy) |||
    place 32 32 (b2n (s.bt R.PIP_PREVIEW 0 && s.active 9 0))

/-- PIP.DMAP_CTRL as read. -/
def Dev.dmapStatus (s : Dev) : Word :=
  (s.rd R.PIP_DMAP_CTRL &&& (fieldMask 33 32)) ||| place 34 34 (b2n s.pip.dmapNext.isSome) ||| place 17 0 s.pip.dmap.length

end Sys2Proof.Machine
end

