-- ==== Sys2Proof/Machine/Lnk.lean ====
section
/-! DEFINITION. LNK: blocks, packets, virtual channels, the preview path, training, lane maps and sparing
(spec/08_frame_link_and_preview.md). -/

namespace Sys2Proof.Machine

/-- Change the LNK block. -/
def Dev.onLnk (s : Dev) (f : Lnk → Lnk) : Dev := { s with lnk := f s.lnk }

/-! ### Blocks (R234 to R247) -/

/-- A control block with a payload given as a number. -/
def ctlBlock (n : Nat) : Block := ⟨true, BitVec.ofNat 64 n⟩

/-- A data block. -/
def dataBlock (n : Nat) : Block := ⟨false, BitVec.ofNat 64 n⟩

/-- IDLE (R236). -/
def idleBlock : Block := ctlBlock 0x0F

/-- FS (R241). -/
def fsBlock (vc fmt : Nat) (num : Word) : Block := ctlBlock (0x55 + vc * 2 ^ 8 + fmt * 2 ^ 10 + num.toNat * 2 ^ 14)

/-- The payload of LS (R242). -/
def lsValue (vc fmt win row words frameLo : Nat) : Nat :=
  0x66 + vc * 2 ^ 8 + fmt * 2 ^ 10 + (win % 16) * 2 ^ 14 + (row % 2 ^ 14) * 2 ^ 18 + (words % 2 ^ 16) * 2 ^ 32 +
    (frameLo % 2 ^ 16) * 2 ^ 48

/-- A stream of words as one number, first word lowest (R243). -/
def streamNat : List Word → Nat
  | [] => 0
  | w :: ws => w.toNat + 2 ^ 36 * streamNat ws

/-- Cut a number into data blocks (R243). -/
def dataBlocks : Nat → Nat → List Block
  | 0, _ => []
  | n + 1, v => dataBlock v :: dataBlocks n (v / 2 ^ 64)

/-- A packet of LS, payload and LE (R242 to R245). -/
def packet (vc fmt win row frameLo sat : Nat) (ue : Bool) (words : List Word) : List Block :=
  let n := words.length
  let ls := lsValue vc fmt win row n frameLo
  let v := streamNat words
  let crc := crc32 (64 + 36 * n) (ls + 2 ^ 64 * v)
  ctlBlock ls :: dataBlocks ((36 * n + 63) / 64) v ++
    [ctlBlock (0x99 + vc * 2 ^ 8 + b2n ue * 2 ^ 10 + (sat % 2 ^ 18) * 2 ^ 14 + crc * 2 ^ 32)]

/-- What an FE reports (R246). -/
structure FeFacts where
  vc : Nat
  fmt : Nat
  tag : Bool
  holdover : Bool
  swap : Bool
  underrun : Bool
  ue : Bool
  degraded : Bool
  truncated : Bool
  lines : Nat
  deriving DecidableEq, Repr

/-- The payload of FE (R246). -/
def feValue (f : FeFacts) : Nat :=
  0xAA + f.vc * 2 ^ 8 + f.fmt * 2 ^ 10 + b2n f.tag * 2 ^ 13 + b2n f.holdover * 2 ^ 14 + b2n f.swap * 2 ^ 15 +
    b2n f.underrun * 2 ^ 16 + b2n f.ue * 2 ^ 17 + b2n f.degraded * 2 ^ 18 + b2n f.truncated * 2 ^ 19 +
    (f.lines % 2 ^ 18) * 2 ^ 20

/-- Trailer bits 0 to 143 (R247). -/
def trailerHead (num : Word) (stamp : Stamp) (status : Word) : Nat :=
  num.toNat + stamp.toNat * 2 ^ 36 + status.toNat * 2 ^ 108

/-- The tag in trailer bits 271:144: byte t of the tag at bits 151 + 8t to 144 + 8t (R247). -/
def trailerTag (tag : List Byte) : Nat := bytesNat tag * 2 ^ 144

/-- FE and its five trailer blocks (R246, R247). -/
def feBlocks (fe : Nat) (head : Nat) (tag : List Byte) : List Block :=
  let t := head + trailerTag tag
  let crc := crc32 (64 + 288) (fe + 2 ^ 64 * t)
  ctlBlock fe :: dataBlocks 5 (t + crc * 2 ^ 288)

/-! ### Scrambling and striping (R234, R237) -/

/-- One bit of the scrambler x^58 + x^39 + 1; bit i of the register is the bit sent i + 1 bits ago. -/
def scrambleBits : Nat → Nat → BitVec 64 → BitVec 64 → BitVec 58 → BitVec 64 × BitVec 58
  | 0, _, _, out, st => (out, st)
  | n + 1, i, p, out, st =>
    let b := (p.getLsbD i).xor ((st.getLsbD 38).xor (st.getLsbD 57))
    scrambleBits n (i + 1) p (if b then out ||| (1 <<< i) else out) ((st <<< 1) ||| BitVec.ofNat 58 (b2n b))

/-- Scramble one payload. -/
def scramble (p : BitVec 64) (st : BitVec 58) : BitVec 64 × BitVec 58 := scrambleBits 64 0 p 0 st

/-- Logical lanes in use (R237). -/
def Lnk.lanes (l : Lnk) : Nat := if l.wide then 32 else 16

/-- Send one block on a physical lane. -/
def Lnk.onLane (l : Lnk) (lane : Nat) (b : Block) : Lnk :=
  if h : lane < 35 then
    let r := scramble b.payload l.scr[lane]
    { l with scr := l.scr.set lane r.2, pos := l.pos.set lane (l.pos[lane] + 1), sent := l.sent ++ [⟨lane, b.ctl, r.1⟩] }
  else l

/-- Is the next block of a lane its marker (R238)? -/
def Lnk.markerDue (l : Lnk) (lane : Nat) : Bool := if h : lane < 35 then decide (16383 ≤ l.pos[lane]) else false

/-- Must the stream of the frame link wait for a marker: its next lane sends one, or blocks stand behind one already? -/
def Lnk.mustMark (l : Lnk) : Bool := !l.behind.isEmpty || l.markerDue (l.map.getD (l.k % l.lanes) 63)

/-- Must a lane of the preview's own wait for a marker? -/
def Lnk.laneMustMark (l : Lnk) (lane : Nat) : Bool := l.laneBehind.any (fun x => x.1 == lane) || l.markerDue lane

/-- Send one block of the stream of the frame link (R237). -/
def Lnk.stripe (l : Lnk) (b : Block) : Lnk := { l.onLane (l.map.getD (l.k % l.lanes) 63) b with k := l.k + 1 }

/-- A block joins the stream of the frame link: the stream goes on behind a marker that is due (R238). -/
def Lnk.stream (l : Lnk) (b : Block) : Lnk := if l.mustMark then { l with behind := l.behind ++ [b] } else l.stripe b

/-- A block joins what a lane of the preview's own sends. -/
def Lnk.laneStream (l : Lnk) (lane : Nat) (b : Block) : Lnk :=
  if l.laneMustMark lane then { l with laneBehind := l.laneBehind ++ [(lane, b)] } else l.onLane lane b

/-- Send blocks on the frame link. -/
def Dev.sendFrameLink (s : Dev) (bs : List Block) : Dev := s.onLnk (fun l => bs.foldl Lnk.stream l)

/-- The lane of a preview route that has one of its own (R255). -/
def pvLaneOf (route : Nat) : Nat := if route = 2 then 33 else 34

/-- Send blocks of the preview on its path (R255). -/
def Dev.sendPreview (s : Dev) (route : Nat) (bs : List Block) : Dev :=
  if route = 1 then s.sendFrameLink bs else s.onLnk (fun l => bs.foldl (fun l b => l.laneStream (pvLaneOf route) b) l)

/-! ### State -/

/-- The link PLL coasts (R264). -/
def Dev.lkHoldover (s : Dev) : Bool := s.bt R.CLK_STATUS 31

/-- The link PLL is locked. -/
def Dev.lkLocked (s : Dev) : Bool := s.bt R.CLK_STATUS 32

/-- STATE changes (LNK.STATUS), with event 14. -/
def Dev.setLinkState (s : Dev) (st : Nat) : Dev :=
  if s.lnk.state = st then s else (s.onLnk (fun l => { l with state := st })).post 14 s.tb

/-- Does a physical lane work? -/
def Dev.laneWorks (s : Dev) (n : Nat) : Bool := !s.bt R.LNK_LANE_FAIL n

/-- Does the preview copy send on LTX33: feature 11 has it, or it has lost the lane and its next FE is still to come (R29, R257)? -/
def Dev.copySends (s : Dev) : Bool := s.usesRes 11 0 0x041

/-- LNK.STATUS. -/
def Dev.lnkStatus (s : Dev) : Word :=
  let route := s.fd R.LNK_PV_CTRL 2 1
  let up := if route = 0 then s.lnk.pvUp else if route = 1 then s.lnk.state == 2 else s.lnk.copyUp && s.copySends
  place 35 33 s.lnk.state ||| place 32 32 (b2n s.lkHoldover) ||| place 31 31 (b2n (!s.lnk.wide)) |||
    place 30 30 (b2n up) ||| place 23 16 s.lnk.gen ||| place 5 0 (if s.lnk.known then ((List.range 34).filter s.laneWorks).length else 0)

/-- LNK.LANE_MAPk. -/
def Dev.laneMap (s : Dev) (k : Nat) : Word :=
  (List.range 6).foldl (fun w j =>
    if 32 ≤ 6 * k + j then w else w ||| place (6 * j + 5) (6 * j) (s.lnk.map.getD (6 * k + j) 63)) 0

/-! ### Claims of the spare lanes (R257, R262) -/

/-- The spare lanes that carry a logical lane. -/
def Dev.sparesUsed (s : Dev) : List Nat := [32, 33].filter (fun p => s.lnk.map.contains p)

/-- Feature 10 holds the spares in use, and every free one while SPARE_EN is one (R262). -/
def Dev.spareClaims (s : Dev) : Dev :=
  let res := if s.bt R.LNK_CTRL 10 then [0x040, 0x041] else s.sparesUsed.map (fun p => 0x020 + p)
  if res.isEmpty then s.releaseClaim 10 0 else s.askClaim 10 0 res

/-- Feature 11: EN with ROUTE 2 (R257). Disabled with no frame in flight it sends no further FE, and gives up at once a lane it has lost (DEDUCED, log entry
226). -/
def Dev.copyClaim (s : Dev) : Dev :=
  if s.bt R.LNK_PV_CTRL 0 && s.fd R.LNK_PV_CTRL 2 1 == 2 then s.askClaim 11 0 [0x041]
  else
    let s := s.releaseClaim 11 0
    if s.lnk.copyBusy then s else { s with handovers := s.handovers.filter (fun h => h.loseFeat != 11) }

/-- May sparing use a spare lane: during boot always, at run time while feature 10 has it (R261)? -/
def Dev.mayspare (s : Dev) (boot : Bool) (p : Nat) : Bool := boot || s.usesRes 10 0 (0x020 + p)

/-! ### Lane maps (R261) -/

/-- Give each logical lane without a lane the first free working spare; the flag per lane says that one was taken. -/
def takeSpares (free : List Nat) : List (Nat × Bool) → List (Nat × Bool)
  | [] => []
  | (p, ok) :: rest =>
    if ok then (p, false) :: takeSpares free rest
    else match free with
      | f :: fs => (f, true) :: takeSpares fs rest
      | [] => (63, false) :: takeSpares [] rest

/-- A preview frame in flight on the frame link, which carries frames no longer, is given up: its buffer is free. -/
def Dev.endStreamPv (s : Dev) : Dev :=
  match s.lnk.pv with
  | some p => if p.route = 1 then
      (s.setBuf p.buf { s.pip.bufs[p.buf] with st := .free }).onLnk (fun l => { l with pv := none, pvStalled := none })
    else s
  | none => s

/-- Form the lane map (R261): the result is DOWN (false) or a map in force. -/
def Dev.formMap (s : Dev) (boot : Bool) : Bool × Dev :=
  let base := if s.lnk.wide && !s.lnk.map.contains 63 then s.lnk.map else List.range 32
  let keep := base.map (fun p => (p, decide (p < 34) && s.laneWorks p))
  let free := [32, 33].filter (fun p => s.laneWorks p && !base.contains p && s.mayspare boot p)
  let r := takeSpares free keep
  let works := (List.range 34).filter s.laneWorks
  if r.all (fun x => x.1 != 63) then
    let s := r.foldl (fun s x => if x.2 then s.log Ev.LINK_SPARED 0 0 else s) s
    (true, (s.onLnk (fun l => { l with map := r.map (·.1), wide := true })).spareClaims)
  else
    let s := r.foldl (fun s x => if x.2 then s.log Ev.LINK_SPARED 0 0 else s) s
    if 16 ≤ works.length then
      (true, ((s.onLnk (fun l => { l with map := works.take 16 ++ List.replicate 16 63, wide := false })).log
        Ev.LINK_DEGRADED 0 0).spareClaims)
    else
      (false, ((((s.endStreamPv).onLnk (fun l => { l with map := List.replicate 32 63, frames := [] })).setLinkState 3).log Ev.LINK_DOWN 0 0).spareClaims)

/-- LANE_GEN counts on (R239). After a runtime change the next FE of each channel carries LANE_SWAP (R263); after a training it does where there was an FE
before (R246). -/
def Dev.nextGen (s : Dev) (runtime : Bool) : Dev :=
  s.onLnk (fun l => { l with gen := (l.gen + 1) % 256, swap0 := runtime || l.swap0 || l.had0, swap1 := runtime || l.swap1 || l.had1 })

/-! ### Ending frames -/

/-- What the FE of the VC0 frame in flight reports. -/
def Dev.fe0 (s : Dev) (c : TxFrame) : FeFacts :=
  ⟨0, c.frame.fmt, c.auth, c.holdover || s.lkHoldover, s.lnk.swap0, c.underrun, c.ue, !s.lnk.wide, c.truncated, c.lines⟩

/-- A training starts (R258): the lanes leave electrical idle, with a marker first (R238); RATE and TRAIN_MODE are taken. What LNK held for sending is disposed of
(R199). -/
def Dev.startTraining (s : Dev) (boot repeated : Bool) (ackFail : Nat) : Dev :=
  let rate := s.fd R.LNK_CTRL 9 8
  let s := if rate ≠ s.lnk.rate then (s.wb R.CLK_STATUS 32 false).onLnk (fun l => { l with rate := rate }) else s
  let s := if boot then s else s.bump R.LNK_RETRAINS
  let s := s.onLnk (fun l => { l with
    idle := false, ackMode := s.bt R.LNK_CTRL 11, monFail := List.replicate 35 0, remap := false, endEarly := false,
    frames := [], stalled := none, pvUp := false, copyUp := false,
    pos := if l.idle then Vector.replicate 35 16383 else l.pos,
    train := some { start := s.tick, ackFail := ackFail, repeated := repeated, boot := boot } })
  s.setLinkState 1

/-- After the trailer of a VC0 frame (R248, R251, R258): counters, event 9, VC2 kind 0, release, and what was to follow. -/
def Dev.endVc0 (s : Dev) (c : TxFrame) : Dev :=
  let s := ((s.bump R.LNK_FRAMES_SENT).wr R.LNK_LAST_FRAME c.frame.num).onLnk (fun l => { l with
    cur := none, swap0 := false, had0 := true })
  let s := s.post 9 s.tb
  let s := if s.bt R.LNK_CTRL 15 then
      s.onLnk (fun l => { l with vc2 := l.vc2 ++ [⟨0, (OutFrame.header c.frame).take 6⟩] }) else s
  let s := match c.area with
    | some b => if s.bt R.LNK_CTRL 13 then s.releaseOutAt b else s
    | none => s
  match c.after with
  | .nothing => s
  | .train => s.startTraining false false 0

/-- Form the FE of the VC0 frame in flight: with a tag it is held for SEC (R254, R503), else it is sent with the trailer. -/
def Dev.sendFe0 (s : Dev) (c : TxFrame) : Dev :=
  let fe := feValue (s.fe0 c)
  if c.auth then s.onLnk (fun l => { l with cur := some { c with tagWait := some (BitVec.ofNat 64 fe) } })
  else
    let f := c.frame
    (s.sendFrameLink (feBlocks fe (trailerHead f.num f.stamp f.status) [])).endVc0 c

/-- The FE of a preview frame (R246, R256): its buffer is free; a spare lane that the copy lost changes hands (R29). -/
def Dev.endPv (s : Dev) (p : PvFrame) (truncated : Bool) : Dev :=
  let b := s.pip.bufs[p.buf]
  let fe := feValue ⟨1, 1, false, p.holdover || s.lkHoldover, s.lnk.swap1, p.underrun, p.ue,
    p.route == 1 && !s.lnk.wide, truncated, p.line⟩
  let s := s.sendPreview p.route (feBlocks fe (trailerHead b.num b.stamp b.status) [])
  let s := s.setBuf p.buf { b with st := .free }
  let s := (s.bump R.LNK_PV_SENT).onLnk (fun l => { l with
    pv := none, swap1 := false, had1 := true, copyBusy := false, pvStalled := none,
    copyFeAt := if p.route = 2 then some s.tick else l.copyFeAt })
  let s : Dev := if p.route = 2 then (s.handover 0x040).handover 0x041 else s
  s.post 10 s.tb

/-- A preview frame in flight ends with TRUNCATED before a training. -/
def Dev.endPvEarly (s : Dev) : Dev :=
  match s.lnk.pv with
  | some p => if p.line = 0 then
      (s.setBuf p.buf { s.pip.bufs[p.buf] with st := .free }).onLnk (fun l => { l with pv := none, copyBusy := false, pvStalled := none })
    else s.endPv p true
  | none => s

/-- The line packet is finished: end the VC0 frame in flight and start a training (R258, R265). -/
def Dev.endAndTrain (s : Dev) : Dev :=
  let s := s.endPvEarly
  match s.lnk.cur with
  | none => s.startTraining false false 0
  | some c =>
    match c.tagWait with
    | some _ => s.onLnk (fun l => { l with cur := some { c with after := .train }, endEarly := false })
    | none =>
      if !c.fsSent then
        let s := match c.area with
          | some b => if s.bt R.LNK_CTRL 13 then s.releaseOutAt b else s
          | none => s
        (s.onLnk (fun l => { l with cur := none, endEarly := false })).startTraining false false 0
      else (((s.bump R.LNK_TRUNCATED).onLnk (fun l => { l with endEarly := false })).sendFe0
        { c with truncated := true, rest := [], lens := [], after := .train })

/-- End the frame after the packets in progress, and train (R258, R265). -/
def Dev.stopAndTrain (s : Dev) : Dev :=
  if s.lnk.stalled.isSome || s.lnk.pvStalled.isSome then s.onLnk (fun l => { l with endEarly := true }) else s.endAndTrain

/-- LNK.CTRL.RETRAIN (R258, R511, R513): ignored while a training runs, during boot, in MAINTENANCE and SHUTDOWN, and while the coasting limit
keeps the lanes idle (R266). -/
def Dev.lnkRetrain (s : Dev) : Dev :=
  if s.dark || s.lnk.state == 1 || s.boot.step.isSome || s.bt R.CLK_STATUS 30 then s
  else s.stopAndTrain

/-- Every lane electrically idle (R267): what was being sent is given up, as R265 says of a frame that a training ends. -/
def Dev.lnkIdle (s : Dev) (st : Nat) : Dev :=
  let s : Dev := match s.lnk.pv with
    | some p => s.setBuf p.buf { s.pip.bufs[p.buf] with st := .free }
    | none => s
  let s : Dev := match s.lnk.cur.bind (·.area) with
    | some b => if s.bt R.LNK_CTRL 13 then s.releaseOutAt b else s
    | none => s
  (s.onLnk (fun l => { l with idle := true, train := none, frames := [], cur := none, pv := none, stalled := none, pvStalled := none,
                              behind := [], laneBehind := [], pvUp := false, copyUp := false, copyBusy := false })).setLinkState st

/-! ### Packets -/

/-- Mark an underrun (R253): counted, and logged once per frame. -/
def Dev.underrun (s : Dev) (vc : Nat) : Dev :=
  let s := s.bump R.LNK_UNDERRUN_COUNT
  if vc = 0 then
    match s.lnk.cur with
    | some c => (if c.underrun then s else s.log Ev.LINK_UNDERRUN 0 0).onLnk (fun l => { l with cur := some { c with underrun := true } })
    | none => s
  else if vc = 1 then
    match s.lnk.pv with
    | some p => (if p.underrun then s else s.log Ev.LINK_UNDERRUN 0 0).onLnk (fun l => { l with pv := some { p with underrun := true } })
    | none => s
  else s

/-- A packet is finished: after the last one of a frame comes its FE (R250). A training that waits for the packets in progress starts
when the other channel has finished its own too (R258, R265). -/
def Dev.packetDone (s : Dev) (vc : Nat) (last : Bool) : Dev :=
  let s := if last then
      (if vc = 0 then (match s.lnk.cur with
        | some c => s.sendFe0 c
        | none => s)
      else match s.lnk.pv with
        | some p => s.endPv p false
        | none => s)
    else s
  if s.lnk.endEarly && s.lnk.stalled.isNone && s.lnk.pvStalled.isNone then s.endAndTrain else s

/-- Is the packet on a lane of the preview's own? -/
def Dev.pvOwnLane (s : Dev) (vc : Nat) : Bool :=
  vc == 1 && (match s.lnk.pv with
    | some p => p.route != 1
    | none => false)

/-- A frame of which a packet was sent is in flight while the link PLL coasts: it is marked (R264, R266). -/
def Dev.markHoldover (s : Dev) (vc : Nat) : Dev :=
  if !s.lkHoldover then s
  else if vc = 0 then s.onLnk (fun l => { l with cur := l.cur.map (fun c => { c with holdover := c.holdover || c.fsSent }) })
  else if vc = 1 then s.onLnk (fun l => { l with pv := l.pv.map (fun p => { p with holdover := p.holdover || p.line != 0 }) })
  else s

/-- Send the blocks of a packet up to where its words are missing (R253); IDLE blocks before one of its `lead` blocks, or at the end of the lead, stand
between packets and are no underrun. -/
def Dev.sendPacket (s : Dev) (vc : Nat) (last : Bool) (lead : Nat) (bs : List Block) (stall : Option Nat) : Dev :=
  let own := s.pvOwnLane vc
  let send := fun (s : Dev) (bs : List Block) => match s.lnk.pv with
    | some p => if own then s.sendPreview p.route bs else s.sendFrameLink bs
    | none => s.sendFrameLink bs
  let s := s.markHoldover vc
  match stall with
  | some n =>
    if n < bs.length then
      let s := send s (bs.take n)
      let s := if lead < n then s.underrun vc else s
      let r : Rest := ⟨bs.drop n, vc, last, lead - n⟩
      if own then s.onLnk (fun l => { l with pvStalled := some r }) else s.onLnk (fun l => { l with stalled := some r })
    else (send s bs).packetDone vc last
  | none => (send s bs).packetDone vc last

/-- The TAG_ON that a frame takes at its FS, and the session that comes into force there (R498, R500, R501). -/
def Dev.fsSecurity (s : Dev) : Bool × Dev :=
  let on := s.sec.sensed.secure || s.bt R.SEC_CTRL 0
  let s := { s with sec := { s.sec with tagOn := on, session := s.sec.sNext } }
  (on || s.sec.tagFault, s)

/-- Read the header of an output area (R252): the frame it describes, or none when a codeword is uncorrectable. -/
def Dev.readArea (s : Dev) (a : Area) : Option TxFrame × Dev :=
  let (ws, s) := s.memReadRun 5 a.base 32
  if ws.any (·.2) then (none, s)
  else
    let w := fun (i : Nat) => (ws.getD i (0, false)).1
    (some { frame := { num := w 0, stamp := joinWords (w 2) (w 3), status := w 4, fmt := field (w 1) 35 33,
                       valid := field (w 1) 15 0, lines := [], base := some a.base, len := (w 5).toNat },
            area := some a.base, addr := a.base + 32, lens := a.lens }, s)

/-- Take the next VC0 frame (R251, R252): from PIP, or the next unsent area of the output ring in ring order. -/
def Dev.takeVc0 (s : Dev) : Dev :=
  if s.bt R.LNK_CTRL 12 then
    match s.mem.outs.find? (fun a => a.pipDone && !a.sent && !a.released) with
    | none => s
    | some a =>
      let s := s.areaNotSent a.base
      match s.readArea a with
      | (some c, s) => s.onLnk (fun l => { l with cur := some c })
      | (none, s) =>
        let s := (s.bump R.LNK_AREAS_BAD).log Ev.LINK_AREA_BAD 0 0
        if s.bt R.LNK_CTRL 13 then s.releaseOutAt a.base else s
  else
    match s.lnk.frames with
    | [] => s
    | f :: rest => s.onLnk (fun l => { l with frames := rest, cur := some { frame := f, rest := f.lines } })

/-- The next line of the frame in flight: its line word's fields and its words; an area's are read now, in whole beats (R192, R205,
R206). -/
def Dev.nextLine (s : Dev) (c : TxFrame) : Option (OutLine × TxFrame × Dev) :=
  match c.area with
  | none => match c.rest with
    | [] => none
    | l :: rest => some (l, { c with rest := rest }, s)
  | some _ => match c.lens with
    | [] => none
    | n :: rest =>
      let (ws, s) := s.memReadOn 5 c.addr (n + 1)
      let lw := (ws.getD 0 (0, false)).1
      some (⟨field lw 35 32, field lw 31 18, field lw 17 0, (ws.drop 1).map (·.1), ws.any (·.2)⟩,
        { c with lens := rest, addr := c.addr + n + 1 }, s)

/-- Are there lines to come? -/
def TxFrame.more (c : TxFrame) : Bool := !c.rest.isEmpty || !c.lens.isEmpty

/-- Send the next VC0 unit (R250): the FS before the first line, the line, and after the last one the FE. -/
def Dev.vc0Unit (s : Dev) (c : TxFrame) (stall : Option Nat) : Dev :=
  let (fs, c, s) := if c.fsSent then ([], c, s) else
    let (auth, s) := s.fsSecurity
    ([fsBlock 0 c.frame.fmt c.frame.num],
     { c with fsSent := true, auth := auth, zeroTag := s.sec.tagFault, session := s.sec.session },
     s.onLnk (fun l => { l with lastFs := c.frame.num }))
  let c := { c with holdover := c.holdover || s.lkHoldover }
  match s.nextLine c with
  | none =>
    let c := { c with covered := if c.auth then c.covered ++ fs.map (·.payload) else [] }
    let s := (s.sendFrameLink fs).onLnk (fun l => { l with cur := some c, owe := true })
    s.packetDone 0 true
  | some (ln, c, s) =>
    let bs := fs ++ packet 0 c.frame.fmt ln.win ln.row (field c.frame.num 15 0) ln.sat ln.ue ln.words
    let c := { c with ue := c.ue || ln.ue, lines := c.lines + 1,
                      covered := if c.auth then c.covered ++ bs.map (·.payload) else [] }
    (s.onLnk (fun l => { l with cur := some c, owe := true })).sendPacket 0 (!c.more) fs.length bs stall

/-- Send the next unit of the preview frame in flight (R250, R254). -/
def Dev.pvUnit (s : Dev) (p : PvFrame) (stall : Option Nat) : Dev :=
  let b := s.pip.bufs[p.buf]
  let fs := if p.line = 0 then [fsBlock 1 1 b.num] else []
  let s := if p.line = 0 then s.onLnk (fun l => { l with lastPvFs := some s.tick }) else s
  let (ws, s) := s.memReadRun 6 (s.mem.pvBase + p.buf.val * pvWords + p.line * 448) 448
  let ue := ws.any (·.2)
  let bs := fs ++ packet 1 1 0 p.line (field b.num 15 0) 0 ue (ws.map (·.1))
  let q := { p with line := p.line + 1, ue := p.ue || ue, holdover := p.holdover || s.lkHoldover }
  (s.onLnk (fun l => { l with pv := some q })).sendPacket 1 (decide (1344 ≤ q.line)) fs.length bs stall

/-- Send the oldest VC2 or VC3 packet (R248). -/
def Dev.sideUnit (s : Dev) (vc : Nat) (stall : Option Nat) : Dev :=
  let q := if vc = 2 then s.lnk.vc2 else s.lnk.vc3
  match q with
  | [] => s
  | p :: rest =>
    let n := if vc = 2 then s.lnk.seq2 else s.lnk.seq3
    let bs := packet vc 7 p.kind n (field s.lnk.lastFs 15 0) 0 false p.words
    let s := s.onLnk (fun l => if vc = 2 then { l with vc2 := rest, seq2 := (n + 1) % 16384 }
                               else { l with vc3 := rest, seq3 := (n + 1) % 16384 })
    s.sendPacket vc false 0 bs stall

/-- Send one waiting unit of another channel, VC3 first, then VC1, then VC2 (R250); the flag says that there was one. -/
def Dev.otherUnit (s : Dev) (stall : Option Nat) : Bool × Dev :=
  let en := s.bt R.LNK_CTRL 0
  let pv := s.lnk.pv.filter (fun p => p.route == 1)
  if en && !s.lnk.vc3.isEmpty then (true, s.sideUnit 3 stall)
  else match pv with
    | some p => (true, s.pvUnit p stall)
    | none => if en && !s.lnk.vc2.isEmpty then (true, s.sideUnit 2 stall) else (false, s)

/-- LINK_PACKET_BOUNDARY on the frame link (R250): `idle` IDLE blocks stood before it; `stall` says before which block of the unit words
are missing (R253). A marker that is due comes first (R238). -/
def Dev.frameBoundary (s : Dev) (idle : Nat) (stall : Option Nat) : Dev :=
  if s.lnk.state ≠ 2 ∨ s.lnk.stalled.isSome ∨ s.lnk.mustMark then s else
  let s := s.onLnk (fun l => { l with sent := [] })
  let s := s.sendFrameLink (List.replicate idle idleBlock)
  if s.lnk.mustMark || s.lnk.endEarly then s else
  if (s.lnk.cur.bind (·.tagWait)).isSome || (s.lnk.remap && s.lnk.cur.isNone) then s else
  let s := if s.lnk.cur.isNone && s.bt R.LNK_CTRL 0 then s.takeVc0 else s
  match s.lnk.cur with
  | none =>
    let (sentOne, s) := s.otherUnit stall
    if sentOne then s.onLnk (fun l => { l with owe := false }) else s
  | some c =>
    if s.lnk.owe then
      let (sentOne, s1) := (s.onLnk (fun l => { l with owe := false })).otherUnit stall
      if sentOne then s1 else s.vc0Unit c stall
    else s.vc0Unit c stall

/-- LINK_PACKET_BOUNDARY on the preview lane or the preview copy: `idle` IDLE blocks stood before it (R240). -/
def Dev.pvBoundary (s : Dev) (idle : Nat) (stall : Option Nat) : Dev :=
  let route := match s.lnk.pv with
    | some p => p.route
    | none => s.fd R.LNK_PV_CTRL 2 1
  let lane := pvLaneOf route
  if s.lnk.idle ∨ s.lnk.pvStalled.isSome ∨ route = 1 ∨ s.lnk.laneMustMark lane then s else
  let s := (s.onLnk (fun l => { l with sent := [] })).sendPreview route (List.replicate idle idleBlock)
  match s.lnk.pv with
  | some p => if s.lnk.laneMustMark lane || s.lnk.endEarly then s else s.pvUnit p stall
  | none => s

/-- LINK_PAYLOAD_READY (R19, R253): after `idle` IDLE blocks the packet goes on, perhaps to the next gap. -/
def Dev.payloadReady (s : Dev) (pvLane : Bool) (idle : Nat) (stall : Option Nat) : Dev :=
  let s := s.onLnk (fun l => { l with sent := [] })
  if pvLane then
    match s.lnk.pvStalled, s.lnk.pv with
    | some r, some p =>
      if s.lnk.laneMustMark (pvLaneOf p.route) then s else
      ((s.onLnk (fun l => { l with pvStalled := none })).sendPreview p.route (List.replicate idle idleBlock)).sendPacket
        r.vc r.last r.lead r.blocks stall
    | _, _ => s
  else
    match s.lnk.stalled with
    | some r =>
      if s.lnk.mustMark then s else
      ((s.onLnk (fun l => { l with stalled := none })).sendFrameLink (List.replicate idle idleBlock)).sendPacket
        r.vc r.last r.lead r.blocks stall
    | none => s

/-! ### Preview frames -/

/-- Is the path of a route trained (R255)? -/
def Dev.pathUp (s : Dev) (route : Nat) : Bool :=
  if route = 0 then s.lnk.pvUp else if route = 1 then s.lnk.state == 2 && !s.lnk.remap
  else s.lnk.copyUp && s.copySends

/-- The completed buffer that waits longest. -/
def Pip.nextBuf (p : Pip) : Option (Fin 2) :=
  let c := [(0 : Fin 2), 1].filter (fun b => p.bufs[b].st = .complete)
  match c with
  | [] => none
  | [b] => some b
  | b :: d :: _ => if p.bufs[b].order ≤ p.bufs[d].order then some b else some d

/-- PREVIEW_FRAME_START (R256): not while STATE is DOWN, where LNK takes no frames (R261). -/
def Dev.previewStart (s : Dev) : Dev :=
  let route := s.fd R.LNK_PV_CTRL 2 1
  match s.lnk.pv, s.pip.nextBuf with
  | none, some b =>
    if s.bt R.LNK_PV_CTRL 0 && s.bt R.LNK_CTRL 0 && s.lnk.state != 3 && s.pathUp route then
      let s := match s.lnk.lastPvFs with
        | some t => s.to (t + (s.rd R.LNK_PV_INTERVAL).toNat)
        | none => s
      (s.setBuf b { s.pip.bufs[b] with st := .sending }).onLnk (fun l => { l with
        pv := some { buf := b, route := route }, copyBusy := route == 2 })
    else s
  | _, _ => s

/-! ### Training (R258 to R261) -/

/-- Two marker periods in ticks, rounded up (R233, R258). -/
def twoMarkers (rate : Nat) : Nat := if rate = 0 then 692061 else if rate = 1 then 838861 else if rate = 2 then 1384121 else 2768241

/-- Set the fail marks from what passed (LNK.LANE_FAIL). -/
def Dev.markLanes (s : Dev) (passed : Nat) : Dev :=
  let mask := (List.range 34).foldl (fun m n => if passed.testBit n then m else m + 2 ^ n) 0
  (s.onLnk (fun l => { l with known := true })).wr R.LNK_LANE_FAIL (BitVec.ofNat 36 (mask + b2n (!passed.testBit 34) * 2 ^ 35))

/-- Mark the lanes and form the map: step 4 of R258. -/
def Dev.trainMap (s : Dev) (t : Training) (passed : Nat) : Bool × Dev := (s.markLanes passed).formMap t.boot

/-- The lanes of a mask less those of another. -/
def lanesLess (a b : Nat) : Nat := (List.range 35).foldl (fun m n => if a.testBit n && !b.testBit n then m + 2 ^ n else m) 0

/-- Step 4 of a training, with what passed, less what FORCE_FAIL has taken out since. -/
def Dev.trainStep4 (s : Dev) (t : Training) (all : Nat) : Dev :=
  let passed := lanesLess all s.lnk.forced
  match s.trainMap t passed with
  | (true, s) => s.onLnk (fun l => { l with train := some { t with stage := TrainStage.marker, passed := passed } })
  | (false, s) => s.onLnk (fun l => { l with train := none })

/-- The physical lane that an acknowledgement bit speaks of. -/
def Dev.ackLane (s : Dev) (n : Nat) : Nat := if n = 32 then 34 else if n = 33 then 33 else s.lnk.map.getD n 63

/-- The acknowledgement bits that a training in ACK mode waits for (R260): every logical lane in use, and the preview's lane when a route
of its own is enabled and the lane has passed its verdict and no timeout has failed it. -/
def Dev.ackNeeded (s : Dev) (t : Training) : List Nat :=
  let ok := fun (n : Nat) => t.passed.testBit (s.ackLane n) && !t.ackFail.testBit (s.ackLane n)
  (List.range s.lnk.lanes).filter (fun n => s.lnk.map.getD n 63 != 63) ++
  (if s.bt R.LNK_PV_CTRL 0 && s.fd R.LNK_PV_CTRL 2 1 == 0 && ok 32 then [32] else []) ++
  (if s.bt R.LNK_PV_CTRL 0 && s.fd R.LNK_PV_CTRL 2 1 == 2 && s.copySends && ok 33 then [33] else [])

/-- LINK_TRAIN_VERDICT (R259): the lanes whose termination and swing are right; without lock every lane fails and the training repeats
(R266). -/
def Dev.trainVerdict (s : Dev) (ok : Nat) : Dev :=
  match s.lnk.train with
  | none => s
  | some t =>
    if t.stage = TrainStage.verdict then
      let s := s.to (t.start + twoMarkers s.lnk.rate)
      if !s.lkLocked then s.startTraining t.boot t.repeated t.ackFail
      else
        let passed := lanesLess (lanesLess ok s.lnk.forced) t.ackFail
        if s.lnk.ackMode then
          let t := { t with stage := TrainStage.ack, passed := passed, deadline := s.tick + (s.rd R.LNK_TRAIN_TIMEOUT).toNat }
          if (s.ackNeeded t).all (fun n => t.acked.testBit n) then s.trainStep4 t passed else s.onLnk (fun l => { l with train := some t })
        else s.trainStep4 t passed
    else s

/-- A write of LNK.TRAIN_ACK (R260). -/
def Dev.trainAck (s : Dev) (v : Word) : Dev :=
  match s.lnk.train with
  | none => s
  | some t =>
    let t := { t with acked := t.acked ||| field v 33 0 }
    let s := s.onLnk (fun l => { l with train := some t })
    if t.stage = TrainStage.ack ∧ (s.ackNeeded t).all (fun n => t.acked.testBit n) then s.trainStep4 t t.passed else s

/-- TRAIN_ACK_TIMEOUT (R260): the lanes not acknowledged fail and the map is formed again; the training repeats once, or the link is DOWN. Where fewer than 16
lanes are left the training repeats on the map as it was (DEDUCED, log entry 227). -/
def Dev.ackTimeout (s : Dev) : Dev :=
  match s.lnk.train with
  | none => s
  | some t =>
    if t.stage = TrainStage.ack then
      let s := s.to t.deadline
      let missing := ((s.ackNeeded t).filter (fun n => !t.acked.testBit n)).map s.ackLane
      let mask := missing.foldl (fun m n => m ||| 2 ^ n) 0
      if missing.isEmpty then s.trainStep4 t t.passed
      else if t.repeated then
        ((s.onLnk (fun l => { l with train := none })).setLinkState 3).log Ev.LINK_TRAIN_FAIL 0 0
      else
        match s.trainMap t (lanesLess t.passed mask) with
        | (true, s) => s.startTraining t.boot true mask
        | (false, _) => (s.markLanes (lanesLess t.passed mask)).startTraining t.boot true mask
    else s

/-! ### Markers (R238, R239, R263) -/

/-- The position of the latest marker of a lane: markers stand at every position p with p mod 16,384 = 0 (R238). -/
def Lnk.markerPos (l : Lnk) (lane : Nat) : Nat := 16384 * (if lane = 34 then l.pvSeq else l.amSeq)

/-- The alignment marker of a lane (R239): LTX33 belongs to the preview while the copy is granted, or still sends its last frame (R29). -/
def Dev.marker (s : Dev) (lane : Nat) : BitVec 64 :=
  let copy := lane == 33 && (s.copySends || s.lnk.copyBusy)
  let own := lane == 34 || copy
  let logical := if own then 0 else
    (((List.range s.lnk.lanes).find? (fun n => s.lnk.map.getD n 63 == lane)).getD 63)
  BitVec.ofNat 64 (0x33 + lane * 2 ^ 8 + logical * 2 ^ 14 + b2n own * 2 ^ 20 + (if lane = 34 then 3 else s.lnk.rate) * 2 ^ 22 +
    b2n s.lnk.train.isSome * 2 ^ 24 + b2n (!s.lnk.wide) * 2 ^ 25 + s.lnk.gen * 2 ^ 32 + (s.lnk.markerPos lane / 16384 % 256) * 2 ^ 40)

/-- The physical lanes of the frame link, or of the preview link, whose rate and marker period are its own (R233, R238). -/
def linkLanes (pvLane : Bool) : List Nat := if pvLane then [34] else List.range 34

/-- The scrambler of a lane after a run of IDLE blocks. -/
def idleRun : Nat → BitVec 58 → BitVec 58
  | 0, st => st
  | n + 1, st => idleRun n (scramble idleBlock.payload st).2

/-- The lanes of a link send IDLE blocks up to the position of their marker (R236 to R238); on the frame link they count as blocks of the stream. -/
def Lnk.fillTo (l : Lnk) (pvLane : Bool) : Lnk :=
  let mine := linkLanes pvLane
  let logical := if pvLane then [] else (l.map.take l.lanes).filter (fun p => decide (p < 35))
  { l with
    k := logical.foldl (fun n p => n + (16383 - l.pos.toList.getD p 0)) l.k
    scr := Vector.ofFn (fun i => if mine.contains i.val then idleRun (16383 - l.pos[i]) l.scr[i] else l.scr[i]),
    pos := Vector.ofFn (fun i => if mine.contains i.val then 16383 else l.pos[i]) }

/-- The markers of every lane of a link, sent at the position that is theirs. -/
def Dev.sendMarkers (s : Dev) (pvLane : Bool) : Dev :=
  let mine := linkLanes pvLane
  let ms := mine.map (fun n => (n, s.marker n))
  s.onLnk (fun l =>
    let l := ms.foldl (fun l m => l.onLane m.1 ⟨true, m.2⟩) { l.fillTo pvLane with sent := [] }
    { l with pos := Vector.ofFn (fun i => if mine.contains i.val then 0 else l.pos[i]), markers := ms,
             amSeq := if pvLane then l.amSeq else l.amSeq + 1, pvSeq := if pvLane then l.pvSeq + 1 else l.pvSeq })

/-- The stream goes on after the markers of a link (R238). -/
def Lnk.flush (l : Lnk) (pvLane : Bool) : Lnk :=
  let mine := fun (x : Nat × Block) => (linkLanes pvLane).contains x.1
  let l := if pvLane then l else l.behind.foldl Lnk.stream { l with behind := [] }
  (l.laneBehind.filter mine).foldl (fun l x => l.laneStream x.1 x.2) { l with laneBehind := l.laneBehind.filter (fun x => !mine x) }

/-- Has a training formed its map, so that only its marker is missing? -/
def Lnk.awaitsMarker (l : Lnk) : Bool :=
  match l.train with
  | some t => decide (t.stage = TrainStage.marker)
  | none => false

/-- A lane fails at run time (R263). -/
def Dev.laneFails (s : Dev) (n : Nat) : Dev :=
  let bitNo := if n = 34 then 35 else n
  if s.bt R.LNK_LANE_FAIL bitNo then s else
  let s := (s.wb R.LNK_LANE_FAIL bitNo true).log Ev.LINK_LANE_FAIL 0 0
  if n = 34 then s.onLnk (fun l => { l with pvUp := false })
  else if s.lnk.state = 2 ∨ s.lnk.awaitsMarker then s.onLnk (fun l => { l with remap := true, copyUp := l.copyUp && n != 33 }) else s

/-- The line monitors' verdicts at a marker at run time: a lane that fails four in a row fails (R263); the loss of lock has
effects of its own there (DEDUCED, log entry 181). -/
def Dev.monitorVerdicts (s : Dev) (lanes : List Nat) (ok : Nat) : Dev :=
  lanes.foldl (fun s n =>
    let c := if ok.testBit n then 0 else s.lnk.monFail.getD n 0 + 1
    let s := s.onLnk (fun l => { l with monFail := l.monFail.set n c })
    if c = 4 then s.laneFails n else s) s

/-- What a marker of the frame link brings: a training whose map is formed completes (step 5 of R258), or a runtime map takes effect (R263). -/
def Dev.markerMap (s : Dev) : Dev :=
  match s.lnk.train with
  | some t =>
    if t.stage = TrainStage.marker then
      ((s.onLnk (fun l => { l with train := none, pvUp := t.passed.testBit 34,
                                   copyUp := t.passed.testBit 33 && !l.forced.testBit 33 })).nextGen false).setLinkState 2
    else s
  | none =>
    if s.lnk.remap && s.lnk.cur.isNone && s.lnk.stalled.isNone && s.lnk.behind.isEmpty then
      match (s.onLnk (fun l => { l with remap := false })).formMap false with
      | (_, s) => s.nextGen true
    else s

/-- ALIGNMENT_MARKER of one link (R238): what it brings, the markers, the blocks that stood behind them, the verdicts of the line monitors. -/
def Dev.alignmentMarker (s : Dev) (pvLane : Bool) (ok : Nat) : Dev :=
  if s.lnk.idle then s else
  let s := ((if pvLane then s else s.markerMap).sendMarkers pvLane).onLnk (·.flush pvLane)
  if s.lnk.state = 2 then s.monitorVerdicts (linkLanes pvLane) ok else s

/-- A write of LNK.LANE_CMD (R263). -/
def Dev.laneCmd (s : Dev) (v : Word) : Dev :=
  let n := field v 5 0
  if 33 < n then s
  else match field v 35 34 with
    | 1 => (s.onLnk (fun l => { l with forced := l.forced ||| 2 ^ n })).laneFails n
    | 2 => (s.wb R.LNK_LANE_FAIL n false).onLnk (fun l => { l with forced := lanesLess l.forced (2 ^ n) })
    | _ => s

/-! ### Loss of the link PLL (R265, R266) -/

/-- LINK_HOLDOVER_EXPIRY (R265): 2 ms after the loss at tick `since`. -/
def Dev.holdoverExpiry (s : Dev) (since : Nat) : Dev :=
  if s.lkHoldover && s.lnk.state == 2 then (s.to (since + 8000000)).stopAndTrain else s

/-- LINK_COAST_LIMIT (R266): 10 ms after the loss at tick `since`. -/
def Dev.coastLimit (s : Dev) (since : Nat) : Dev :=
  if s.lkHoldover && !s.bt R.CLK_STATUS 30 then
    (((s.to (since + 40000000)).wb R.CLK_STATUS 30 true).lnkIdle 3).log Ev.LINK_DOWN 0 0
  else s

end Sys2Proof.Machine
end

