-- ==== Sys2Proof/Machine/Nvm.lean ====
section
/-! DEFINITION. The MRAM: where its slots and start records stand, the check words, and the boot log (R487, R488, R516, R519). The spec
gives the slots and the log their sizes and no addresses; the places here are the model's own (notes/assumptions/2.md). -/

namespace Sys2Proof.Machine

/-- Where a slot of a region stands: region 0 configuration, 1 defect map, 2 caddy (R518). -/
def slotBase (region slot : Nat) : Nat :=
  if region = 0 then slot * 0x100000 else if region = 1 then 0x200000 + slot * 0x140000 else 0x480000 + slot * 0x20000

/-- The bytes of a slot (R487, R516). -/
def slotSize (region : Nat) : Nat := if region = 0 then 0x100000 else if region = 1 then 0x140000 else 0x20000

/-- The base and size of the boot log. -/
def logBase : Nat := 0x4C0000
def logSize : Nat := 0x10000

/-- A byte of the MRAM that nothing has written. -/
def nvmZero : Nat → Byte := fun _ => 0

/-- Read bytes of the MRAM. -/
def Dev.nvmRead (s : Dev) (a n : Nat) : List Byte := Cells.getRun nvmZero s.nvm.bytes a n

/-- A number held least significant byte first in the MRAM. -/
def Dev.nvmNat (s : Dev) (a n : Nat) : Nat := bytesNat (s.nvmRead a n)

/-- Change the MRAM. -/
def Dev.onNvm (s : Dev) (f : Nvm → Nvm) : Dev := { s with nvm := f s.nvm }

/-- Write bytes of the MRAM. -/
def Dev.nvmWrite (s : Dev) (a : Nat) (l : List Byte) : Dev := s.onNvm (fun v => { v with bytes := Cells.putRun nvmZero v.bytes a l })

/-- Is a slot valid (R488): its format is 1, and its check word matches? -/
def Dev.slotValid (s : Dev) (region slot : Nat) : Bool :=
  let b := slotBase region slot
  let n := slotSize region
  s.nvmNat b 4 == 1 && s.nvmNat (b + n - 4) 4 == crc32Bytes (s.nvmRead b (n - 4))

/-- The sequence number of a slot. -/
def Dev.slotSeq (s : Dev) (region slot : Nat) : Nat := s.nvmNat (slotBase region slot + 4) 4

/-- The register that shows the state of a slot: VALID in bit 35, SEQUENCE in bits 31:0. -/
def slotReg (region slot : Nat) : Nat :=
  if region = 2 then R.CAL_SLOTs slot else R.CFG_SLOTs (2 * region + slot)

/-- The newer valid slot of a region, as the slot registers show it. -/
def Dev.newestSlot (s : Dev) (region : Nat) : Option Nat :=
  newerSlot (s.bt (slotReg region 0) 35) (s.bt (slotReg region 1) 35) (s.fd (slotReg region 0) 31 0) (s.fd (slotReg region 1) 31 0)

/-- The slot that a store or commit writes, and its sequence number, one above the newer slot's (R489, R518); with no valid slot the number
is free. -/
def Dev.storeSlot (s : Dev) (region : Nat) : Nat × Nat × Dev :=
  let slot := olderSlot (s.bt (slotReg region 0) 35) (s.bt (slotReg region 1) 35) (s.fd (slotReg region 0) 31 0) (s.fd (slotReg region 1) 31 0)
  match s.newestSlot region with
  | some k => (slot, (s.fd (slotReg region k) 31 0 + 1) % 2 ^ 32, s)
  | none => let (q, s) := s.drawNat (2 ^ 32); (slot, q, s)

/-- Begin writing a slot (R489): every byte but the check word is written, and the slot is not valid. -/
def Dev.beginSlot (s : Dev) (region slot : Nat) (l : List Byte) : Dev :=
  let n := slotSize region
  (s.nvmWrite (slotBase region slot) (l.take (n - 4))).wb (slotReg region slot) 35 false

/-- The check word is written after a good read-back (R489). -/
def Dev.endSlot (s : Dev) (region slot seq : Nat) (l : List Byte) : Dev :=
  let n := slotSize region
  let s := s.nvmWrite (slotBase region slot + n - 4) (l.drop (n - 4))
  s.wf (slotReg region slot) 35 0 (seq + 2 ^ 35)

/-- A slot image with its check word: the content, cut or filled with zeros to size. -/
def slotImage (region : Nat) (l : List Byte) : List Byte :=
  let n := slotSize region - 4
  let body := (l ++ List.replicate n 0).take n
  body ++ natBytes 4 (crc32Bytes body)

/-! ### The boot log -/

/-- The record of this start (R519). -/
def Dev.startRecord (s : Dev) : List Byte :=
  let b := s.boot
  let step := fun (k : Nat) => b.results.getD k (0, 0)
  let body := natBytes 4 s.nvm.startNo ++
    [BitVec.ofNat 8 (s.fd R.PWR_STATE 29 27), BitVec.ofNat 8 (b.slot.getD 0xFF), BitVec.ofNat 8 b.outcome,
     BitVec.ofNat 8 (s.fd R.PWR_STATE 26 24)] ++
    (List.range 12).flatMap (fun k => [BitVec.ofNat 8 (step k).1, BitVec.ofNat 8 (step k).2]) ++
    [BitVec.ofNat 8 b.shut.1, BitVec.ofNat 8 b.shut.2.1] ++ natBytes 2 b.shut.2.2.1 ++ [BitVec.ofNat 8 b.shut.2.2.2, 0, 0, 0] ++
    List.replicate 20 0
  body ++ natBytes 4 (crc32Bytes body)

/-- Write or rewrite the record of this start, from step 1 on (R519): the first write takes the place of the oldest record. -/
def Dev.writeRecord (s : Dev) : Dev :=
  if s.boot.results.length = 0 ∧ s.boot.step ≠ some 1 then s
  else match s.boot.recAt with
    | some k => s.nvmWrite (logBase + 512 + 64 * k) s.startRecord
    | none =>
      let k := s.nvm.ring % 1016
      { s with nvm := { s.nvm with ring := (k + 1) % 1016 }, boot := { s.boot with recAt := some k } }.nvmWrite (logBase + 512 + 64 * k) s.startRecord

/-- Change the fallback record: the older of its two copies is written (R489, R513, R519). -/
def Dev.onFallback (s : Dev) (g : Fallback → Fallback) : Dev :=
  let r := g s.nvm.fallback
  if r = s.nvm.fallback then s
  else
    let k := 1 - s.nvm.newer % 2
    { s with free := s.free + 1,
             nvm := { s.nvm with fallback := r, newer := k, copies := s.nvm.copies.set k (some s.free) (by omega) } }

end Sys2Proof.Machine
end

