-- ==== Sys2Proof/Machine/MonStart.lean ====
section
/-! DEFINITION. MON: starts of the monitor sequence (R461 to R463). -/

namespace Sys2Proof.Machine

/-- Change the monitor. -/
def Dev.onMon (s : Dev) (f : Mon → Mon) : Dev := { s with mon := f s.mon }

/-- Does MON take this event of a channel (R461)? -/
def Dev.monTakes (s : Dev) (c : Nat) (wrap : Bool) : Bool :=
  let r := s.rd R.MON_START
  bit r 35 && field r 19 16 == c && bit r 33 == wrap && (!bit r 34 || s.active 5 0)

/-- A match or wrap of a timer channel at tick t reaches MON (R461, R462). -/
def Dev.monStart (s : Dev) (c t : Nat) (wrap : Bool) : Dev :=
  if s.monTakes c wrap then
    match s.mon.phase with
    | .waiting _ => s.onMon (fun m => { m with phase := .started (t + 16 + 1000 * s.fd R.MON_START 11 0) })
    | _ => s.bump R.MON_START_MISSED
  else s

/-- A write of MON.START (R461): with EN and OWN one it claims the channel for feature 5. -/
def Dev.monStartWrite (s : Dev) (v : Word) : Dev :=
  if bit v 35 && bit v 34 then s.askClaim 5 0 [0x020 + field v 19 16] else s.releaseClaim 5 0

end Sys2Proof.Machine
end

