-- ==== Sys2Proof/Machine/Tim.lean ====
section
/-! DEFINITION. TIM: steps of the timebase, the sixteen channels, capture, and group starts (spec/11_timebase_and_timers.md). -/

namespace Sys2Proof.Machine

/-! ### Access -/

/-- Change TIM. -/
def Dev.onTim (s : Dev) (f : Tim → Tim) : Dev := { s with tim := f s.tim }

/-- A channel number as an index. -/
def tmIdx (n : Nat) : Fin 16 := ⟨n % 16, Nat.mod_lt _ (by decide)⟩

/-- A channel. -/
def Dev.tch (s : Dev) (c : Fin 16) : TimCh := s.tim.ch[c]

/-- Replace a channel. -/
def Dev.setTch (s : Dev) (c : Fin 16) (v : TimCh) : Dev := s.onTim (fun t => { t with ch := t.ch.set c.val v c.isLt })

/-- Words of a channel's group (R343). -/
def chReg (c : Fin 16) (f : Nat) : Nat := 0x7100 + 8 * c.val + f
def chCfg (c : Fin 16) : Nat := chReg c 0
def chInput (c : Fin 16) : Nat := chReg c 4
def chStat (c : Fin 16) : Nat := chReg c 7

/-- CFG.MODE of a channel. -/
def Dev.chMode (s : Dev) (c : Fin 16) : Nat := s.fd (chCfg c) 31 29

/-- The ticks of one step, 2^p (R344). -/
def Dev.chTicks (s : Dev) (c : Fin 16) : Nat := 2 ^ min (s.fd (chCfg c) 28 24) 20

/-- Does a thread hold the channel as feature 7: the owner code of the thread (R328)? -/
def Dev.chThread (s : Dev) (c : Nat) : Option Nat :=
  (s.claims.find? (fun k => k.feat == 7 && k.res.contains (0x020 + c))).map (fun k => k.inst / 16)

/-- STAT.HOLDER. -/
def Dev.chHolder (s : Dev) (c : Nat) : Nat :=
  match s.claims.find? (fun k => k.res.contains (0x020 + c)) with
  | some k => if k.feat = 7 then k.inst / 16 else 0x20 + k.feat
  | none => 0

/-- The strained input stands at GATE_LVL. -/
def Dev.gateOpen (s : Dev) (c : Fin 16) : Bool := (s.tch c).level == s.bt (chInput c) 17

/-! ### Written values taking effect -/

/-- The output takes a level at tick t, before inversion. -/
def TimCh.put (h : TimCh) (b : Bool) (t : Nat) : TimCh := if h.out = b then h else { h with out := b, outs := keepPast h.outs t h.out }

/-- A one-step pulse of OUT_ACT 3 that ends by tick t is over (R348). -/
def TimCh.pulseOver (h : TimCh) (t : Nat) : TimCh :=
  if h.pulseEnd ≠ 0 ∧ h.pulseEnd ≤ t then { h.put false h.pulseEnd with pulseEnd := 0 } else h

/-- The output is driven to a level at tick t, which ends a one-step pulse. -/
def TimCh.drive (h : TimCh) (b : Bool) (t : Nat) : TimCh := { (h.pulseOver t).put b t with pulseEnd := 0 }

/-- In PWM mode the output falls when the count is at or above CMP (R348). -/
def Dev.pwmFall (s : Dev) (c : Fin 16) (t : Nat) : Dev :=
  let h := s.tch c
  if s.chMode c = 1 ∧ h.cmp ≤ h.count then s.setTch c (h.drive false t) else s

/-- Has a written CMP counted as passed: (n − CMP) mod L is less than L / 2; a CMP not above PERIOD never while the count stands above PERIOD
(R347)? -/
def cmpPassed (n cmp period : Nat) : Bool :=
  !(decide (period < n) && decide (cmp ≤ period)) &&
    decide (2 * (((n : Int) - (cmp : Int)) % ((period + 1 : Nat) : Int)) < ((period + 1 : Nat) : Int))

/-- A written CMP takes effect (R347). -/
def Dev.applyCmp (s : Dev) (c : Fin 16) (w : Waiting) : Dev :=
  let h := s.tch c
  let s := s.setTch c { h with cmp := w.value, cmpWait := none }
  (if cmpPassed h.count w.value h.period then s.wb (chStat c) 29 true else s).pwmFall c w.at_

/-- A written CNT takes effect (R346). -/
def Dev.applyCnt (s : Dev) (c : Fin 16) (w : Waiting) : Dev :=
  (s.setTch c { s.tch c with count := w.value, cntWait := none }).pwmFall c w.at_

/-- Is a step due by tick b that has not been taken? It comes before what takes effect at b (R347). -/
def TimCh.stepFirst (h : TimCh) (b : Nat) : Bool :=
  match h.next with
  | some n => decide (n ≤ b)
  | none => false

/-- Written values of CNT and CMP whose tick boundary has come by tick t take effect, each after a step of that boundary. -/
def Dev.chLoads (s : Dev) (c : Fin 16) (t : Nat) : Dev :=
  let s := match (s.tch c).cntWait with
    | some w => if w.at_ ≤ t ∧ (s.tch c).stepFirst w.at_ = false then s.applyCnt c w else s
    | none => s
  match (s.tch c).cmpWait with
  | some w => if w.at_ ≤ t ∧ (s.tch c).stepFirst w.at_ = false then s.applyCmp c w else s
  | none => s

/-! ### Starting and stopping -/

/-- A channel starts at tick t with a count (R345, R348, R352, R358). -/
def Dev.chStart (s : Dev) (c : Fin 16) (t : Nat) (count : Option Nat) : Dev :=
  let s := (s.setTch c { s.tch c with next := none }).chLoads c t
  let h := s.tch c
  let n := count.getD h.count
  let gated := s.chMode c == 3
  let runs := !gated || s.gateOpen c
  let h := { h with
    running := true, waitGo := false, startAt := none, count := n, period := (s.rd (chReg c 1)).toNat, edges := 0,
    next := if runs then some (t + s.chTicks c) else none, left := s.chTicks c }
  (s.setTch c (h.drive (s.chMode c == 1 && decide (n < h.cmp)) t)).wb (chStat c) 28 false

/-- What waits for a tick boundary that has come by tick t takes effect: written values of CNT and CMP, and the start at the boundary after the
write of EN, with the registers as they stand there (R345 to R347). -/
def Dev.chSync (s : Dev) (c : Fin 16) (t : Nat) : Dev :=
  match (s.tch c).startAt with
  | some b => if b ≤ t then (s.chStart c b none).chLoads c t else s.chLoads c t
  | none => s.chLoads c t

/-- A ONESHOT stop (R345). -/
def Dev.chOneshot (s : Dev) (c : Fin 16) : Dev :=
  (s.setTch c { s.tch c with running := false, next := none }).wb (chStat c) 28 true

/-- EN becomes zero (R345, R348): the channel stops on the next tick boundary and keeps its count. -/
def Dev.chDisable (s : Dev) (c : Fin 16) : Dev :=
  s.setTch c ({ s.tch c with running := false, waitGo := false, startAt := none, next := none }.drive false (s.tick + 1))

/-- The output of a channel at tick t, before inversion: the one-step pulse of OUT_ACT 3 ends at its tick (R348). -/
def TimCh.shows (h : TimCh) (t : Nat) : Bool :=
  pastAt h.outs (h.out && (h.pulseEnd == 0 || decide (t < h.pulseEnd))) t

/-! ### Events and captures -/

/-- Post event 16 + c for tick t, once for each tick (R362). -/
def Dev.chPost (s : Dev) (c : Fin 16) (t : Nat) : Dev :=
  if (s.tch c).posted.contains t then s
  else (s.setTch c { s.tch c with posted := t :: (s.tch c).posted.filter (fun u => decide (t < u + 4)) }).post (16 + c.val) (s.stampOf t)

/-- Write the capture register (R354, R355). -/
def Dev.capWrite (s : Dev) (c : Fin 16) (st : Stamp) : Dev :=
  ((s.wr72 (chReg c 5) st).wb (chStat c) 32 true).stale (chStat c) 35

/-- A capture at tick t; `reading` when it meets a read of CAP_LO (R354, R355). -/
def Dev.capture (s : Dev) (c : Fin 16) (t : Nat) (reading : Bool) : Dev :=
  let s := s.pacedPulse c.val t
  let s := if s.bt (chCfg c) 6 then s.chPost c t else s
  let h := s.tch c
  match h.held with
  | some _ => s.wb (chStat c) 34 true
  | none => if reading then s.setTch c { h with held := some (s.stampOf t) } else s.capWrite c (s.stampOf t)

/-- The read of CAP_LO completes: a held capture is posted to the register (R355). -/
def Dev.capRelease (s : Dev) (c : Fin 16) : Dev :=
  match (s.tch c).held with
  | some st => (s.setTch c { s.tch c with held := none }).capWrite c st
  | none => s

/-! ### Steps -/

/-- The output after a step at tick t (R348); a one-step pulse that ends by then is over. -/
def stepOutput (mode act : Nat) (wrap isMatch oneshot : Bool) (count cmp t ticks : Nat) (h : TimCh) : TimCh :=
  let h := h.pulseOver t
  if mode = 1 then
    if wrap then h.drive (!oneshot && decide (0 < cmp)) t
    else if cmp ≤ count then h.drive false t else h
  else if mode = 0 ∧ isMatch then
    match act with
    | 0 => h.drive (!h.out) t
    | 1 => h.drive true t
    | 2 => h.drive false t
    | _ => { h.drive true t with pulseEnd := t + ticks }
  else h

/-- One step of a channel at tick t, without what it does to other channels (R344, R345, R348, R362); the flag says that it was a match. -/
def Dev.chStepAt (s : Dev) (c : Fin 16) (t : Nat) : Bool × Dev :=
  let s := s.chSync c (t - 1)
  let h := s.tch c
  let wrap := decide (h.period ≤ h.count)
  let n := if wrap then 0 else h.count + 1
  let isMatch := n == h.cmp
  let mode := s.chMode c
  let oneshot := s.bt (chCfg c) 0
  let ticks := s.chTicks c
  let h := { h with count := n, next := some (t + ticks), period := if wrap then (s.rd (chReg c 1)).toNat else h.period }
  let h := stepOutput mode (s.fd (chCfg c) 23 22) wrap isMatch oneshot n h.cmp t ticks h
  let s := s.setTch c h
  let s := if isMatch then s.wb (chStat c) 31 true else s
  let s := if wrap then s.wb (chStat c) 30 true else s
  let s := if (isMatch && s.bt (chCfg c) 4) || (wrap && s.bt (chCfg c) 5) then s.chPost c t else s
  let s := if oneshot && ((isMatch && (mode == 0 || mode == 2)) || (wrap && mode == 1)) then s.chOneshot c else s
  let s := if isMatch then s.timerFire c.val t else s
  let s := if isMatch then s.monStart c.val t false else s
  let s := if wrap then s.monStart c.val t true else s
  (isMatch, s.chSync c t)

/-! ### Inputs -/

/-- The gate of a GATED channel opens at tick t (R344, R353). -/
def Dev.gateOpens (s : Dev) (c : Fin 16) (t : Nat) : Dev :=
  let h := s.tch c
  if h.running && h.next.isNone then s.setTch c { h with next := some (t + h.left) } else s

/-- The gate closes at tick t, a step due by then taken: the rest of the prescaler is kept, and the close is a capture (R353); ONESHOT then
stops the channel (R345). -/
def Dev.gateCloses (s : Dev) (c : Fin 16) (t : Nat) (reading : Bool) : Dev :=
  let h := s.tch c
  if !h.running then s else
  let s := s.setTch c { h with next := none, left := match h.next with
    | some n => n - t
    | none => h.left }
  let s := s.capture c t reading
  if s.bt (chCfg c) 0 then s.chOneshot c else s

/-- Take a step of channel c that is due by tick t; `pulse` carries its match to the channels that select it. -/
def Dev.stepDue (s : Dev) (c : Fin 16) (t : Nat) (pulse : Dev → Nat → Nat → Dev) : Dev :=
  match (s.tch c).next with
  | some n =>
    if n ≤ t then
      let (m, s) := s.chStepAt c n
      if m then pulse s (32 + c.val) n else s
    else s
  | none => s

/-- A change of the input at tick t reaches the channel (R352, R353): an edge of a CAPTURE channel counts, one of a GATED channel opens or closes
the gate. -/
def Dev.inputLevel (s : Dev) (c : Fin 16) (t : Nat) (rising reading : Bool) (pulse : Dev → Nat → Nat → Dev) : Dev :=
  let s := s.chSync c t
  let closes := (s.tch c).running && s.chMode c == 3 && rising != s.bt (chInput c) 17
  let s := if closes then s.stepDue c t pulse else s
  let s := s.setTch c { s.tch c with level := rising }
  let h := s.tch c
  if !h.running then s
  else if s.chMode c = 2 then
    let kind := s.fd (chInput c) 19 18
    if kind = 2 ∨ (kind = 0 ∧ rising) ∨ (kind = 1 ∧ !rising) then
      if s.fd (chInput c) 27 20 ≤ h.edges then (s.setTch c { h with edges := 0 }).capture c t reading
      else s.setTch c { h with edges := h.edges + 1 }
    else s
  else if s.chMode c = 3 then
    if closes then s.gateCloses c t reading else s.gateOpens c t
  else s

/-- A one-tick pulse of an internal input at tick t reaches every channel that selects it (R350); `reading` names the channels whose CAP_LO is being
read (R355). A step that a gate close takes can send a further pulse, as often as there are channels. -/
def Dev.pulses : Nat → BitVec 16 → Dev → Nat → Nat → Dev
  | 0, _, s, _, _ => s
  | fuel + 1, reading, s, sel, t =>
    (List.finRange 16).foldl (fun (s : Dev) (c : Fin 16) =>
      if s.fd (chInput c) 5 0 = sel then
        (s.inputLevel c t true (reading.getLsbD c.val) (Dev.pulses fuel reading)).inputLevel c (t + 1) false (reading.getLsbD c.val)
          (Dev.pulses fuel reading)
      else s) s

/-- A pulse of an internal input reaches the channels that select it (R350). -/
def Dev.internalPulse (s : Dev) (reading : BitVec 16) (sel t : Nat) : Dev := Dev.pulses 17 reading s sel t

/-- An edge of the strained input at tick t reaches the channel (R351 to R353). -/
def Dev.inputEdge (s : Dev) (c : Fin 16) (t : Nat) (rising : Bool) (reading : BitVec 16) : Dev :=
  s.inputLevel c t rising (reading.getLsbD c.val) (fun s sel t => s.internalPulse reading sel t)

/-- CHANNEL_STEP (R344); a start that waits for its tick boundary comes before it. -/
def Dev.chStep (s : Dev) (c : Fin 16) (reading : BitVec 16) : Dev :=
  let s := match (s.tch c).startAt with
    | some b => s.chSync c b
    | none => s
  match (s.tch c).next with
  | some t => (s.to t).stepDue c t (fun s sel t => s.internalPulse reading sel t)
  | none => s

/-- A step due by the next tick boundary is taken before the channel stops or its input changes there (R345, R346). No read of CAP_LO is in progress while
the write that brings it is carried out (DESIGN CHOICE, notes/assumptions/210.md). -/
def Dev.chLastStep (s : Dev) (c : Fin 16) : Dev := s.stepDue c (s.tick + 1) (fun s sel t => s.internalPulse 0 sel t)

/-! ### Register writes -/

/-- The word a write would leave in CHc_CFG (R13, R343). -/
def cfgAfter (old v : Word) : Word :=
  let rw := fieldMask 35 8 ||| fieldMask 6 4 ||| fieldMask 0 0
  let w := (old &&& ~~~ rw) ||| (v &&& rw)
  if 4 ≤ field v 31 29 then setField w 31 29 (field old 31 29) else w

/-- Is a CHc_CFG write ignored with EV_TIM_BUSY (R346)? -/
def cfgBusy (old new : Word) : Bool :=
  bit old 35 && bit new 35 && (field old 31 29 != field new 31 29 || field old 28 24 != field new 28 24 ||
    bit old 33 != bit new 33 || bit old 32 != bit new 32)

/-- Is a CHc_CFG write ignored as a whole: it would leave PIN_EN with no pin (R359), or change a running channel (R346)? -/
def cfgIgnored (old v : Word) : Bool :=
  (bit (cfgAfter old v) 20 && !isPin (field (cfgAfter old v) 19 8)) || cfgBusy old (cfgAfter old v)

/-- The fields of CHc_CFG take a written word; a channel that the word disables first takes a step due by then (R343, R345, R346, R359). -/
def Dev.cfgFields (s : Dev) (c : Fin 16) (v : Word) : Dev :=
  let old := s.rd (chCfg c)
  if cfgIgnored old v then s
  else
    let s := s.chSync c s.tick
    let s := if bit (cfgAfter old v) 35 then s else s.chLastStep c
    let h := s.tch c
    (if bit old 21 = bit (cfgAfter old v) 21 then s
     else s.setTch c { h with invs := keepPast h.invs (s.tick + 1) (bit old 21) }).wr (chCfg c) (cfgAfter old v)

/-- What a write of CHc_CFG does besides, with `old` the word before (R345, R346, R359): a path's enable claims the channel and its pin, and the
channel starts or stops. EN written as one starts a channel that ONESHOT has stopped, whatever WAIT_GO holds. A thread's claim on the channel is settled
apart. -/
def Dev.cfgCommand (s : Dev) (p : Owner) (c : Fin 16) (old v : Word) : Dev :=
  let new := cfgAfter old v
  if bit new 20 && !isPin (field new 19 8) then s
  else if cfgBusy old new then s.log Ev.TIM_BUSY c.val p.code
  else
    let s := match p.thread? with
      | some _ => s
      | none =>
        if bit new 35 then
          (if bit new 32 then s else
            s.askClaim 4 c.val ((0x020 + c.val) :: (if bit new 20 then [field new 19 8] else [])))
        else s.releaseClaim 4 c.val
    if !bit new 35 then s.chDisable c
    else if !bit old 35 then
      (if bit new 34 then s.setTch c { s.tch c with waitGo := true }
       else s.setTch c { s.tch c with startAt := some (s.tick + 1) })
    else if s.bt (chStat c) 28 then s.setTch c { s.tch c with startAt := some (s.tick + 1) }
    else s

/-- A write of CHc_PERIOD: a start whose tick boundary has come took the word before (R346). -/
def Dev.periodWrite (s : Dev) (c : Fin 16) (v : Word) : Dev := (s.chSync c s.tick).wr (chReg c 1) v

/-- A write of CHc_CMP (R347). -/
def Dev.cmpWrite (s : Dev) (c : Fin 16) (v : Word) : Dev :=
  let s := (s.chSync c s.tick).wr (chReg c 2) v
  s.setTch c { s.tch c with cmpWait := some ⟨v.toNat, s.tick + 1⟩ }

/-- A write of CHc_CNT (R346). -/
def Dev.cntWrite (s : Dev) (c : Fin 16) (v : Word) : Dev :=
  let s := s.chSync c s.tick
  s.setTch c { s.tch c with cntWait := some ⟨v.toNat, s.tick + 1⟩ }

/-- Is it a value of INPUT.SEL (R350)? -/
def inputSel (n : Nat) : Bool :=
  decide (n ≤ 11) || (16 ≤ n && n ≤ 20) || (24 ≤ n && n ≤ 27) || (32 ≤ n && n ≤ 48)

/-- A write of CHc_INPUT (R346, R350): a change restarts the strainer and the edge count, and takes effect on the next tick boundary. An internal input is
low between its pulses; a pin input starts from the strained level of before (DESIGN CHOICE, notes/assumptions/211.md). -/
def Dev.inputWrite (s : Dev) (c : Fin 16) (v : Word) : Dev :=
  let old := s.rd (chInput c)
  let w := v &&& (fieldMask 35 17 ||| fieldMask 5 0)
  let w := if field v 19 18 = 3 then setField w 19 18 (field old 19 18) else w
  let w := if inputSel (field v 5 0) then w else setField w 5 0 (field old 5 0)
  if w = old then s else
  let s := ((s.chSync c s.tick).chLastStep c).wr (chInput c) w
  let s := s.setTch c { s.tch c with edges := 0, strained := 0, level := (s.tch c).level && decide (field w 5 0 < 32) }
  let h := s.tch c
  if h.running && s.chMode c == 3 then
    if s.gateOpen c then s.gateOpens c (s.tick + 1)
    else match h.next with
      | some n => s.setTch c { h with next := none, left := n - (s.tick + 1) }
      | none => s
  else s

/-- TIM.CHc_STAT (R355, R359), with the STALE flag of a path's copy. -/
def Dev.chStatWord (s : Dev) (c : Fin 16) (stale : Bool) : Word :=
  let h := s.tch c
  s.rd (chStat c) ||| place 35 35 (b2n stale) ||| place 33 33 (b2n h.held.isSome) ||| place 27 27 (b2n h.running) |||
    place 23 16 (s.chHolder c.val)

/-! ### Group starts -/

/-- An owner's copy of TIM.GSTART_TIME. -/
def Dev.gTime (s : Dev) (p : Owner) : Stamp := s.tim.times[p.idx]

/-- Write one word of an owner's copy. -/
def Dev.setGTime (s : Dev) (p : Owner) (hi : Bool) (v : Word) : Dev :=
  let t := s.gTime p
  let t' := if hi then joinWords (loWord t) v else joinWords v (hiWord t)
  s.onTim (fun x => { x with times := x.times.set p.idx.val t' p.idx.isLt })

/-- The group start that a write of TIM.GSTART asks for (R356, R357). -/
def Dev.gstartWrite (s : Dev) (p : Owner) (v : Word) : Dev :=
  let mask := field v 15 0
  let due := s.tick + 16
  if bit v 16 then
    if mask = 0 then s.onTim (fun t => { t with timed := none })
    else
      let T := s.gTime p
      let late := decide (T.toNat < s.tb.toNat + 16)
      s.onTim (fun t => { t with timed := some ⟨mask, p, due, some T, late⟩ })
  else if mask = 0 then s
  else s.onTim (fun t => { t with starts := t.starts ++ [⟨mask, p, due, none, false⟩] })

/-- The tick at which a group start falls, as time runs now (R342, R357). -/
def Dev.groupTick (s : Dev) (g : GroupStart) : Option Nat :=
  match g.time with
  | none => some g.due
  | some T =>
    if g.late then some g.due
    else if T.toNat ≤ s.tb.toNat then some s.tick
    else if s.tbRun then some (s.tick + (T.toNat - s.tb.toNat)) else none

/-- Does the group start reach the channel (R356)? -/
def Dev.groupStarts (s : Dev) (g : GroupStart) (c : Nat) : Bool :=
  g.mask.testBit c && s.bt (chCfg (tmIdx c)) 35 &&
  (match g.owner.thread? with
   | some _ => s.chThread c == some g.owner.code
   | none => (s.chThread c).isNone)

/-- The start counts of the channels (R358): in ascending order, none for a channel without STAG. -/
def staggerCounts (laps : List (Nat × Bool × Nat)) (n : Nat) : Nat → List (Nat × Nat)
  | k =>
    match laps with
    | [] => []
    | (c, stag, L) :: rest =>
      if stag then (c, (L - k * L / n) % L) :: staggerCounts rest n (k + 1) else (c, 0) :: staggerCounts rest n k

/-- Start the channels of a group at tick t (R356, R358). -/
def Dev.groupPerform (s : Dev) (g : GroupStart) (t : Nat) : Dev :=
  let cs := (List.range 16).filter (fun c => s.groupStarts g c)
  let laps := cs.map (fun c => (c, s.bt (chCfg (tmIdx c)) 33, (s.rd (chReg (tmIdx c) 1)).toNat + 1))
  let n := (laps.filter (fun x => x.2.1)).length
  (staggerCounts laps n 0).foldl (fun s x => s.chStart (tmIdx x.1) t (some x.2)) s

/-- GROUP_START (R357, R358): the earliest group start that waits. -/
def Dev.groupStart (s : Dev) : Dev :=
  let first := match s.tim.starts with
    | g :: _ => some (g, g.due)
    | [] => none
  let timed := match s.tim.timed with
    | some g => (s.groupTick g).map (fun t => (g, t))
    | none => none
  let doTimed := fun (g : GroupStart) (t : Nat) =>
    let s := (s.to t).onTim (fun x => { x with timed := none })
    let late := g.late || (match g.time with
      | some T => decide (T.toNat < s.tb.toNat)
      | none => false)
    (if late then s.wb R.TIM_GSTART 18 true else s).groupPerform g t
  let doFirst := fun (g : GroupStart) (t : Nat) =>
    ((s.to t).onTim (fun x => { x with starts := x.starts.drop 1 })).groupPerform g t
  match first, timed with
  | some (g, t), some (h, u) => if t ≤ u then doFirst g t else doTimed h u
  | some (g, t), none => doFirst g t
  | none, some (h, u) => doTimed h u
  | none, none => s

/-! ### The timebase -/

/-- LOAD of a write of TIM.TB_CTRL (R341); `aligned` while FAB aligns the timebase. -/
def Dev.tbLoad (s : Dev) (aligned : Bool) (v : Word) : Dev :=
  if !bit v 35 then s
  else if aligned then s.log Ev.TB_LOCKED 0 0
  else s.onTim (fun t => { t with steps := t.steps ++ [⟨s.tick + 16, some (s.rd72 R.TIM_TB_LOAD_LO), 0⟩] })

/-- TB_STEP (R341, R342, R372): the earliest step of the timebase that waits. -/
def Dev.tbStep (s : Dev) : Dev :=
  match s.tim.steps with
  | [] => s
  | x :: rest =>
    let s := (s.to x.due).onTim (fun t => { t with steps := rest })
    if !s.tbRun then s else
    let old := s.tb
    let new := match x.load with
      | some v => v
      | none => old + BitVec.ofInt 72 x.add
    let s := ({ s with tb := new }).wb R.TIM_TB_CTRL 34 true
    let s := s.onFrm (fun f => { f with frame := f.frame.map (fun o =>
      if s.tick < o.origin then { o with originStamp := o.originStamp + (new - old) } else o) })
    s.log Ev.TB_STEP (if x.load.isSome then 0 else 1) ((new - old).toNat % 2 ^ 36)

end Sys2Proof.Machine
end

