-- ==== Sys2Proof/Machine/Fab.lean ====
section
/-! DEFINITION. FAB: ports, heartbeats and alignment, master and parent, routes, scheduled triggers, messages
(spec/12_timing_fabric.md). The control relay stands in Machine/Relay.lean. -/

namespace Sys2Proof.Machine

/-! ### Access -/

/-- Change FAB. -/
def Dev.onFab (s : Dev) (f : Fab → Fab) : Dev := { s with fab := f s.fab }

/-- A port. -/
def Dev.port (s : Dev) (f : Fin 4) : FabPort := s.fab.ports[f]

/-- Replace a port. -/
def Dev.setPort (s : Dev) (f : Fin 4) (v : FabPort) : Dev := s.onFab (fun b => { b with ports := b.ports.set f.val v f.isLt })

/-- The device identifier. -/
def Dev.ownId (s : Dev) : Nat := s.fd R.FAB_ID 13 0

/-- FAB.CTRL.EN. -/
def Dev.fabOn (s : Dev) : Bool := s.bt R.FAB_CTRL 0

/-- Is the port UP? -/
def Dev.up (s : Dev) (f : Fin 4) : Bool := (s.port f).st == 3

/-- The UP ports but one. -/
def Dev.upPorts (s : Dev) (but : Option (Fin 4)) : List (Fin 4) := (List.finRange 4).filter (fun f => s.up f && some f != but)

/-! ### Packets -/

/-- The CRC-16 of R365 over bytes, each fed from its bit 0; bit 0 of the register holds the coefficient of x^15. -/
def crc16Bits : Nat → Nat → Nat → Nat
  | 0, _, r => r
  | n + 1, v, r => crc16Bits n (v / 2) (if (v + r) % 2 = 1 then (r / 2) ^^^ 0x8408 else r / 2)

/-- The CRC-16 of a packet's bytes from TYPE on. -/
def crc16 (l : List Byte) : Nat := l.foldl (fun r b => crc16Bits 8 b.toNat r) 0xFFFF

/-- A packet: TYPE, payload and CRC, the CRC's low byte first (R365). -/
def fabPacket (type : Nat) (payload : List Byte) : List Byte :=
  let body := BitVec.ofNat 8 type :: payload
  body ++ natBytes 2 (crc16 body)

/-- Words packed in pairs of nine bytes, a last single word in five (R366). -/
def packWords : List Word → List Byte
  | a :: b :: rest => packBytes a b ++ packWords rest
  | [a] => wordBytes a
  | [] => []

/-- A HEARTBEAT payload (R369). -/
def heartbeatBytes (h : Heartbeat) : List Byte :=
  natBytes 2 (h.src.toNat + 2 ^ 14 * b2n h.master + 2 ^ 15 * b2n h.aligned) ++ [h.seq] ++ natBytes 10 h.txTime.toNat ++ [h.rxSeq] ++
  natBytes 10 h.rxTime.toNat ++ natBytes 2 h.mId.toNat ++ [h.mPrio] ++ natBytes 2 h.epoch.toNat ++ natBytes 2 h.mSeq.toNat ++
  natBytes 2 h.hops.toNat

/-- Send a packet on a port. -/
def Dev.fabSendOn (s : Dev) (f : Fin 4) (l : List Byte) : Dev := s.setPort f { s.port f with last := l }

/-- Send a packet on every UP port but one. -/
def Dev.flood (s : Dev) (but : Option (Fin 4)) (l : List Byte) : Dev := (s.upPorts but).foldl (fun s f => s.fabSendOn f l) s

/-- A packet discarded for a CRC or code error (R364). -/
def Dev.fabBad (s : Dev) (f : Fin 4) : Dev := s.bump (R.FAB_PORTp_CRC_ERR f)

/-! ### Routes -/

/-- The best of the ports an identifier was heard through: lowest hops, then lowest port (R380). -/
def bestVia : List (Nat × Nat) → Option (Nat × Nat)
  | [] => none
  | x :: rest =>
    match bestVia rest with
    | none => some x
    | some y => if x.2 < y.2 ∨ (x.2 = y.2 ∧ x.1 ≤ y.1) then some x else some y

/-- The route to an identifier: port and hops. -/
def Dev.routeTo (s : Dev) (id : Nat) : Option (Nat × Nat) :=
  match s.fab.routes.find? (fun r => r.id == id) with
  | some r => bestVia r.via
  | none => none

/-- FAB.REACH.ECC: the largest hops held. -/
def Dev.ecc (s : Dev) : Nat := s.fab.routes.foldl (fun m r => max m (((bestVia r.via).map (·.2)).getD 0)) 0

/-- Has the session's gateway a route? The time since when it has none is kept for R394. -/
def Dev.sessionRoute (s : Dev) : Dev :=
  match s.fab.session with
  | none => s
  | some k =>
    let lost := match s.routeTo k.gateway, k.lostAt with
      | some _, _ => none
      | none, some t => some t
      | none, none => some s.tick
    s.onFab (fun b => { b with session := some { k with lostAt := lost } })

/-- The routes after a port left UP (R381). -/
def Dev.reroute (s : Dev) (f : Fin 4) : Dev :=
  let rer := s.bt R.FAB_CTRL 2
  let via := fun (r : Route) => (bestVia r.via).map (·.1) == some f.val
  let moved := rer && s.fab.routes.any (fun r => via r && r.via.any (fun x => x.1 != f.val))
  let keep := s.fab.routes.filterMap (fun r =>
    let rest := r.via.filter (fun x => x.1 != f.val)
    if via r && (!rer || rest.isEmpty) then none else some { r with via := rest })
  let s := s.onFab (fun b => { b with routes := keep })
  let s := if moved then (s.bump R.FAB_REROUTES).log Ev.FAB_REROUTE 0 0 else s
  s.sessionRoute

/-! ### Master and parent -/

/-- Is an announcement better: a newer epoch, then lower priority number, then lower identifier (R376, R377)? -/
def betterMaster (a b : Nat × Nat × Nat) : Bool :=
  let newer := fun (x y : Nat) => x != y && decide ((x + 2 ^ 14 - y) % 2 ^ 14 < 2 ^ 13)
  newer a.1 b.1 || (a.1 == b.1 && (decide (a.2.1 < b.2.1) || (a.2.1 == b.2.1 && decide (a.2.2 < b.2.2))))

/-- The announcements the device hears and makes: epoch, priority, identifier. -/
def Dev.announcements (s : Dev) : List (Nat × Nat × Nat) :=
  let own := s.fd R.FAB_CTRL 23 16
  (if s.fabOn && own != 255 then [(s.fab.epoch, own, s.ownId)] else []) ++
  (List.finRange 4).filterMap (fun f =>
    match (s.port f).hb with
    | some h =>
      if s.up f && h.mPrio != 255 && s.fab.lost != some (h.mId.toNat, h.epoch.toNat) && h.mId.toNat != s.ownId
      then some (h.epoch.toNat, h.mPrio.toNat, h.mId.toNat) else none
    | none => none)

/-- The best announcement. -/
def bestMaster : List (Nat × Nat × Nat) → Option (Nat × Nat × Nat)
  | [] => none
  | x :: rest =>
    match bestMaster rest with
    | none => some x
    | some y => if betterMaster y x then some y else some x

/-- Is the device the master? -/
def Dev.isMaster (s : Dev) : Bool :=
  match s.fab.master with
  | some (id, _) => s.fabOn && id == s.ownId
  | none => false

/-- The highest M_SEQ that UP neighbours announce for a master and epoch (R377). -/
def Dev.heardSeq (s : Dev) (id epoch : Nat) : Option Nat :=
  (List.finRange 4).foldl (fun (m : Option Nat) f =>
    match (s.port f).hb with
    | some h =>
      if s.up f && h.mId.toNat == id && h.epoch.toNat == epoch then
        (match m with
        | some x => if (h.mSeq.toNat + 2 ^ 16 - x) % 2 ^ 16 < 2 ^ 15 then some h.mSeq.toNat else some x
        | none => some h.mSeq.toNat)
      else m
    | none => m) none

/-- Follow the best master announced (R376). The highest M_SEQ heard is that of the master and epoch followed, so that it starts anew with either (R377). -/
def Dev.electMaster (s : Dev) : Dev :=
  let best := bestMaster s.announcements
  let new := best.map (fun x => (x.2.2, x.2.1))
  let changed := (new.map (·.1)) != (s.fab.master.map (·.1))
  let fresh := changed || (match best with
    | some x => x.1 != s.fab.epoch
    | none => false)
  let s := s.onFab (fun b => { b with
    master := new, epoch := (best.map (·.1)).getD b.epoch,
    mSeqAt := if fresh then s.tick else b.mSeqAt,
    mSeq := if fresh then (best.bind (fun x => s.heardSeq x.2.2 x.1)).getD b.mSeq else b.mSeq })
  if changed && new.isSome then (s.log Ev.FAB_MASTER_CHANGE 0 0).post 15 s.tb else s

/-- The ports whose neighbour follows the same master and epoch, with their hops (R378). -/
def Dev.parents (s : Dev) : List (Fin 4 × Nat) :=
  (List.finRange 4).filterMap (fun f =>
    match (s.port f).hb, s.fab.master with
    | some h, some (id, _) =>
      if s.up f && h.mId.toNat == id && h.epoch.toNat == s.fab.epoch then some (f, h.hops.toNat) else none
    | _, _ => none)

/-- The parent among the candidates: lowest hops, then lowest port. -/
def bestParent : List (Fin 4 × Nat) → Option (Fin 4 × Nat)
  | [] => none
  | x :: rest =>
    match bestParent rest with
    | none => some x
    | some y => if y.2 < x.2 then some y else some x

/-- Choose the parent, and enter or leave fabric holdover (R378, R379). ALIGNED stays through a change to a parent that is ALIGNED: only a
device without a parent has lost it (R373). -/
def Dev.chooseParent (s : Dev) : Dev :=
  let was := s.fab.parent
  let best := if s.isMaster then none else bestParent s.parents
  let new := best.map (·.1)
  let hops := if s.isMaster then 0 else (best.map (fun x => x.2 + 1)).getD s.fab.hops
  let far := decide (256 < hops) && best.isSome
  let s1 := if far && !s.fab.tooFar then s.log Ev.FAB_TOO_FAR 0 0 else s
  let s2 := s1.onFab (fun b => { b with parent := new, hops := hops, tooFar := far })
  let keeps := was.isSome && (match best with
    | some (f, _) => ((s.port f).hb.map (·.aligned)).getD false
    | none => false)
  let s3 := if new != was then s2.onFab (fun b => { b with thetas := [], good := 0, aligned := b.aligned && keeps }) else s2
  let s3 := if s3.isMaster then s3 else if new.isNone then s3.onFab (fun b => { b with aligned := false }) else s3
  let hold := s3.fabOn && !s3.isMaster && new.isNone
  if hold && s3.fab.holdSince.isNone then (s3.onFab (fun b => { b with holdSince := some s.tick })).log Ev.FAB_HOLDOVER 0 0
  else if hold then s3 else s3.onFab (fun b => { b with holdSince := none })

/-- Elect and choose again after a change of announcements. -/
def Dev.refollow (s : Dev) : Dev := s.electMaster.chooseParent

/-- Does FAB align the timebase (R341, R372, R378)? -/
def Dev.fabAligning (s : Dev) : Bool :=
  s.fabOn && s.bt R.FAB_CTRL 3 && s.fab.parent.isSome && !s.fab.tooFar

/-- Does the device read ALIGNED (R373)? -/
def Dev.fabAligned (s : Dev) : Bool := if s.isMaster then true else s.fab.aligned

/-! ### Port states -/

/-- Set a port's state; a change posts event 15 (R368). -/
def Dev.portState (s : Dev) (f : Fin 4) (st : Nat) : Dev :=
  if (s.port f).st = st then s else (s.setPort f { s.port f with st := st }).post 15 s.tb

/-- The TSTATE a port sends (R366). -/
def FabPort.tstate (p : FabPort) : Nat := if p.locked then (if p.partner then 2 else 1) else 0

/-- Send a TRAIN packet. -/
def Dev.sendTrain (s : Dev) (f : Fin 4) : Dev :=
  s.fabSendOn f (fabPacket 0x77 (natBytes 2 s.ownId ++ [BitVec.ofNat 8 (s.port f).tstate]))

/-- What leaving UP brings: neighbour, routes, master and parent (R378, R381); queued messages are lost (R388). -/
def Dev.leaveUp (s : Dev) (f : Fin 4) : Dev :=
  let s := s.setPort f { s.port f with hb := none, rx := none, queue := [], delays := [], sentAt := [] }
  (s.reroute f).refollow

/-- Begin a training of a port (R368): LOST stays LOST until UP; without a signal the port listens in NO_PARTNER. It sends
TRAIN packets from its start (R367). -/
def Dev.trainPort (s : Dev) (f : Fin 4) : Dev :=
  let p := s.port f
  let s := s.setPort f { p with locked := false, partner := false, gotTwo := false, trainAt := s.tick }
  let s := (if p.st = 4 then s else s.portState f (if p.signal then 2 else 1)).sendTrain f
  if p.st = 3 then s.leaveUp f else s

/-- A port is enabled or disabled by FAB.CTRL.EN, FAB.PORTp_CTRL.EN, or the power state (R367). -/
def Dev.portEnable (s : Dev) (f : Fin 4) (on : Bool) : Dev :=
  let p := s.port f
  if on then (if p.st = 0 then (s.portState f 1).sendTrain f else s)
  else if p.st = 0 then s
  else
    let s := (s.setPort f { p with signal := false, locked := false, partner := false, gotTwo := false }).portState f 0
    if p.st = 3 then s.leaveUp f else s

/-- FAB.CTRL or a port's EN was written: the enables in force. -/
def Dev.fabEnables (s : Dev) : Dev :=
  let s := (List.finRange 4).foldl (fun s f => s.portEnable f (s.fabOn && s.bt (R.FAB_PORTp_CTRL f) 0)) s
  if s.fabOn then s.refollow
  else s.onFab (fun b => { b with
    master := none, parent := none, aligned := false, holdSince := none, routes := [], thetas := [], good := 0, tooFar := false, lost := none })

/-- Every transmit lane idle (R368, R474, R515). -/
def Dev.fabIdle (s : Dev) : Dev := (List.finRange 4).foldl (fun s f => s.portEnable f false) s

/-- A signal is detected (R368). -/
def Dev.signalDetect (s : Dev) (f : Fin 4) : Dev :=
  let p := s.port f
  if p.st = 0 then s
  else
    let s := s.setPort f { p with signal := true }
    if p.st = 1 then s.trainPort f else s

/-- UP when TSTATE 2 was received and sent (R368). -/
def Dev.checkUp (s : Dev) (f : Fin 4) : Dev :=
  let p := s.port f
  if (p.st = 2 ∨ p.st = 4) ∧ p.gotTwo ∧ p.tstate = 2 then
    (s.setPort f { p with lastHb := s.tick, nextHb := s.tick, rx := none, sentAt := [], hb := none, delays := [] }).portState f 3
  else s

/-- The receiver gains code-group lock (R368). -/
def Dev.codeLock (s : Dev) (f : Fin 4) : Dev :=
  let p := s.port f
  if p.st = 2 ∨ p.st = 4 then ((s.setPort f { p with locked := true }).sendTrain f).checkUp f else s

/-- EV_FAB_DUP_ID, once per 16 ms (R382). -/
def Dev.dupId (s : Dev) : Dev :=
  match s.fab.dupAt with
  | some t => if s.tick < t + 64000000 then s else (s.onFab (fun b => { b with dupAt := some s.tick })).log Ev.FAB_DUP_ID 0 0
  | none => (s.onFab (fun b => { b with dupAt := some s.tick })).log Ev.FAB_DUP_ID 0 0

/-- A TRAIN packet (R368, R382): one with the device's own identifier takes a port of any state but DISABLED to FAILED. -/
def Dev.trainRx (s : Dev) (f : Fin 4) (src tstate : Nat) : Dev :=
  let p := s.port f
  if p.st = 0 then s
  else if src = s.ownId then
    let s := (s.dupId).portState f 5
    if p.st = 3 then s.leaveUp f else s
  else if p.st = 2 ∨ p.st = 4 then
    let s := s.setPort f { p with neigh := src, partner := decide (1 ≤ tstate), gotTwo := p.gotTwo || decide (tstate = 2) }
    (s.sendTrain f).checkUp f
  else s

/-- TRAIN_TIMEOUT passes (R368). -/
def Dev.trainTimeout (s : Dev) (f : Fin 4) : Dev :=
  let p := s.port f
  if p.st = 2 then
    let s := s.to (p.trainAt + (s.rd R.FAB_TRAIN_TIMEOUT).toNat)
    (s.portState f 5).log Ev.FAB_TRAIN_FAIL 0 0
  else s

/-- A write of RETRAIN (R368). -/
def Dev.portRetrain (s : Dev) (f : Fin 4) : Dev :=
  if (s.port f).st = 0 || s.dark then s else s.trainPort f

/-! ### Heartbeats -/

/-- The timebase in sixteenths of a tick, with a fraction. -/
def Dev.sixteenths (s : Dev) (frac : Nat) : Nat := s.tb.toNat * 16 + frac

/-- Send a heartbeat (R369). -/
def Dev.hbSend (s : Dev) (f : Fin 4) (frac : Nat) : Dev :=
  let p := s.port f
  if p.st ≠ 3 then s else
  let s := s.to p.nextHb
  let t := s.sixteenths frac
  let (mid, mprio) := s.fab.master.getD (s.ownId, 255)
  let h : Heartbeat := {
    src := BitVec.ofNat 14 s.ownId, master := s.isMaster, aligned := s.fabAligned, seq := BitVec.ofNat 8 p.seq,
    txTime := BitVec.ofNat 76 t, rxSeq := BitVec.ofNat 8 ((p.rx.map (·.1)).getD 0), rxTime := BitVec.ofNat 76 ((p.rx.map (·.2)).getD 0),
    mId := BitVec.ofNat 14 mid, mPrio := BitVec.ofNat 8 mprio, epoch := BitVec.ofNat 14 s.fab.epoch,
    mSeq := BitVec.ofNat 16 s.fab.mSeq, hops := BitVec.ofNat 16 s.fab.hops }
  let s := s.setPort f { p with seq := (p.seq + 1) % 256, nextHb := s.tick + 4000, sentAt := ((p.seq, t) :: p.sentAt).take 64 }
  s.fabSendOn f (fabPacket 0x11 (heartbeatBytes h))

/-- The difference of two 76-bit times, as a signed number. -/
def timeDiff (a b : Nat) : Int := sext 76 (a + 2 ^ 76 - b % 2 ^ 76)

/-- The sum of a list of numbers. -/
def sumInt (l : List Int) : Int := l.foldl (· + ·) 0

/-- An exchange with the parent (R371 to R373): its offset is filtered, and the timebase steps or is steered. -/
def Dev.exchange (s : Dev) (f : Fin 4) (x : Int) (parentAligned : Bool) : Dev :=
  if s.fab.parent ≠ some f then s else
  let asym := sext 16 (s.fd (R.FAB_PORTp_ASYM f) 15 0)
  let l := ((16 * x - asym) :: s.fab.thetas).take 64
  let n : Int := l.length
  let S := sumInt l
  let small := decide (10 * S.natAbs ≤ 4 * 512 * l.length)
  let big := decide (2 * 512 * l.length < S.natAbs)
  let good := if small then s.fab.good + 1 else 0
  let aligned := if !parentAligned || big then false else s.fab.aligned || decide (64 ≤ good)
  let s := s.onFab (fun b => { b with thetas := l, good := good, aligned := aligned })
  if !s.fabAligning then s
  else if 64 * 512 * l.length < S.natAbs then
    let back := -((2 * S + 512 * n) / (2 * 512 * n))
    (s.onTim (fun t => { t with steps := t.steps ++ [⟨s.tick + 16, none, back⟩] })).onFab (fun b => { b with thetas := [], good := 0 })
  else
    let (v, s) := s.drawNat 204801
    s.wf R.CLK_TB_STEER 17 0 (toField 18 ((v : Int) - 102400))

/-- A heartbeat arrives (R368, R371, R376 to R378). -/
def Dev.hbRx (s : Dev) (f : Fin 4) (h : Heartbeat) (frac : Nat) : Dev :=
  let p := s.port f
  if p.st ≠ 3 then s else
  let t2 := s.sixteenths frac
  let p := { p with lastHb := s.tick, neigh := h.src.toNat, rx := some (h.seq.toNat, t2), hb := some h }
  let s := s.setPort f p
  let newer := match s.fab.master with
    | some (id, _) => h.mId.toNat == id && h.epoch.toNat == s.fab.epoch && !s.isMaster &&
        (let d := (h.mSeq.toNat + 2 ^ 16 - s.fab.mSeq) % 2 ^ 16; d != 0 && decide (d < 2 ^ 15))
    | none => false
  let s := if newer then s.onFab (fun b => { b with mSeq := h.mSeq.toNat, mSeqAt := s.tick, lost := none }) else s
  let again := s.fab.master.isNone && s.fab.lost == some (h.mId.toNat, h.epoch.toNat) &&
    (let d := (h.mSeq.toNat + 2 ^ 16 - s.fab.mSeq) % 2 ^ 16; d != 0 && decide (d < 2 ^ 15))
  let s := if again then s.onFab (fun b => { b with lost := none }) else s
  let s := s.refollow
  let s := if s.fab.parent = some f ∧ h.aligned = false then s.onFab (fun b => { b with aligned := false }) else s
  match (s.port f).sentAt.find? (fun x => x.1 == h.rxSeq.toNat) with
  | none => s
  | some (_, t3) =>
    let a := timeDiff t2 h.txTime.toNat
    let b := timeDiff h.rxTime.toNat t3
    let s := s.setPort f { s.port f with delays := ((a + b) :: (s.port f).delays).take 64 }
    s.exchange f (a - b) h.aligned

/-- No heartbeat for 8 µs (R368): the port trains again at once. -/
def Dev.hbTimeout (s : Dev) (f : Fin 4) : Dev :=
  let p := s.port f
  if p.st ≠ 3 then s else
  let s := s.to (p.lastHb + 32000)
  let s := ((s.bump (R.FAB_PORTp_LOST f)).portState f 4).log Ev.FAB_PORT_LOST 0 0
  ((s.setPort f { s.port f with locked := false, partner := false, gotTwo := false, trainAt := s.tick }).sendTrain f).leaveUp f

/-- The master advances M_SEQ every 10 µs (R377). -/
def Dev.mSeqAdvance (s : Dev) : Dev :=
  if s.isMaster then
    let s := s.to (s.fab.mSeqAt + 40000)
    s.onFab (fun b => { b with mSeq := (b.mSeq + 1) % 2 ^ 16, mSeqAt := s.tick })
  else s

/-- M_SEQ has not advanced for 1 ms (R377): the master is lost, and an eligible device announces itself with the next epoch. -/
def Dev.masterLost (s : Dev) : Dev :=
  match s.fab.master with
  | some (id, _) =>
    if s.isMaster || !s.fabOn then s else
    let s := s.to (s.fab.mSeqAt + 4000000)
    let s := s.onFab (fun b => { b with lost := some (id, b.epoch) })
    let s := if s.fd R.FAB_CTRL 23 16 = 255 then s
      else s.onFab (fun b => { b with epoch := (b.epoch + 1) % 2 ^ 14, mSeq := 0 })
    s.refollow
  | none => s

/-! ### Presence -/

/-- A PRESENCE packet. -/
def presencePacket (src seq hops : Nat) : List Byte := fabPacket 0x22 (natBytes 2 src ++ [BitVec.ofNat 8 seq] ++ natBytes 2 hops)

/-- Flood the own PRESENCE every 16 ms (R380). -/
def Dev.presenceFlood (s : Dev) : Dev :=
  if !s.fabOn then s else
  let s := s.to s.fab.presenceDue
  let n := s.fab.presence + 1
  let s := s.onFab (fun b => { b with presence := n, presenceDue := s.tick + 64000000 })
  s.flood none (presencePacket s.ownId n 0)

/-- A PRESENCE packet arrives (R380, R382). A SRC_ID and SEQ forwarded is remembered for half the time in which SEQ comes round (DESIGN CHOICE, log entry
183). -/
def Dev.presenceRx (s : Dev) (f : Fin 4) (src seq hops : Nat) : Dev :=
  if !s.up f then s
  else if src = s.ownId then
    let ago := (s.fab.presence + 256 - seq) % 256
    if ago < min s.fab.presence 3 then s else s.dupId
  else
    let h := hops + 1
    let old := s.fab.routes.find? (fun r => r.id == src)
    let known := s.fab.flooded.filter (fun x => decide (s.tick < x.2.2 + 128 * 64000000))
    let first := !known.any (fun x => x.1 == src && x.2.1 == seq)
    let via := (f.val, h) :: ((old.map (·.via)).getD []).filter (fun x => x.1 != f.val)
    let r : Route := ⟨src, seq, s.tick, via⟩
    let s := s.onFab (fun b => { b with routes := b.routes.filter (fun x => x.id != src) ++ [r],
                                        flooded := if first then (src, seq, s.tick) :: known else known })
    let s := s.sessionRoute
    if first then s.flood (some f) (presencePacket src seq h) else s

/-- An identifier has not been heard for 48 ms (R380). -/
def Dev.routeExpiry (s : Dev) (id : Nat) : Dev :=
  match s.fab.routes.find? (fun r => r.id == id) with
  | some r =>
    let s := s.to (r.heard + 192000000)
    (s.onFab (fun b => { b with routes := b.routes.filter (fun x => x.id != id) })).sessionRoute
  | none => s

/-! ### Scheduled triggers -/

/-- The lead time (R383). -/
def Dev.leadTime (s : Dev) : Nat := s.ecc * 240 + 8000 + (s.rd R.FAB_LEAD_EXTRA).toNat

/-- A SCHED packet. -/
def schedPacket (issuer seq id : Nat) (T : Stamp) : List Byte :=
  fabPacket 0x33 (natBytes 2 issuer ++ [BitVec.ofNat 8 seq, BitVec.ofNat 8 id] ++ natBytes 9 T.toNat)

/-- Remember a trigger among the last 64 (R384). -/
def Dev.remember (s : Dev) (issuer seq : Nat) : Dev := s.onFab (fun b => { b with seen := ((issuer, seq) :: b.seen).take 64 })

/-- Hand a trigger over to the pending table (R385). -/
def Dev.handOver (s : Dev) (id : Nat) (T : Stamp) : Dev :=
  if s.fab.table.length < 32 then (s.onFab (fun b => { b with table := b.table ++ [⟨id, T⟩] })).post 33 s.tb
  else (s.bump R.FAB_SCHED_DROPPED).log Ev.FAB_SCHED_DROP 0 0

/-- Judge a scheduled trigger and flood it when accepted (R383, R384). -/
def Dev.schedIssue (s : Dev) (id : Nat) (T : Stamp) : Nat × Dev :=
  let d := T.toNat - s.tb.toNat
  if d ≤ s.leadTime then (0, s)
  else if !s.fabAligned || 2 ^ 36 < d || !s.fabOn || 32 ≤ s.fab.table.length then (2, s)
  else
    let seq := s.fab.schedSeq
    let s := (s.onFab (fun b => { b with schedSeq := (seq + 1) % 256 })).remember s.ownId seq
    (1, (s.flood none (schedPacket s.ownId seq id T)).handOver id T)

/-- A SCHED packet arrives (R384 to R386). -/
def Dev.schedRx (s : Dev) (f : Fin 4) (issuer seq id : Nat) (T : Stamp) : Dev :=
  if !s.up f || s.fab.seen.contains (issuer, seq) then s else
  let s := (s.remember issuer seq).flood (some f) (schedPacket issuer seq id T)
  if T.toNat < s.tb.toNat then
    ((s.bump R.FAB_SCHED_LATE).log Ev.FAB_SCHED_LATE 0 0).fabricFire id (s.tick - (s.tb.toNat - T.toNat)) T true
  else s.handOver id T

/-- The trigger-out pins of a trigger rise (R387). -/
def Dev.trigOuts (s : Dev) (id : Nat) : Dev :=
  (List.finRange 4).foldl (fun (s : Dev) (k : Fin 4) =>
    let r := s.rd (R.FAB_TRIGOUTk k)
    if bit r 35 && field r 19 12 == id && s.granted 0 k then
      let till := s.tick + field r 33 20 + 1
      s.onFab (fun b =>
        { b with trigEnd := b.trigEnd.set k.val (some till) k.isLt, trigTo := b.trigTo.set k.val till k.isLt,
                 trigPast := b.trigPast.set k.val (keepPast b.trigPast[k] s.tick (b.trigFrom[k], b.trigTo[k])) k.isLt,
                 trigFrom := if pulseRuns b.trigEnd[k] s.tick then b.trigFrom else b.trigFrom.set k.val s.tick k.isLt })
    else s) s

/-- The earliest of the pending triggers. -/
def firstTrigger : List Trigger → Option Trigger
  | [] => none
  | x :: rest =>
    match firstTrigger rest with
    | none => some x
    | some y => if y.time.toNat < x.time.toNat then some y else some x

/-- The earliest pending trigger fires at T, or at once when a step has passed T (R385, R386). -/
def Dev.triggerFire (s : Dev) : Dev :=
  match firstTrigger s.fab.table with
  | none => s
  | some x =>
    if s.tb.toNat < x.time.toNat && !s.tbRun then s else
    let s := s.to (s.tick + (x.time.toNat - s.tb.toNat))
    let s := s.onFab (fun b => { b with table := b.table.erase x })
    (s.fabricFire x.id s.tick x.time false).trigOuts x.id

/-- The pulse of a trigger-out is over: it stops at once, when it has not ended. -/
def Dev.trigoutQuiet (s : Dev) (k : Fin 4) : Dev :=
  s.onFab (fun b => { b with trigEnd := b.trigEnd.set k.val none k.isLt, trigTo := b.trigTo.set k.val (min b.trigTo[k] s.tick) k.isLt,
                             trigPast := b.trigPast.set k.val (keepPast b.trigPast[k] s.tick (b.trigFrom[k], b.trigTo[k])) k.isLt })

/-- A write of FAB.TRIGOUTk (R387). A feature that was not granted shows no pulse of a trigger before. -/
def Dev.trigoutWrite (s : Dev) (k : Fin 4) (v : Word) : Dev :=
  if bit v 35 then
    if isGpio (field v 11 0) then
      ((if s.granted 0 k then s else s.trigoutQuiet k).plainWrite (R.FAB_TRIGOUTk k) v).askClaim 0 k.val [field v 11 0]
    else s
  else ((s.plainWrite (R.FAB_TRIGOUTk k) v).releaseClaim 0 k.val).trigoutQuiet k

/-- A trigger-out pin falls (R387). -/
def Dev.trigoutEnd (s : Dev) (k : Fin 4) : Dev :=
  match s.fab.trigEnd[k] with
  | some t => (s.to t).onFab (fun b => { b with trigEnd := b.trigEnd.set k.val none k.isLt })
  | none => s

/-! ### Messages -/

/-- A MESSAGE packet (R366). -/
def messagePacket (dst src : Nat) (ws : List Word) : List Byte :=
  fabPacket 0x44 (natBytes 2 dst ++ natBytes 2 src ++ [BitVec.ofNat 8 (ws.length - 1)] ++ packWords ws)

/-- Put a packet into a port's send queue. -/
def Dev.enqueue (s : Dev) (f : Fin 4) (l : List Byte) : Dev := s.setPort f { s.port f with queue := (s.port f).queue ++ [l] }

/-- A port number as an index. -/
def fabIdx (n : Nat) : Fin 4 := ⟨n % 4, Nat.mod_lt _ (by decide)⟩

/-- The ports a message takes: its route, or every UP port but the one it came by (R388); none: it has no route. -/
def Dev.messagePorts (s : Dev) (dst : Nat) (but : Option (Fin 4)) : Option (List (Fin 4)) :=
  if dst = 0xFFFF then some (s.upPorts but)
  else (s.routeTo dst).map (fun r => [fabIdx r.1])

/-- fab.send offers a message (R388): the flag says that it was accepted. -/
def Dev.fabSend (s : Dev) (dst : Nat) (ws : List Word) : Bool × Dev :=
  match s.messagePorts dst none with
  | some ps =>
    if s.fabOn && ps.all (fun f => decide ((s.port f).queue.length < 4)) then
      (true, ps.foldl (fun s f => s.enqueue f (messagePacket dst s.ownId ws)) s)
    else (false, s)
  | none => (false, s)

/-- The oldest message of a port has left (R388). -/
def Dev.messageSent (s : Dev) (f : Fin 4) : Dev :=
  let p := s.port f
  match p.queue with
  | l :: rest => s.setPort f { p with queue := rest, last := l }
  | [] => s

/-- A message arrives (R388, R389): for this device it enters the queue; for another it goes on along its route. -/
def Dev.messageRx (s : Dev) (f : Fin 4) (dst src : Nat) (ws : List Word) : Dev :=
  if !s.up f then s else
  let s := if dst = s.ownId ∨ dst = 0xFFFF then
      (if s.fab.rx.length < 8 then (s.onFab (fun b => { b with rx := b.rx ++ [⟨src, ws⟩] })).post 32 s.tb
       else (s.bump R.FAB_RX_DROPPED).log Ev.FAB_RX_DROP 0 0)
    else s
  if dst = s.ownId then s
  else match s.messagePorts dst (some f) with
    | some ps => ps.foldl (fun s g => if (s.port g).queue.length < 4 then s.enqueue g (messagePacket dst src ws) else s) s
    | none => s

/-- A write of FAB.RX_POP (R389). -/
def Dev.rxPop (s : Dev) (v : Word) : Dev := if bit v 0 then s.onFab (fun b => { b with rx := b.rx.drop 1 }) else s

/-! ### Register views -/

/-- FAB.STATUS. -/
def Dev.fabStatus (s : Dev) : Word :=
  let b := s.fab
  place 35 35 (b2n s.fabAligned) ||| place 34 34 (b2n s.isMaster) ||| place 33 33 (b2n b.holdSince.isSome) ||| place 32 32 (b2n b.tooFar) |||
    place 31 30 ((b.parent.map (·.val)).getD 0) ||| place 29 29 (b2n b.parent.isSome) ||| place 8 0 b.hops

/-- FAB.MASTER. -/
def Dev.fabMaster (s : Dev) : Word :=
  let m := s.fab.master.getD (0, 0)
  place 35 28 m.2 ||| place 27 14 m.1 ||| place 13 0 s.fab.epoch

/-- FAB.REACH. -/
def Dev.fabReach (s : Dev) : Word := place 23 9 (s.fab.routes.length + 1) ||| place 8 0 s.ecc

/-- FAB.OFFSET: the mean offset in sixteenths of a tick, and the holdover uncertainty in ticks, 4 ticks per 4,000,000. -/
def Dev.fabOffset (s : Dev) : Word :=
  let l := s.fab.thetas
  let n : Int := l.length
  let off := if l.isEmpty then 0 else (2 * sumInt l + 32 * n) / (2 * 32 * n)
  let unc := match s.fab.holdSince with
    | some t => min ((s.tick - t) / 1000000) 0xFFFF
    | none => 0
  place 35 20 unc ||| place 19 0 (toField 20 off)

/-- FAB.PORTp_DELAY: the mean of d in sixteenths of a tick. -/
def Dev.portDelay (s : Dev) (f : Fin 4) : Word :=
  let l := (s.port f).delays
  let n : Int := l.length
  if l.isEmpty then 0 else place 19 0 (toField 20 ((sumInt l + n) / (2 * n)))

end Sys2Proof.Machine
end

