-- ==== Sys2Proof/Machine/Pins.lean ====
section
/-! DEFINITION. The GPIO and STROBE pins: the level a feature gives its pin, which feature drives a pin, the level at the land, and the pin
inputs of the timer channels with their strainer (R29, R30, R73, R289, R348 to R351, R360, R361, R387). Levels are taken at the tick, before the
output delay of the feature (R30). -/

namespace Sys2Proof.Machine

/-! ### Levels -/

/-- The exposure-active output at tick u (R73): high while a steep of an entry of ENTRY_MASK runs. -/
def Dev.strobeAt (s : Dev) (u : Nat) : Bool :=
  let m := pastAt s.stp.strobePast (s.fd R.STP_STROBE_ACT 10 3) u
  (List.finRange 8).any (fun n =>
    let e := s.en n
    let x := pastAt e.past (e.startedAt, e.endAt) u
    m.testBit n.val && decide (x.1 ≤ u) && decide (u < x.2))

/-- Is a pulse output high at tick u: the latest pulse from `from_` to `to_`, those before it in `past`? -/
def pulseHigh (past : List (Nat × Nat × Nat)) (from_ to_ u : Nat) : Bool :=
  let x := pastAt past (from_, to_) u
  decide (x.1 ≤ u) && decide (u < x.2)

/-- The level that an instance of a feature gives the pin it drives, at tick u. -/
def Dev.featureLevel (s : Dev) (feat inst u : Nat) : Bool :=
  let k := fabIdx inst
  if feat = 0 then pulseHigh s.fab.trigPast[k] s.fab.trigFrom[k] s.fab.trigTo[k] u
  else if feat = 1 then s.strobeAt u
  else if feat = 4 then
    let h := (s.chSync (tmIdx inst) s.tick).tch (tmIdx inst)
    h.shows u != pastAt h.invs (s.bt (chCfg (tmIdx inst)) 21) u
  else pulseHigh s.seq.pulsePast[k] s.seq.pulseFrom[k] s.seq.pulseTo[k] u

/-- Who held and drove the pins at tick u. -/
def Dev.driveAt (s : Dev) (u : Nat) : Drive := pastAt s.drives ⟨s.claims, s.handovers, s.pinLow⟩ u

/-- The feature instance that drives a pin at tick u: before the boundary of a handover the loser, else the holder once it is active (R29, R30). -/
def Drive.user (d : Drive) (res u : Nat) : Option (Nat × Nat) :=
  match d.handovers.find? (fun h => h.res == res && (h.due.map (fun t => decide (u < t))).getD true) with
  | some h => some (h.loseFeat, h.loseInst)
  | none =>
    match d.claims.find? (fun c => c.res.contains res) with
    | some c => if d.handovers.any (fun h => h.winFeat == c.feat && h.winInst == c.inst && (h.due.map (fun t => decide (u < t))).getD true) then none
      else some (c.feat, c.inst)
    | none => none

/-- Is the pin driven low for the one tick u that begins at a handover (R30)? -/
def Drive.lowAt (d : Drive) (res u : Nat) : Bool :=
  d.low.any (fun x => x.1 == res && x.2 == u + 1) || d.handovers.any (fun h => h.res == res && h.due == some u)

/-- The level the device drives on a pin at tick u: low for the tick after a handover (R30), then its driver's; a pin that no feature holds is
driven low when it is a STROBE pin, and not driven when it is a GPIO pin (R361). -/
def Dev.pinLevel (s : Dev) (res u : Nat) : Option Bool :=
  let d := s.driveAt u
  if d.lowAt res u then some false
  else match d.user res u with
    | some x => some (s.featureLevel x.1 x.2 u)
    | none => if isGpio res then none else some false

/-! ### Pin inputs of the timer channels -/

/-- The pin that a value of INPUT.SEL names, when a feature of the device can drive it (R350). -/
def inputPin (sel : Nat) : Option Nat := if sel ≤ 11 then some sel else if 16 ≤ sel ∧ sel ≤ 19 then some sel else none

/-- The level a channel's sampler sees at tick t: at a land that the device drives, the level driven 16 ticks (4 ns) before, by the delays of R350;
at any other land the level `outside`. -/
def Dev.landLevel (s : Dev) (sel t : Nat) (outside : Bool) : Bool :=
  match inputPin sel with
  | some res => (s.pinLevel res (t - 16)).getD outside
  | none => outside

/-- The next tick boundary of the sample grid at or after `t` (R350). -/
def Dev.gridTick (s : Dev) (t : Nat) : Nat := t + (4 - (t - s.tim.gridAt) % 4) % 4

/-- One sample of a channel's pin input (R350, R351): the level changes with the S-th consecutive sample of the other level, and the edge belongs to
the tick of that sample. Internal inputs bypass the strainer, and before the timebase runs there is no sample. -/
def Dev.strainSample (s : Dev) (c : Fin 16) (outside : Bool) (reading : BitVec 16) : Dev :=
  let sel := s.fd (chInput c) 5 0
  if !s.tbRun || decide (32 ≤ sel) then s else
  let t := s.gridTick (match (s.tch c).sampledAt with
    | some u => max s.tick (u + 1)
    | none => s.tick)
  let s := (s.to t).chSync c t
  let h := s.tch c
  let level := s.landLevel sel t outside
  let run := if level = h.level then 0 else if h.sampledAt = some (t - 4) then h.strained + 1 else 1
  if run ≠ 0 ∧ max 1 (s.fd (chInput c) 35 28) ≤ run then
    (s.setTch c { h with strained := 0, sampledAt := some t }).inputEdge c t level reading
  else s.setTch c { h with strained := run, sampledAt := some t }

end Sys2Proof.Machine
end

