-- ==== Sys2Proof/Machine/Mon.lean ====
section
/-! DEFINITION. MON's sequence and the kettle (spec/16_monitor_converters_and_kettle.md). -/

namespace Sys2Proof.Machine

/-! ### The kettle -/

/-- Change the kettle. -/
def Dev.onKtl (s : Dev) (f : Ktl → Ktl) : Dev := { s with ktl := f s.ktl }

/-- The rate of a diode in 1/64 °C/s (R468): zero until 16 usable readings exist. -/
def Diode.rate (d : Diode) : Int :=
  match d.reads[0]?, d.reads[15]? with
  | some x, some y => Int.tdiv (((x.1 : Int) - (y.1 : Int)) * 4000000000) ((x.2 : Int) - (y.2 : Int))
  | _, _ => 0

/-- Is a diode usable at this tick (R468)? -/
def Diode.usable (d : Diode) (now stale : Nat) : Bool :=
  d.good && (match d.reads[0]? with
    | some (_, t) => decide (now ≤ t + stale)
    | none => false)

/-- The temperature code of a diode's newest usable reading. -/
def Diode.temp (d : Diode) : Nat := ((d.reads[0]?).map (·.1)).getD 0

/-- A rate as it shows in a register of 18 bits; beyond the field it is free. -/
def Dev.rateField (s : Dev) (r : Int) : Nat × Dev :=
  if -131072 ≤ r ∧ r ≤ 131071 then (toField 18 r, s) else s.drawNat 262144

/-- The state that the kettle wants (R470): 0 NORMAL, 1 WARN, 2 THROTTLE, 3 SHUTDOWN. -/
def ktlWant (state tq : Nat) (rr : Int) (rw rt wt : Nat) : Nat :=
  if 10816 ≤ tq then 3
  else if rr > (rt : Int) ∨ (state = 2 ∧ rr > (rt : Int) - 32) then 2
  else if rr > (rw : Int) ∨ wt ≤ tq ∨ ((state = 1 ∨ state = 2) ∧ ¬ (rr ≤ (rw : Int) - 32 ∧ (tq : Int) ≤ (wt : Int) - 128)) then 1
  else 0

/-- The proportional cut of SERVICE (R472). -/
def ktlProp (gain maxCut rt : Nat) (rr : Int) : Nat :=
  (min ((min maxCut 240 : Nat) : Int) (max 0 (((gain : Int) * (rr - (rt : Int))) / 64))).toNat

/-- The state becomes SHUTDOWN (R474): pumps, banks, pours and lanes stop, and the shutdown is latched. -/
def Dev.ktlShutdown (s : Dev) (diode tq : Nat) : Dev :=
  let s := s.onStp (fun t => { t with pumpReady := false, pumpStopping := none })
  let s := s.onRdo (fun r => { r with pour := none, serving := none })
  let s := (s.lnkIdle 0).fabIdle
  let s := { s with boot := { s.boot with step := none, shut := (1, diode, tq, 0), outcome := 4 } }
  let s := (s.wf R.PWR_STATE 35 33 4).wb R.PWR_STATE 30 true
  let s := (s.wb R.PWR_FAULT 1 true).alertClass 0
  (s.log Ev.KTL_CRIT 0 0).writeRecord

/-- Enter a state (R470, R473). -/
def Dev.ktlEnter (s : Dev) (new diode tq : Nat) : Dev :=
  let old := s.ktl.state
  let service := s.bt R.KTL_CTRL 0
  let s := s.onKtl (fun k => { k with state := new, count := 0 })
  let s := if old = 2 then s.onKtl (fun k => { k with slow := false, enforced := false, graceEnd := none, prop := 0 }) else s
  let s := if new = 2 ∧ !service then
      s.onKtl (fun k => { k with slow := true, graceEnd := some (s.tick + (s.rd R.KTL_GRACE).toNat) }) else s
  let s := (s.post 12 s.tb).log Ev.KTL_STATE old new
  if new = 3 then s.ktlShutdown diode tq else s

/-- Count towards a wanted state (R470). -/
def Dev.ktlCount (s : Dev) (want diode tq : Nat) : Dev :=
  let k := s.ktl
  if want = k.state then s.onKtl (fun k => { k with count := 0 })
  else
    let n := if want = k.cand then k.count + 1 else 1
    let s := s.onKtl (fun k => { k with cand := want, count := n })
    if n = 4 then s.ktlEnter want diode tq else s

/-- The usable diodes: number, temperature code, rate. -/
def Dev.usableDiodes (s : Dev) : List (Nat × Nat × Int) :=
  let stale := (s.rd R.KTL_STALE).toNat
  (List.finRange 12).filterMap (fun d =>
    let x : Diode := s.ktl.diodes[d]
    if x.usable s.tick stale then some (d.val, x.temp, x.rate) else none)

/-- The hottest of the usable diodes, the lowest number first, and its code. -/
def hottest : List (Nat × Nat × Int) → Option (Nat × Nat)
  | [] => none
  | (d, t, _) :: rest =>
    match hottest rest with
    | none => some (d, t)
    | some y => if t < y.2 then some y else some (d, t)

/-- Show the diodes in KTL.DIODEd. -/
def Dev.showDiodes (s : Dev) : Dev :=
  let stale := (s.rd R.KTL_STALE).toNat
  (List.finRange 12).foldl (fun (s : Dev) (d : Fin 12) =>
    let x : Diode := s.ktl.diodes[d]
    let (r, s) := s.rateField x.rate
    s.wr (R.KTL_DIODEd d) (place 35 35 (b2n (x.usable s.tick stale)) ||| place 31 14 r ||| place 13 0 x.temp)) s

/-- An evaluation of the kettle (R469 to R473). -/
def Dev.ktlEvaluate (s : Dev) : Dev :=
  let l := s.usableDiodes
  let rr := l.foldl (fun m x => max m x.2.2) ((l.head?.map (fun x => x.2.2)).getD 0)
  let s := s.showDiodes.onKtl (fun k => { k with usable := l.length, lastEval := s.tick })
  let s : Dev := match hottest l with
    | some (d, tq) =>
      let (r, s) := s.rateField rr
      s.wr R.KTL_HOTTEST (place 35 32 d ||| place 31 14 r ||| place 13 0 tq)
    | none => s
  let rt := s.fd R.KTL_LIMITS 25 16
  let s : Dev := if l.length < 6 then
      let s := if s.ktl.blind then s else (s.onKtl (fun k => { k with blind := true })).log Ev.KTL_BLIND 0 0
      s.alertClass 1
    else
      let (d, tq) := (hottest l).getD (0, 0)
      let s := s.onKtl (fun k => { k with blind := false })
      s.ktlCount (ktlWant s.ktl.state tq rr (s.fd R.KTL_LIMITS 35 26) rt (s.fd R.KTL_LIMITS 13 0)) d tq
  let s := if s.ktl.state = 1 ∨ s.ktl.state = 2 then s.alertClass 1 else s
  if s.ktl.state = 2 ∧ s.bt R.KTL_CTRL 0 ∧ !l.isEmpty then
    s.onKtl (fun k => { k with prop := ktlProp (s.fd R.KTL_THROTTLE 23 16) (s.fd R.KTL_THROTTLE 15 8) rt rr })
  else s

/-- KTL.STATUS. -/
def Dev.ktlStatus (s : Dev) : Word :=
  let k := s.ktl
  place 35 34 k.state ||| place 33 33 (b2n (s.bt R.KTL_CTRL 0)) ||| place 32 32 (b2n k.slow) ||| place 31 31 (b2n (k.enforced || k.blind)) |||
    place 30 30 (b2n k.blind) ||| place 29 26 k.usable ||| place 25 24 k.cand ||| place 23 21 k.count ||| place 7 0 s.ktlCut

/-- No round has ended for KTL.STALE (R469). -/
def Dev.ktlStale (s : Dev) : Dev := (s.to (s.ktl.lastEval + (s.rd R.KTL_STALE).toNat)).ktlEvaluate

/-- The grace time ends (R473). -/
def Dev.ktlGrace (s : Dev) : Dev :=
  match s.ktl.graceEnd with
  | some t =>
    let s := (s.to t).onKtl (fun k => { k with graceEnd := none })
    if s.ktl.state = 2 then (s.onKtl (fun k => { k with enforced := true })).log Ev.KTL_ENFORCE 0 0 else s
  | none => s

/-- A write of KTL.CTRL.PHASE (R473). -/
def Dev.ktlPhase (s : Dev) (v : Word) : Dev :=
  if bit v 0 then s.onKtl (fun k => { k with graceEnd := none, enforced := false })
  else
    let s := s.onKtl (fun k => { k with prop := 0 })
    if s.ktl.state = 2 then
      s.onKtl (fun k => { k with slow := true, graceEnd := some (s.tick + (s.rd R.KTL_GRACE).toNat) })
    else s

/-! ### The monitor sequence -/

/-- The running entry's word. -/
def Mon.word (m : Mon) : Word := m.table.getD m.entry 0

/-- Ticks of one conversion (R452). -/
def Mon.conv (m : Mon) : Nat := if m.lp then 64000 else 4000

/-- Conversions of the running entry. -/
def Mon.repeats (m : Mon) : Nat := field m.word 28 21 + 1

/-- Begin an entry at tick t; entry 0 takes the table, the length and the mode (R458, R459, R461). -/
def Dev.monBegin (s : Dev) (k t : Nat) : Dev :=
  let s := if k = 0 then s.onMon (fun m => { m with
      table := (List.range 64).map (fun i => s.rd (R.MON_SEQk i)), len := s.fd R.MON_CTRL 8 3, lp := s.bt R.MON_CTRL 1 }) else s
  s.onMon (fun m =>
    let m := { m with entry := k, corrOld := [] }
    { m with phase := if bit m.word 3 then .waiting t else .converting t false })

/-- A write of MON.CTRL (R459). -/
def Dev.monCtrlWrite (s : Dev) (was : Bool) : Dev :=
  let now := s.bt R.MON_CTRL 0
  if was && !now then s.onMon (fun m => { m with stopping := m.phase != .stopped })
  else if !was && now && s.mon.phase == .stopped then s.monBegin 0 s.tick
  else s

/-- Correction c of MA (0 to 31) or MB (32 to 63) changes; the word before is kept for conversions that have begun (R454). -/
def Dev.corrWrite (s : Dev) (i : Nat) (v : Word) : Dev :=
  let a := R.MON_CORR_MAc i
  (s.onMon (fun m => { m with corrOld := m.corrOld ++ [(s.tick, i, s.rd a)] })).plainWrite a v

/-- The correction that a conversion beginning at tick t takes. -/
def Dev.corrAt (s : Dev) (i t : Nat) : Word :=
  match s.mon.corrOld.find? (fun x => x.2.1 == i && decide (t < x.1)) with
  | some x => x.2.2
  | none => s.rd (R.MON_CORR_MAc i)

/-- One conversion (R454, R455): its value, OVR and UNR. -/
def convert (corr : Word) (r : Int) : Nat × Bool × Bool :=
  if 16383 < r then (0x3FFF, true, false)
  else if r < 0 then (0, false, true)
  else ((min 16383 (max 0 (rnd ((r + sext 14 (field corr 13 0)) * (field corr 35 20 : Nat)) 14))).toNat, false, false)

/-- An entry's result on one converter (R456): value, OVR, UNR. -/
def entryResult (l : List (Nat × Bool × Bool)) : Nat × Bool × Bool :=
  let ovr := l.any (fun x => x.2.1)
  let unr := l.any (fun x => x.2.2)
  let n := l.length
  let sum := l.foldl (fun a x => a + x.1) 0
  (if ovr then 0x3FFF else if unr then 0 else (sum + n / 2) / n, ovr, unr)

/-- The half word of a result (MON.RESc). -/
def resultWord (r : Nat × Bool × Bool) (settle nostart : Bool) : Nat :=
  r.1 * 16 + 8 * b2n r.2.1 + 4 * b2n r.2.2 + 2 * b2n settle + b2n nostart

/-- The conversions of the running entry on a converter, from their raw codes. -/
def Dev.convertAll (s : Dev) (since i : Nat) (raw : List Int) : Nat × Bool × Bool :=
  entryResult ((List.range s.mon.repeats).map (fun k => convert (s.corrAt i (since + k * s.mon.conv)) (raw.getD k 0)))

/-- MON_ENTRY_RESULT (R456 to R458); the operands are the raw codes of the conversions, out of range beyond 0 to 16,383. -/
def Dev.monResult (s : Dev) (ma mb : List Int) : Dev :=
  match s.mon.phase with
  | .converting since nostart =>
    let w := s.mon.word
    let cross := bit w 4
    let conv := field w 35 34
    let useA := cross || conv != 1
    let useB := cross || conv != 0
    let ch := if cross then 31 else field w 33 29
    let t := since + s.mon.repeats * s.mon.conv
    let s := s.to t
    let a := s.convertAll since ch ma
    let b := s.convertAll since (32 + ch) mb
    let setA := s.mon.settleA
    let setB := s.mon.settleB
    let s := if useA then (s.wf (R.MON_RESc ch) 35 18 (resultWord a setA nostart)).onMon (fun m => { m with settleA := a.2.1 || a.2.2 }) else s
    let s := if useB then (s.wf (R.MON_RESc ch) 17 0 (resultWord b setB nostart)).onMon (fun m => { m with settleB := b.2.1 || b.2.2 }) else s
    let s := if (useA && (a.2.1 || a.2.2)) || (useB && (b.2.1 || b.2.2)) then s.log Ev.MON_RANGE 0 0 else s
    let clean := !(a.2.1 || a.2.2 || setA || b.2.1 || b.2.2 || setB)
    let s := if cross && clean then s.onMon (fun m => { m with pair := some (a.1, b.1) }) else s
    s.onMon (fun m => { m with phase := .delaying (t + 4000 * field w 20 5) })
  | _ => s

/-- The kettle takes a diode reading at the end of its entry (R468). -/
def Dev.takeReading (s : Dev) (t : Nat) : Dev :=
  let w := s.mon.word
  let ch := field w 33 29
  if bit w 4 || field w 35 34 == 1 || 12 ≤ ch then s
  else
    let r := s.fd (R.MON_RESc ch) 35 18
    let good := r / 2 % 8 == 0
    let d : Fin 12 := ⟨ch % 12, Nat.mod_lt _ (by decide)⟩
    let x : Diode := s.ktl.diodes[d]
    let x := { x with good := good, reads := if good then ((r / 16, t) :: x.reads).take 16 else x.reads }
    s.onKtl (fun k => { k with diodes := k.diodes.set d.val x d.isLt })

/-- A monitor round ends (R460, R469). -/
def Dev.monRound (s : Dev) : Dev :=
  let st := s.tb
  let s := ((s.post 11 st).bump R.MON_ROUND_COUNT).onMon (fun m => { m with rounds := m.rounds + 1 })
  let s := s.ktlEvaluate
  if s.bt R.LNK_CTRL 14 then
    let ws := [BitVec.ofNat 36 s.mon.rounds, loWord st, hiWord st] ++ (List.range 32).map (fun c => s.rd (R.MON_RESc c)) ++ [s.ktlStatus]
    s.onLnk (fun l => { l with vc2 := l.vc2 ++ [⟨1, ws⟩] })
  else s

/-- The comparison at the end of a CROSS entry whose results are both clean (R464). -/
def Dev.monCompare (s : Dev) : Dev :=
  match s.mon.pair with
  | none => s
  | some (a, b) =>
    let s := s.onMon (fun m => { m with pair := none })
    if (s.rd R.MON_XLIMIT).toNat < max a b - min a b then (s.bump R.MON_DISAGREE_COUNT).log Ev.MON_DISAGREE a b else s

/-- MON_ENTRY_END (R458, R459). -/
def Dev.monEnd (s : Dev) : Dev :=
  match s.mon.phase with
  | .delaying t =>
    let s := (s.to t).monCompare.takeReading t
    let last := decide (s.mon.len ≤ s.mon.entry)
    let s := if last then s.monRound else s
    if s.dark then s.onMon (fun m => { m with phase := .stopped })
    else if s.mon.stopping then
      let s := s.onMon (fun m => { m with stopping := false, phase := .stopped })
      if s.bt R.MON_CTRL 0 then s.monBegin 0 t else s
    else s.monBegin (if last then 0 else s.mon.entry + 1) t
  | _ => s

/-- MON_START_TIMEOUT (R463). -/
def Dev.monTimeout (s : Dev) : Dev :=
  match s.mon.phase with
  | .waiting since =>
    let t := since + (s.rd R.MON_START_TIMEOUT).toNat
    let s := ((s.to t).bump R.MON_NOSTART_COUNT).log Ev.MON_NOSTART 0 0
    s.onMon (fun m => { m with phase := .converting t true, corrOld := [] })
  | _ => s

/-- MON_CONVERSION_BEGIN (R461). -/
def Dev.monConversion (s : Dev) : Dev :=
  match s.mon.phase with
  | .started t => (s.to t).onMon (fun m => { m with phase := .converting t false, corrOld := [] })
  | _ => s

/-- MON.STATUS. -/
def Dev.monStatus (s : Dev) : Word :=
  let w := match s.mon.phase with
    | .waiting _ => true
    | _ => false
  place 7 7 (b2n w) ||| place 6 6 (b2n s.mon.lp) ||| place 5 0 s.mon.entry

end Sys2Proof.Machine
end

