-- ==== Sys2Proof/Machine/Cal.lean ====
section
/-! DEFINITION. CAL: items, plausibility, targets, slewing, and the caddy (spec/17_calibration_and_caddy.md). -/

namespace Sys2Proof.Machine

/-! ### Access -/

/-- Change CAL. -/
def Dev.onCal (s : Dev) (f : Cal → Cal) : Dev := { s with cal := f s.cal }

/-- An item. -/
def Dev.item (s : Dev) (i : Fin 6) : CalItem := s.cal.items[i]

/-- Replace an item. -/
def Dev.setItem (s : Dev) (i : Fin 6) (v : CalItem) : Dev := s.onCal (fun c => { c with items := c.items.set i.val v i.isLt })

/-- The ticks of an item's PERIOD (R478). -/
def Dev.itemPeriod (s : Dev) (i : Fin 6) : Nat := s.fd (R.CAL_ITEMi i) 31 0 * 4000000

/-- Is an item due: by time or request, and item 5 while a spare is MATCHING (R478)? -/
def Dev.itemDue (s : Dev) (i : Fin 6) : Bool :=
  (s.item i).dueAt.isSome || (i.val == 5 && s.cnv.matching.any (fun m => !m.matched))

/-- Do values of an item still move (R485)? -/
def Dev.slewing (s : Dev) (i : Nat) : Bool :=
  if i = 1 then s.cal.bias != s.cal.biasTarget
  else if i = 2 then s.cal.taps != s.cal.tapTarget
  else if i = 3 then s.cal.gain != s.cal.gainTarget
  else if i = 4 then s.cal.ofs != s.cal.ofsTarget
  else false

/-- CAL.ITEMi.STATE. -/
def Dev.itemState (s : Dev) (i : Fin 6) : Nat :=
  if (s.item i).running then 2 else if s.itemDue i then 1 else if s.slewing i.val then 3 else 0

/-- CAL.STATUS. -/
def Dev.calStatus (s : Dev) : Word :=
  place 35 35 (b2n s.cal.storing.isSome) ||| place 34 34 (b2n s.cal.again) ||| place 33 33 ((s.newestSlot 2).getD 0) |||
    (s.rd R.CAL_STATUS &&& fieldMask 32 32) |||
    place 13 8 ((List.range 6).foldl (fun n i => n + 2 ^ i * b2n (s.slewing i)) 0) |||
    place 5 0 ((List.finRange 6).foldl (fun n i => n + 2 ^ i.val * b2n (s.item i).running) 0)

/-! ### Due and running -/

/-- An item becomes due; a due or running item is not touched (R478). -/
def Dev.makeDue (s : Dev) (i : Fin 6) : Dev :=
  let x := s.item i
  if x.dueAt.isSome || x.running then s else s.setItem i { x with dueAt := some s.tick, overdue := false }

/-- A write of CAL.RUN (R478). -/
def Dev.calRun (s : Dev) (v : Word) : Dev :=
  (List.finRange 6).foldl (fun (s : Dev) (i : Fin 6) => if bit v i.val then s.makeDue i else s) s

/-- CAL_ITEM_DUE (R478): a background item becomes due when its PERIOD has passed; item 5 when a spare is MATCHING. -/
def Dev.itemComesDue (s : Dev) (i : Fin 6) : Dev :=
  if i.val = 5 then (if s.itemDue i then s.makeDue i else s)
  else if s.bt R.CAL_CTRL 0 && s.bt (R.CAL_ITEMi i) 35 && !(s.item i).running && (s.item i).dueAt.isNone then
    (s.to ((s.item i).lastEnd + s.itemPeriod i)).makeDue i
  else s

/-- CAL_ITEM_START (R476, R477): items 0 to 3 one at a time, the lowest due first, the ramp while no pour runs; items 4 and 5 alongside. A delay line
that times a steep cannot be measured: its step waits for the next idle gap. -/
def Dev.itemStart (s : Dev) (i : Fin 6) : Dev :=
  let x := s.item i
  let first := (List.finRange 6).all (fun j =>
    !(j.val < 4 && ((s.item j).running || (j.val < i.val && s.itemDue j))))
  let may := s.itemDue i && !x.running && (4 ≤ i.val || (first && (i.val != 3 || s.rdo.pour.isNone)))
  if may then
    let s := s.setItem i { x with running := true, dueAt := some (x.dueAt.getD s.tick) }
    if i.val = 4 then s.onCal (fun c => { c with gather := {} })
    else if i.val = 2 then s.discard ((List.range 72).filter s.lineBusy)
    else s
  else s

/-- CAL_ITEM_OVERDUE (R479): item 5 has no PERIOD (R478). -/
def Dev.itemOverdue (s : Dev) (i : Fin 6) : Dev :=
  let x := s.item i
  match x.dueAt with
  | some t =>
    if i.val = 5 || x.overdue || s.itemPeriod i = 0 then s
    else ((s.to (t + 4 * s.itemPeriod i)).setItem i { x with overdue := true }).log Ev.CAL_OVERDUE i.val 0
  | none => s

/-! ### The caddy -/

/-- The column-offset targets, two entries in three bytes. -/
def ofsBytes (t : Nat → Nat) : Nat → Nat → List Byte
  | 0, _ => []
  | n + 1, k => natBytes 3 (t k + 4096 * t (k + 1)) ++ ofsBytes t n (k + 2)

/-- The substitution entries of a caddy slot, each in four bytes (R487). -/
def Dev.subsBytes (s : Dev) : List Byte :=
  (List.range 448).flatMap (fun i =>
    let w := s.rd (R.CNV_SUBb_k (i / 112) (i % 112))
    natBytes 4 (field w 12 0 + 2 ^ 13 * field w 18 16 + 2 ^ 16 * field w 35 34))

/-- The remapped rows of a caddy slot, each entry in four bytes (R487). -/
def Dev.remapBytes (s : Dev) : List Byte :=
  (List.range 512).flatMap (fun i =>
    match ((s.chan (chIdx (i / 64))).remapped)[i % 64]? with
    | some row => natBytes 4 (2 ^ 31 + row)
    | none => natBytes 4 0)

/-- The correction-table lines of a caddy slot, each in four bytes (R487). -/
def Dev.corrBytes (s : Dev) : List Byte :=
  (List.range 64).flatMap (fun i =>
    let w := s.rd (R.MON_CORR_MAc i)
    natBytes 4 (field w 13 0 + 2 ^ 14 * field w 35 20))

/-- A column's signed eight-bit trim as the byte the slot holds. -/
def trimBytes (m : Cells Int) (n : Nat) : List Byte :=
  (List.range n).flatMap (fun k => natBytes 1 (toField 8 (Cells.get trimZero m k)))

/-- The bytes of a caddy slot but for its check word (R487). -/
def Dev.caddyBytes (s : Dev) (seq : Nat) : List Byte :=
  let c := s.cal
  let taps : List Byte := c.tapTarget.toList.flatMap (fun b => natBytes 2 b)
  let bias : List Byte := c.biasTarget.toList.flatMap (fun b => natBytes 2 (toField 16 b))
  natBytes 4 1 ++ natBytes 4 seq ++ natBytes 9 s.tb.toNat ++ wordBytes (s.rd R.CAL_COUNT) ++ List.replicate 42 0 ++
  ofsBytes (fun k => toField 12 (Cells.get trimZero c.ofsTarget k)) 28672 0 ++
  trimBytes c.gainTarget 29312 ++ trimBytes c.spareOfs 448 ++ s.subsBytes ++ s.remapBytes ++ taps ++ s.corrBytes ++ bias

/-- Begin a store (R489). -/
def Dev.beginStore (s : Dev) : Dev :=
  let (slot, seq, s) := s.storeSlot 2
  let img := slotImage 2 (s.caddyBytes seq)
  (s.beginSlot 2 slot img).onCal (fun c => { c with storing := some ⟨slot, seq, img⟩, lastStore := some s.tick })

/-- A store is requested (R490). -/
def Dev.requestStore (s : Dev) : Dev :=
  if s.cal.storing.isSome then s.onCal (fun c => { c with again := true }) else s.beginStore

/-- CAL_STORE_COMPLETE (R489, R491): `ok` is the read-back. -/
def Dev.storeComplete (s : Dev) (ok : Bool) : Dev :=
  match s.cal.storing with
  | none => s
  | some x =>
    let s := s.onCal (fun c => { c with storing := none })
    let s := if ok then (s.endSlot 2 x.slot x.seq x.bytes).log Ev.CAL_STORE 0 0 else s.log Ev.CAL_STORE_FAIL x.slot 0
    if s.cal.again then (s.onCal (fun c => { c with again := false })).beginStore else s

/-- Load the newer valid caddy slot (R138, R492), and with its remap table the spare rows left (R211, R212); with none the values of R493 stay, which are those after the reset. -/
def Dev.loadCaddy (s : Dev) : Dev :=
  match s.newestSlot 2 with
  | none => s.wb R.CAL_STATUS 32 false
  | some slot =>
    let b := slotBase 2 slot
    let s := (s.wb R.CAL_STATUS 32 true).wr R.CAL_COUNT (bytesWord (s.nvmRead (b + 0x11) 5))
    let ofs := (List.range 57344).foldl (fun (m : Cells Int) k =>
      let w := s.nvmNat (b + 0x40 + 3 * (k / 2)) 3
      Cells.put trimZero m k (sext 12 (if k % 2 = 0 then w else w / 4096))) []
    let trim := fun (at_ n : Nat) => (List.range n).foldl (fun (m : Cells Int) k =>
      Cells.put trimZero m k (sext 8 (s.nvmNat (b + at_ + k) 1))) []
    let gain := trim 0x15040 29312
    let tap : Vector Nat 72 := Vector.ofFn (fun i => s.nvmNat (b + 0x1D380 + 2 * i.val) 2)
    let bias : Vector Int 32 := Vector.ofFn (fun i => sext 16 (s.nvmNat (b + 0x1D510 + 2 * i.val) 2))
    let spare := trim 0x1C2C0 448
    let s := s.onCal (fun c => { c with
      ofs := ofs, ofsTarget := ofs, gain := gain, gainTarget := gain, spareOfs := spare, taps := tap, tapTarget := tap, bias := bias,
      biasTarget := bias })
    let s := (List.range 448).foldl (fun (s : Dev) i =>
      let v := s.nvmNat (b + 0x1C480 + 4 * i) 4
      let st := v / 2 ^ 16 % 4
      if st = 1 then s.setSpare (i / 112) (i % 112) 0 0 0
      else s.setSpare (i / 112) (i % 112) st (v / 2 ^ 13 % 8) (v % 2 ^ 13)) s
    let s := (List.finRange 8).foldl (fun (s : Dev) (c : Fin 8) =>
      let rows := (List.range 64).filterMap (fun j =>
        let v := s.nvmNat (b + 0x1CB80 + 4 * (64 * c.val + j)) 4
        if 2 ^ 31 ≤ v then some (v - 2 ^ 31) else none)
      let r := if c.val < 4 then R.MEM_SPARE_ROWS_LO else R.MEM_SPARE_ROWS_HI
      (s.setChan c { s.chan c with remapped := rows }).wf r (7 * (c.val % 4) + 6) (7 * (c.val % 4)) (64 - rows.length)) s
    (List.range 64).foldl (fun (s : Dev) i =>
      let v := s.nvmNat (b + 0x1D410 + 4 * i) 4
      s.wr (R.MON_CORR_MAc i) (place 35 20 (v / 2 ^ 14) ||| place 13 0 v)) s

/-! ### Results -/

/-- A result is rejected (R483). -/
def Dev.calReject (s : Dev) (i : Fin 6) (reason bank : Nat) : Dev :=
  let s := (s.bump R.CAL_REJECTS).wr R.CAL_REJECT_LAST (place 35 35 1 ||| place 13 12 bank ||| place 10 8 i.val ||| place 7 0 reason)
  let s := (s.log Ev.CAL_REJECT i.val reason).post 13 s.tb
  if s.cal.boot then s.onCal (fun c => { c with bootRejects := c.bootRejects ||| 2 ^ i.val }) else s

/-- A result is accepted (R484, R490). -/
def Dev.calAccept (s : Dev) (i : Fin 6) : Dev :=
  let s := ((s.bump R.CAL_COUNT).wr72 R.CAL_LAST_TIME_LO s.tb).wf R.CAL_LAST_INFO 2 0 i.val
  let s := (s.stale R.CAL_LAST_INFO 35).post 13 s.tb
  let spaced := match s.cal.lastStore with
    | some t => decide (t + (s.rd R.CAL_STORE_MIN).toNat * 4000000000 ≤ s.tick)
    | none => true
  if s.bt R.CAL_CTRL 1 && spaced then s.requestStore else s

/-- At boot step 10 a result comes into force at once (R480). -/
def Dev.inForce (s : Dev) : Dev :=
  if s.cal.boot then s.onCal (fun c => { c with gain := c.gainTarget, taps := c.tapTarget, bias := c.biasTarget }) else s

/-- The run ends (R478). -/
def Dev.runEnds (s : Dev) (i : Fin 6) : Dev :=
  s.setItem i { s.item i with running := false, dueAt := none, overdue := false, lastEnd := s.tick }

/-- Is a working converter known to have failed: it waits, or a spare serves it? -/
def Dev.knownBad (s : Dev) (b c : Nat) : Bool :=
  (s.spareOf b c).isSome || s.cnv.waiting.any (fun x => x.bank == b && x.conv == c)

/-- The first finding of each unit, in ascending unit order. -/
def firstFindings (l : List (Nat × Nat)) : List (Nat × Nat) :=
  (l.mergeSort (fun x y => decide (x.1 ≤ y.1))).foldr (fun x t => x :: t.filter (fun y => y.1 != x.1)) []

/-- What a test run of a bank found failing (R126 to R129), as (converter, cause) with spares from 7,168 and edge converters from 7,280: more
than 1,024 working converters are a bank fault; the flag says so. -/
def Dev.testFails (s : Dev) (b : Nat) (l : List (Nat × Nat)) : Bool × Dev :=
  let l := firstFindings l
  let working := l.filter (fun x => decide (x.1 < 7168))
  let fault := decide (1024 < working.length)
  let s := if fault then (s.wb R.CNV_STATUS (8 + b) true).log Ev.CNV_BANK_FAULT 0 0 else s
  let convs := if fault then [] else working.filter (fun x => !s.knownBad b x.1)
  let units := l.filterMap (fun x => if 7168 ≤ x.1 ∧ x.1 < 7280 then some (x.1 - 7168, x.2) else none)
  let s := s.failTogether b convs units
  (fault, (l.filter (fun x => decide (7280 ≤ x.1))).foldl (fun (s : Dev) x => s.failEdge b (x.1 - 7280)) s)

/-- Where the gain trim of a tested converter stands. -/
def testedKey (b c : Nat) : Nat :=
  if c < 7168 then gainKey b c else if c < 7280 then gainKeySpare b (c - 7168) else gainKeyEdge b (c - 7280)

/-- Item 3 finishes a bank (R475, R478, R482): the ramp's own check may be off by 0.5 %. -/
def Dev.rampResult (s : Dev) (i : Fin 6) (bad : Bool) (check : Int) (gains : List (Nat × Int)) (missing : List Nat) : Dev :=
  let b := s.cal.bank
  let s := s.onCal (fun c => { c with bank := (b + 1) % 4 })
  let s := if s.cal.boot && b != 3 then s else s.runEnds i
  if bad then s.calReject i 3 b
  else if 50 < check.natAbs then s.calReject i 1 b
  else
    let beyondRange := gains.filter (fun x => !gainInRange x.2 && !missing.contains x.1)
    let (fault, s) := s.testFails b (missing.map (fun c => (c, 1)) ++ beyondRange.map (fun x => (x.1, 2)))
    if fault then s.calReject i 1 b
    else
      let keep := gains.filter (fun x => gainInRange x.2 && !missing.contains x.1)
      let new := keep.foldl (fun (m : Cells Int) (x : Nat × Int) => Cells.put trimZero m (testedKey b x.1) x.2) s.cal.gainTarget
      let s := s.onCal (fun c => { c with gainTarget := new })
      s.inForce.calAccept i

/-- Fractions in ascending order. -/
def fracLe (a b : Nat × Nat) : Bool := decide (a.1 * b.2 ≤ b.1 * a.2)

/-- The median of fractions; of an even number, the mean of the middle two. -/
def median (l : List (Nat × Nat)) : Option (Nat × Nat) :=
  let t := l.mergeSort fracLe
  let n := t.length
  match t[(n - 1) / 2]?, t[n / 2]? with
  | some a, some b => some (a.1 * b.2 + b.1 * a.2, 2 * a.2 * b.2)
  | _, _ => none

/-- The mean of a column over a run (R481), as a fraction; none when every sample is left out. -/
def Gather.mean (g : Gather) (k : Nat) : Option (Nat × Nat) :=
  let n := Cells.get (fun _ => 0) g.counts k
  if n = 0 then none else some (Cells.get (fun _ => 0) g.sums k, n)

/-- M_b of R481. -/
def Gather.median (g : Gather) (b : Nat) : Option (Nat × Nat) :=
  Machine.median ((List.range 14336).filterMap (fun x => g.mean (14336 * b + x)))

/-- m − M, rounded to nearest with ties upwards (R481). -/
def offsetOf (m M : Nat × Nat) : Int :=
  let num : Int := (m.1 * M.2 : Nat) - (M.1 * m.2 : Nat)
  let den : Int := (m.2 * M.2 : Nat)
  (2 * num + den) / (2 * den)

/-- Does |a − b| of two fractions exceed a limit? -/
def fracFar (a b : Nat × Nat) (limit : Nat) : Bool :=
  decide (limit * (a.2 * b.2) < ((a.1 * b.2 : Nat) - (b.1 * a.2 : Nat) : Int).natAbs)

/-- The targets of a bank, key and offset. -/
def Gather.targets (g : Gather) (b : Nat) : List (Nat × Int) :=
  match g.median b with
  | none => []
  | some M => (List.range 14336).filterMap (fun x =>
      if g.left.contains (7168 * b + x / 2) then none
      else (g.mean (14336 * b + x)).map (fun m => (14336 * b + x, offsetOf m M)))

/-- Why the result of item 4 is rejected (R482): reason and bank. -/
def Dev.colofsFault (s : Dev) (g : Gather) : Option (Nat × Nat) :=
  match g.bad with
  | some b => some (3, b)
  | none =>
  let jump := s.fd R.CAL_COLOFS 27 16
  let moved := fun (b : Nat) => ((g.targets b).filter (fun x =>
    decide (jump < (x.2 - Cells.get trimZero s.cal.ofsTarget x.1).natAbs))).length
  let lit := fun (b : Fin 4) => match g.median b.val with
    | some M => g.darkN[b] != 0 && fracFar M (g.dark[b], 4 * g.darkN[b]) 512
    | none => false
  match (List.range 4).find? (fun b => decide (143 < moved b)) with
  | some b => some (2, b)
  | none => ((List.finRange 4).find? lit).map (fun b => (4, b.val))

/-- The converters of a bank whose offset lies more than 64 LSB from the median. -/
def Gather.offsetFails (g : Gather) (b : Nat) : List Nat :=
  match g.median b with
  | none => []
  | some M => (List.range 7168).filter (fun c =>
      let far := fun (x : Nat) => match g.mean (14336 * b + x) with
        | some m => fracFar m M 1024
        | none => false
      !g.left.contains (7168 * b + c) && (far (2 * c) || far (2 * c + 1)))

/-- What item 4 finds failing in a bank (causes 3 and 4 of R126): the unit that converts the columns of a converter, which is the spare in service when
one serves it. Noise is counted by that unit. -/
def Dev.colofsFails (s : Dev) (g : Gather) (b : Nat) : List (Nat × Nat) :=
  let unit := fun (c : Nat) => match s.spareOf b c with
    | some k => if s.spareState b k = 2 then 7168 + k else c
    | none => c
  let offs := g.offsetFails b
  let offs := offs.map unit
  let noise := (List.range 7280).filter (fun u => decide (16 ≤ Cells.get (fun _ => 0) s.cal.noisy (7280 * b + u)) && !offs.contains u)
  offs.map (fun u => (u, 3)) ++ noise.map (fun u => (u, 4))

/-- Store the targets of item 4; one that does not fit 12 bits is free. -/
def Dev.putTargets (s : Dev) (l : List (Nat × Int)) : Dev :=
  l.foldl (fun (s : Dev) (x : Nat × Int) =>
    let fits := decide (-2048 ≤ x.2) && decide (x.2 ≤ 2047)
    let (n, s') := s.drawNat 4096
    let s : Dev := if fits then s else s'
    let v : Int := if fits then x.2 else (n : Int) - 2048
    s.onCal (fun c => { c with ofsTarget := Cells.put trimZero c.ofsTarget x.1 v })) s

/-- Item 4 finishes (R481, R482). -/
def Dev.colofsResult (s : Dev) (i : Fin 6) : Dev :=
  let g := s.cal.gather
  if g.pours < max (s.fd R.CAL_COLOFS 15 0) 1 then s else
  let s := s.runEnds i
  match s.colofsFault g with
  | some (reason, b) => s.calReject i reason b
  | none =>
    let s := (List.range 4).foldl (fun (s : Dev) b => (s.testFails b (s.colofsFails g b)).2) s
    let s := s.onCal (fun c => { c with noisy := c.noisy.filter (fun x => decide (x.2 < 16)) })
    let s := (List.range 4).foldl (fun (s : Dev) b => s.putTargets (g.targets b)) s
    s.calAccept i

/-- Is a bank converting a pour? -/
def Dev.bankUsed (s : Dev) (b : Nat) : Bool :=
  match s.rdo.pour with
  | some p => p.total.any (fun r => r % 4 == b)
  | none => false

/-- The steps of an item that were discarded are repeated in an idle gap (R477), when their lines and their bank are idle; a ramp step lasts T_row of R123 plus
4,000 ticks. The gain match of item 5 is such a step on the bank of each spare whose 16 pours have passed (R131). None: the gap has not come. -/
def Dev.repeatSteps (s : Dev) (i : Nat) : Option Dev :=
  let mine := if i = 5 then (s.cnv.matching.filter (fun m => !m.matched && decide (16 ≤ m.pours))).map (fun m => 72 + m.bank)
    else s.cal.discarded.filter (fun u => if i = 2 then decide (u < 72) else i == 3 && decide (72 ≤ u))
  if mine.any (fun u => if u < 72 then s.lineBusy u else s.bankUsed (u - 72)) then none
  else if mine.isEmpty then some s
  else
    let s := if i = 3 ∨ i = 5 then s.to (s.cal.idleFrom + rowTime (s.fd R.CNV_CTRL 1 0) + 4000) else s
    some (s.onCal (fun c => { c with discarded := c.discarded.filter (fun u => !mine.contains u) }))

/-- Item 5 finishes once a spare has its 16 pours behind it, or none is left to match (R131, R475): bad data in a pour that counts, or in the ramp, rejects the
run, and its matches start again (R482, R483). -/
def Dev.spareResult (s : Dev) (i : Fin 6) (bad : Bool) (l : List SpareMatch) : Dev :=
  let left := s.cnv.matching.filter (fun m => !m.matched)
  let ready := left.filter (fun m => decide (16 ≤ m.pours))
  if ready.isEmpty && !left.isEmpty then s else
  let s := s.runEnds i
  if bad || ready.any (·.bad) then
    (s.onCnv (fun v => { v with matching := v.matching.map (fun m => if m.matched || decide (m.pours < 16) then m
      else { m with pours := 0, sum := (0, 0), mid := (0, 1), bad := false }) })).calReject i 3 0
  else (s.matchResults l).calAccept i

/-- An item finishes with what it measured (R482 to R484, R131). -/
def Dev.itemResult (s : Dev) (i : Fin 6) (m : CalMeas) : Dev :=
  match i.val, m with
  | 0, .mon bad offA gainA offB gainB =>
    let s := s.runEnds i
    let wild := fun (o : Int) (g : Nat) => decide (64 < o.natAbs) || decide (16384 < 50 * (max g 16384 - min g 16384))
    if bad then s.calReject i 3 0
    else if wild offA gainA || wild offB gainB then s.calReject i 1 0
    else
      let w := fun (o : Int) (g : Nat) => place 35 20 g ||| place 13 0 (toField 14 o)
      ((List.range 64).foldl (fun (s : Dev) k => s.corrWrite k (if k < 32 then w offA gainA else w offB gainB)) s).calAccept i
  | 1, .bias bad deviations codes =>
    let s := s.runEnds i
    if bad then s.calReject i 3 0 else if deviations.any (fun x => decide (1000 < x.natAbs)) then s.calReject i 1 0
    else (s.onCal (fun c => { c with biasTarget := Vector.ofFn (fun k => codes.getD k.val 0) })).inForce.calAccept i
  | 2, .taps bad delays set =>
    let s := s.runEnds i
    let new : Vector Nat 72 := Vector.ofFn (fun k => set.getD k.val 256 % 512)
    let jump := (List.finRange 72).any (fun k => decide (16 < max new[k] s.cal.taps[k] - min new[k] s.cal.taps[k]))
    if bad then s.calReject i 3 0
    else if delays.any (fun x => decide (x < 5000) || decide (15000 < x)) || jump then s.calReject i 1 0
    else (s.onCal (fun c => { c with tapTarget := new })).inForce.calAccept i
  | 3, .ramp bad check gains missing => s.rampResult i bad check gains missing
  | 4, .colofs => s.colofsResult i
  | 5, .spares bad l => s.spareResult i bad l
  | _, _ => s

/-- CAL_ITEM_COMPLETE: a running item finishes once its discarded steps are repeated (R477). -/
def Dev.itemComplete (s : Dev) (i : Fin 6) (m : CalMeas) : Dev :=
  if !(s.item i).running then s else
  match s.repeatSteps i.val with
  | some s => s.itemResult i m
  | none => s

/-! ### Gathering and slewing -/

/-- A row-dark mean in 1/64 LSB at 12 bits. -/
def darkMeanScaled (res m : Nat) : Nat := if res = 0 then 16 * m else if res = 2 then m else 4 * m

/-- The dark samples of a converter in a pour area, at 12-bit scale in 1/16 LSB: its two columns in the four dark rows of its bank. -/
def darkOf (res : Nat) (ws : List (Word × Bool)) (b c : Nat) : List Nat :=
  (List.range 4).flatMap (fun j => (List.range 2).map (fun x =>
    darkScaled res (sampleOf ws (perWord res false) (14336 * (4 * j + b) + 2 * c + x)).1))

/-- The converter whose columns a unit of a bank converted in a pour: a working converter its own, unless it is left out or a spare replaces it; a spare those it
stands in for (R132, R481). -/
def PourFacts.convertedBy (f : PourFacts) (b u : Nat) : Option Nat :=
  if u < 7168 then (if f.defects.contains (b, u) || f.served.any (fun v => v.1 == b && v.2.1 == u) then none else some u)
  else (f.served.find? (fun v => v.1 == b && v.2.2 == u - 7168)).map (fun v => v.2.1)

/-- The noise of every unit on the dark rows of a usable pour (cause 4 of R126): a unit whose noise exceeds three times the median of its bank has one
such pour more behind it, and one whose noise does not, or that converts nothing, starts again; 16 stay found until a run is accepted. -/
def Dev.noiseStep (s : Dev) (f : PourFacts) (ws : List (Word × Bool)) : Dev :=
  (List.range 4).foldl (fun (s : Dev) b =>
    let now := (List.range 7280).map (fun u => ((f.convertedBy b u).map (darkOf f.res ws b)).getD [])
    let noise := (now.zipIdx).filterMap (fun x =>
      let before := Cells.get (fun _ => []) s.cal.lastDark (7280 * b + x.2)
      if before.isEmpty || x.1.isEmpty then none else some (x.2, Config.temporalNoise before x.1))
    let mid := (Machine.median (noise.map (fun x => (x.2, 1)))).getD (0, 1)
    let loud := fun (u : Nat) => noise.any (fun x => x.1 == u && decide (3 * mid.1 < x.2 * mid.2))
    (now.zipIdx).foldl (fun (s : Dev) x =>
      let k := 7280 * b + x.2
      let n := Cells.get (fun _ => 0) s.cal.noisy k
      s.onCal (fun v => { v with
        lastDark := Cells.put (fun _ => []) v.lastDark k x.1,
        noisy := Cells.put (fun _ => 0) v.noisy k (if 16 ≤ n then n else if loud x.2 then n + 1 else 0) })) s) s

/-- The dark samples of a pour area join the statistics of R481; samples of a converter that is left out do not. -/
def Gather.samples (g : Gather) (f : PourFacts) (ws : List (Word × Bool)) : Gather :=
  let per := perWord f.res false
  let left := f.defects.map (fun x => 7168 * x.1 + x.2)
  (List.range (16 * 14336)).foldl (fun (g : Gather) n =>
    let b := n / 14336 % 4
    let x := n % 14336
    let k := 14336 * b + x
    if left.contains (7168 * b + x / 2) then g
    else { g with
      sums := Cells.put (fun _ => 0) g.sums k (Cells.get (fun _ => 0) g.sums k + darkScaled f.res (sampleOf ws per n).1),
      counts := Cells.put (fun _ => 0) g.counts k (Cells.get (fun _ => 0) g.counts k + 1) }) g

/-- Item 4 takes its statistics from the words of a pour area (R475, R481). -/
def Dev.gatherArea (s : Dev) (f : PourFacts) (ws rs : List (Word × Bool)) : Dev :=
  let g := s.cal.gather
  let per := perWord f.res false
  let badDark := (ws.zipIdx.find? (fun x => x.1.2)).map (fun x => x.2 * per / 14336 % 4)
  let badRow := ((f.rows.zip rs).find? (fun x => x.2.2)).map (fun x => (bankIdx x.1).val)
  let bad := g.bad.orElse (fun _ => badDark.orElse (fun _ => badRow))
  let left := f.defects.map (fun x => 7168 * x.1 + x.2)
  let g := (f.rows.zip rs).foldl (fun (g : Gather) x =>
    let b := bankIdx x.1
    (usableMeans x.2).foldl (fun (g : Gather) m => { g with
      dark := g.dark.set b.val (g.dark[b] + darkMeanScaled f.res m) b.isLt, darkN := g.darkN.set b.val (g.darkN[b] + 1) b.isLt }) g) (g.samples f ws)
  (s.onCal (fun c => { c with gather := { g with pours := g.pours + 1, bad := bad, left := dedup (g.left ++ left) } })).noiseStep f ws

/-- A usable pour has ended: each spare that converted along in it has one pour more behind it, with its dark samples, the median of its bank's columns in that
pour (R481), and whether the data was uncorrectable (R131, R482). -/
def Dev.matchPour (s : Dev) (f : PourFacts) (ws : List (Word × Bool)) : Dev :=
  let g := Gather.samples {} f ws
  let bad := ws.any (·.2)
  s.onCnv (fun v => { v with matching := v.matching.map (fun m =>
    if m.gathers then
      let mid := (g.median m.bank).getD (0, 1)
      { m with pours := m.pours + 1, sum := (m.sum.1 + m.cur.1, m.sum.2 + m.cur.2), bad := m.bad || bad,
               mid := (m.mid.1 * mid.2 + mid.1 * m.mid.2, m.mid.2 * mid.2) }
    else m) })

/-- Items 4 and 5 read a pour area with dark rows at rank 7 (R475, R476, R481): item 4 takes its statistics, and item 5 those of the spares being matched. -/
def Dev.calGather (s : Dev) (f : PourFacts) : Dev :=
  let four := (s.item 4).running && decide (s.cal.gather.pours < max (s.fd R.CAL_COLOFS 15 0) 1)
  let five := s.cnv.matching.any Matching.gathers
  if !(four || five) || !f.dark || f.dropped then s else
  let (ws, s) := s.memReadRun 7 (f.base + 64) (darkWords f.res)
  let s := if five then s.matchPour f ws else s
  if four then
    let (rs, s) := s.memReadRun 7 (f.base + recordsAt f.res f.dark) f.rows.length
    s.gatherArea f ws rs
  else s

/-- CAL_SLEW_TICK (R485, R486). -/
def Dev.slewTick (s : Dev) : Dev :=
  let s := s.to (s.cal.lastSlew + 4000000)
  let s := s.onCal (fun c => { c with lastSlew := s.tick })
  let s := (List.finRange 72).foldl (fun (s : Dev) (l : Fin 72) =>
    if s.cal.taps[l] = s.cal.tapTarget[l] then s
    else if s.lineBusy l.val then s.onCal (fun c => { c with tapOwed := l.val :: c.tapOwed.filter (fun x => x != l.val) })
    else s.moveTap l) s
  s.onCal (fun c => { c with bias := Vector.ofFn (fun k => moveTowards 1 c.bias[k] c.biasTarget[k]) })

end Sys2Proof.Machine
end

