-- ==== Sys2Proof/Machine/Clk.lean ====
section
/-! DEFINITION. CLK: loss of the reference and of lock, holdover and return (spec/15_clock_synthesis.md). CLK.STATUS holds REF_OK in bit 35,
TB_LOCK in 34, TB_HOLDOVER in 33, LK_LOCK in 32, LK_HOLDOVER in 31 and LK_EXPIRED in 30. -/

namespace Sys2Proof.Machine

/-- Change the CLK block. -/
def Dev.onClk (s : Dev) (f : Clk → Clk) : Dev := { s with clk := f s.clk }

/-- How an event names a PLL: 1 the timebase PLL, 2 the link PLL (the code of boot step 7, R511). -/
def pllCode (link : Bool) : Nat := if link then 2 else 1

/-- The growth of TB_UNCERT over `d` ticks of holdover (R448): 1 tick per 50,000 for the first 10 ms, then 1 per 10,000. -/
def uncertGrowth (d : Nat) : Nat := if d ≤ 40000000 then d / 50000 else 800 + (d - 40000000) / 10000

/-- CLK.TB_UNCERT (R448, R450): during holdover it grows; after it the value is held. -/
def Dev.tbUncert (s : Dev) : Word :=
  if s.tbHoldover then satAdd 0 (uncertGrowth (s.tick - s.clk.tbSince) + s.clk.extra) else s.rd R.CLK_TB_UNCERT

/-- The steeps that run are marked HOLDOVER (R71). -/
def Dev.steepHoldover (s : Dev) : Dev :=
  (List.finRange 8).foldl (fun (s : Dev) n =>
    let e := s.en n
    if e.st = .steeping then s.setEn n { e with flagHoldover := true } else s) s

/-- A PLL enters holdover (R445), with the event that says why; the frames in flight are marked when it is the link PLL (R266). -/
def Dev.enterHoldover (s : Dev) (link : Bool) (ev : Nat) : Dev :=
  if link then
    ((((s.wb R.CLK_STATUS 32 false).wb R.CLK_STATUS 31 true).bump R.CLK_LK_LOSSES).onClk
      (fun c => { c with lkSince := s.tick })).log ev (pllCode link) 0 |>.markHoldover 0 |>.markHoldover 1
  else
    (((((s.wb R.CLK_STATUS 34 false).wb R.CLK_STATUS 33 true).bump R.CLK_TB_LOSSES).onClk
      (fun c => { c with tbSince := s.tick, extra := 0 })).steepHoldover).log ev (pllCode link) 0

/-- The bit of CLK.STATUS that shows the holdover of a PLL. -/
def holdoverBit (link : Bool) : Nat := if link then 31 else 33

/-- Does a PLL run outside holdover: locked, or searching for lock? -/
def Dev.pllRuns (s : Dev) (link : Bool) : Bool := (if link then s.clk.lkStarted else s.clk.tbStarted) && !s.bt R.CLK_STATUS (holdoverBit link)

/-- REF_LOST (R444): both PLLs enter holdover together, one that searches for lock too. -/
def Dev.refLost (s : Dev) : Dev :=
  if s.bt R.CLK_STATUS 35 then
    [false, true].foldl (fun (s : Dev) k => if s.pllRuns k then s.enterHoldover k Ev.CLK_REF_LOST else s) (s.wb R.CLK_STATUS 35 false)
  else s

/-- PLL_UNLOCK (R444): a loss of lock with the reference present. -/
def Dev.pllUnlock (s : Dev) (link : Bool) : Dev :=
  if s.bt R.CLK_STATUS 35 && s.bt R.CLK_STATUS (if link then 32 else 34) then s.enterHoldover link Ev.CLK_UNLOCK else s

/-- A band other than the frozen one, which the spec does not name. -/
def Dev.otherBand (s : Dev) (band : Nat) : Nat × Dev :=
  let (d, s) := s.drawNat 63
  ((band + 1 + d) % 64, s)

/-- REF_RETURN (R450): the reference has returned, and the PLLs that the device runs search for lock. -/
def Dev.refReturn (s : Dev) : Dev :=
  if s.clk.tbStarted || s.clk.lkStarted then s.wb R.CLK_STATUS 35 true else s

/-- The timebase PLL relocks (R448, R450), in another band when `band` says so. -/
def Dev.tbRelock (s : Dev) (band : Bool) : Dev :=
  if s.bt R.CLK_STATUS 35 && s.tbHoldover then
    let s : Dev := if band then
        match s.otherBand (s.fd R.CLK_STATUS 5 0) with
        | (b, s) => (s.wf R.CLK_STATUS 5 0 b).onClk (fun c => { c with extra := c.extra + 2000 })
      else s
    (((s.wr R.CLK_TB_UNCERT s.tbUncert).wb R.CLK_STATUS 33 false).wb R.CLK_STATUS 34 true).log Ev.CLK_RELOCK 0 0
  else s

/-- A band change of the link PLL starts a training, whatever the link does (R450); a training in progress starts over. -/
def Dev.bandTraining (s : Dev) : Dev :=
  if s.lnk.state = 2 then s.stopAndTrain
  else match s.lnk.train with
    | some t => s.startTraining t.boot t.repeated t.ackFail
    | none => s.stopAndTrain

/-- The link PLL locks: its return from holdover (R450), where a band change or the end of a DOWN link of R266 starts a training, or its lock at a
training with another RATE (R442). Before boot step 9 the lanes stay idle (R267). -/
def Dev.lkRelock (s : Dev) (band : Bool) : Dev :=
  if s.bt R.CLK_STATUS 35 && s.clk.lkStarted && !s.lkLocked then
    let held := s.lkHoldover
    let expired := s.bt R.CLK_STATUS 30
    let s : Dev := if held && !band then s else
        match (if held then s.otherBand (s.fd R.CLK_STATUS 13 8) else s.drawNat 64) with
        | (b, s) => s.wf R.CLK_STATUS 13 8 b
    let s := ((s.wb R.CLK_STATUS 32 true).wb R.CLK_STATUS 31 false).wb R.CLK_STATUS 30 false
    let s := if held then s.log Ev.CLK_RELOCK 0 0 else s
    if s.dark then s
    else if expired then
      match s.boot.step with
      | some n => if 9 ≤ n then s.startTraining (n == 9) false 0 else s
      | none => s.startTraining false false 0
    else if held && band && !s.lnk.idle then s.bandTraining
    else s
  else s

/-- PLL_LOCK_TIMEOUT (R443): only while boot step 7 runs. -/
def Dev.pllTimeout (s : Dev) (link : Bool) : Dev :=
  if s.boot.step = some 7 ∧ ¬ s.clk.failed.testBit (b2n link) then
    (s.onClk (fun c => { c with failed := c.failed + 2 ^ b2n link })).log Ev.CLK_LOCK_FAIL (pllCode link) 0
  else s

end Sys2Proof.Machine
end

