-- ==== Sys2Proof/Machine/Crypto.lean ====
section
/-! DEFINITION. The published algorithms that SEC uses: SHA-256 and HMAC (FIPS 180-4, FIPS 198-1), the counter-mode KDF (NIST SP 800-108),
AES-256 (FIPS 197), GMAC (NIST SP 800-38D), and ECDSA over P-256 (FIPS 186-5, its deterministic form after RFC 6979). The spec names
them and does not restate them (R496, R499, R501, R505; notes/assumptions/91.md). Byte lists stand in sending order. -/

namespace Sys2Proof.Machine

/-- A number from bytes, most significant first. -/
def beNat (l : List Byte) : Nat := l.foldl (fun n b => 256 * n + b.toNat) 0

/-- `n` bytes of a number, most significant first. -/
def beBytes (n v : Nat) : List Byte := (natBytes n v).reverse

/-! ### SHA-256 -/

/-- The 32-bit word of SHA-256. -/
abbrev W32 := BitVec 32

/-- The round constants, the cube roots of the first 64 primes. -/
def shaK : List W32 :=
  [0x428A2F98, 0x71374491, 0xB5C0FBCF, 0xE9B5DBA5, 0x3956C25B, 0x59F111F1, 0x923F82A4, 0xAB1C5ED5, 0xD807AA98, 0x12835B01, 0x243185BE, 0x550C7DC3, 0x72BE5D74, 0x80DEB1FE, 0x9BDC06A7, 0xC19BF174] ++
  [0xE49B69C1, 0xEFBE4786, 0x0FC19DC6, 0x240CA1CC, 0x2DE92C6F, 0x4A7484AA, 0x5CB0A9DC, 0x76F988DA, 0x983E5152, 0xA831C66D, 0xB00327C8, 0xBF597FC7, 0xC6E00BF3, 0xD5A79147, 0x06CA6351, 0x14292967] ++
  [0x27B70A85, 0x2E1B2138, 0x4D2C6DFC, 0x53380D13, 0x650A7354, 0x766A0ABB, 0x81C2C92E, 0x92722C85, 0xA2BFE8A1, 0xA81A664B, 0xC24B8B70, 0xC76C51A3, 0xD192E819, 0xD6990624, 0xF40E3585, 0x106AA070] ++
  [0x19A4C116, 0x1E376C08, 0x2748774C, 0x34B0BCB5, 0x391C0CB3, 0x4ED8AA4A, 0x5B9CCA4F, 0x682E6FF3, 0x748F82EE, 0x78A5636F, 0x84C87814, 0x8CC70208, 0x90BEFFFA, 0xA4506CEB, 0xBEF9A3F7, 0xC67178F2]

/-- The initial hash value, the square roots of the first eight primes. -/
def shaInit : List W32 := [0x6A09E667, 0xBB67AE85, 0x3C6EF372, 0xA54FF53A, 0x510E527F, 0x9B05688C, 0x1F83D9AB, 0x5BE0CD19]

/-- The message schedule, newest word first. -/
def shaSchedule : Nat → List W32 → List W32
  | 0, w => w
  | n + 1, w =>
    let a := w.getD 1 0
    let b := w.getD 14 0
    let s1 := a.rotateRight 17 ^^^ a.rotateRight 19 ^^^ (a >>> 10)
    let s0 := b.rotateRight 7 ^^^ b.rotateRight 18 ^^^ (b >>> 3)
    shaSchedule n ((s1 + w.getD 6 0 + s0 + w.getD 15 0) :: w)

/-- One round over the eight working words. -/
def shaRound (v : List W32) (kw : W32) : List W32 :=
  match v with
  | [a, b, c, d, e, f, g, h] =>
    let s1 := e.rotateRight 6 ^^^ e.rotateRight 11 ^^^ e.rotateRight 25
    let ch := (e &&& f) ^^^ (~~~ e &&& g)
    let t1 := h + s1 + ch + kw
    let s0 := a.rotateRight 2 ^^^ a.rotateRight 13 ^^^ a.rotateRight 22
    let maj := (a &&& b) ^^^ (a &&& c) ^^^ (b &&& c)
    [t1 + s0 + maj, a, b, c, d + t1, e, f, g]
  | v => v

/-- The sixteen words of a block of 64 bytes, oldest first. -/
def shaWords (block : List Byte) : List W32 := (chunks 4 16 block).map (fun l => BitVec.ofNat 32 (beNat l))

/-- Take one block into the hash value. -/
def shaBlock (h : List W32) (block : List Byte) : List W32 :=
  let w := (shaSchedule 48 (shaWords block).reverse).reverse
  let v := (List.zipWith (· + ·) shaK w).foldl shaRound h
  List.zipWith (· + ·) h v

/-- SHA-256 of a message: 32 bytes. -/
def sha256 (m : List Byte) : List Byte :=
  let pad := (64 - (m.length + 9) % 64) % 64
  let l := m ++ 0x80 :: List.replicate pad 0 ++ beBytes 8 (8 * m.length)
  ((chunks 64 (l.length / 64) l).foldl shaBlock shaInit).flatMap (fun w => beBytes 4 w.toNat)

/-- HMAC-SHA-256 with a key of at most 64 bytes. -/
def hmac (key m : List Byte) : List Byte :=
  let k := key ++ List.replicate (64 - key.length) 0
  sha256 (k.map (· ^^^ 0x5C) ++ sha256 (k.map (· ^^^ 0x36) ++ m))

/-- The fixed input of the KDF (R499). -/
def kdfInput (uid session : Nat) : List Byte :=
  beBytes 4 1 ++ [0x5A, 0x46, 0x2D, 0x54, 0x41, 0x47, 0] ++ beBytes 8 uid ++ beBytes 4 session ++ beBytes 4 256

/-- The tag key KT of a session (R499). -/
def tagKey (kd uid session : Nat) : List Byte := hmac (beBytes 32 kd) (kdfInput uid session)

/-! ### AES-256 -/

/-- Multiplication by x in GF(2^8). -/
def xtime (b : Byte) : Byte := if b.getLsbD 7 then (b <<< 1) ^^^ 0x1B else b <<< 1

/-- Multiplication in GF(2^8), by the bits of the second factor. -/
def gfMul : Nat → Byte → Byte → Byte
  | 0, _, _ => 0
  | n + 1, a, b => (if b.getLsbD 0 then a else 0) ^^^ gfMul n (xtime a) (b >>> 1)

/-- A power in GF(2^8). -/
def gfPow (a : Byte) : Nat → Byte
  | 0 => 1
  | n + 1 => gfMul 8 (gfPow a n) a

/-- The S-box: the inverse, as the 254th power, under the affine map. -/
def sbox (b : Byte) : Byte :=
  let i := gfPow b 254
  i ^^^ i.rotateLeft 1 ^^^ i.rotateLeft 2 ^^^ i.rotateLeft 3 ^^^ i.rotateLeft 4 ^^^ 0x63

/-- Add byte lists. -/
def xorBytes (a b : List Byte) : List Byte := List.zipWith (· ^^^ ·) a b

/-- The key schedule, newest word of four bytes first: `i` counts words from 8. -/
def aesExpand : Nat → Nat → Byte → List (List Byte) → List (List Byte)
  | 0, _, _, w => w
  | n + 1, i, rcon, w =>
    let t := w.getD 0 []
    let old := w.getD 7 []
    if i % 8 = 0 then
      let r := (t.drop 1 ++ t.take 1).map sbox
      aesExpand n (i + 1) (xtime rcon) (xorBytes old (xorBytes r [rcon, 0, 0, 0]) :: w)
    else if i % 8 = 4 then aesExpand n (i + 1) rcon (xorBytes old (t.map sbox) :: w)
    else aesExpand n (i + 1) rcon (xorBytes old t :: w)

/-- The fifteen round keys of 16 bytes. -/
def aesKeys (key : List Byte) : List (List Byte) :=
  (chunks 4 15 ((aesExpand 52 8 1 (chunks 4 8 key).reverse).reverse)).map List.flatten

/-- ShiftRows on a state held column by column. -/
def shiftRows (s : List Byte) : List Byte := (List.range 16).map (fun i => s.getD ((i + 4 * (i % 4)) % 16) 0)

/-- MixColumns of one column. -/
def mixColumn (c : List Byte) : List Byte :=
  (List.range 4).map (fun i =>
    xtime (c.getD i 0) ^^^ (xtime (c.getD ((i + 1) % 4) 0) ^^^ c.getD ((i + 1) % 4) 0) ^^^ c.getD ((i + 2) % 4) 0 ^^^ c.getD ((i + 3) % 4) 0)

/-- The rounds over the round keys that are left, the last one without MixColumns. -/
def aesRounds : List (List Byte) → List Byte → List Byte
  | [], s => s
  | [k], s => xorBytes (shiftRows (s.map sbox)) k
  | k :: ks, s => aesRounds ks (xorBytes ((chunks 4 4 (shiftRows (s.map sbox))).flatMap mixColumn) k)

/-- AES-256 of one block. -/
def aes256 (key block : List Byte) : List Byte :=
  match aesKeys key with
  | [] => block
  | k :: ks => aesRounds ks (xorBytes block k)

/-! ### GMAC -/

/-- Multiplication in GF(2^128), bit 127 of a number being the first bit of its block. -/
def ghashMul : Nat → BitVec 128 → BitVec 128 → BitVec 128 → BitVec 128
  | 0, _, _, z => z
  | n + 1, x, v, z =>
    ghashMul n (x <<< 1) (if v.getLsbD 0 then (v >>> 1) ^^^ (0xE1 : BitVec 128) <<< 120 else v >>> 1) (if x.getLsbD 127 then z ^^^ v else z)

/-- The block of up to 16 bytes, filled with zeros. -/
def block128 (l : List Byte) : BitVec 128 := BitVec.ofNat 128 (beNat ((l ++ List.replicate 16 0).take 16))

/-- The 128-bit GMAC of additional data under a key and a 96-bit IV (R501). -/
def gmac (key iv data : List Byte) : List Byte :=
  let h := block128 (aes256 key (List.replicate 16 0))
  let blocks := (chunks 16 (data.length / 16 + 1) data).map block128 ++ [block128 (beBytes 8 (8 * data.length))]
  let s := blocks.foldl (fun y b => ghashMul 128 (y ^^^ b) h 0) 0
  beBytes 16 (s ^^^ block128 (aes256 key (iv ++ [0, 0, 0, 1]))).toNat

/-! ### P-256 -/

/-- The prime of the field, the coefficient b, the order, and the base point. -/
def p256P : Nat := 0xFFFFFFFF00000001000000000000000000000000FFFFFFFFFFFFFFFFFFFFFFFF
def p256B : Nat := 0x5AC635D8AA3A93E7B3EBBD55769886BC651D06B0CC53B0F63BCE3C3E27D2604B
def p256N : Nat := 0xFFFFFFFF00000000FFFFFFFFFFFFFFFFBCE6FAADA7179E84F3B9CAC2FC632551
def p256G : Nat × Nat :=
  (0x6B17D1F2E12C4247F8BCE6E563A440F277037D812DEB33A0F4A13945D898C296,
   0x4FE342E2FE1A7F9B8EE7EB4A7C0F9E162BCE33576B315ECECBB6406837BF51F5)

/-- A power modulo m, over `n` bits of the exponent. -/
def powMod (m : Nat) : Nat → Nat → Nat → Nat
  | 0, _, _ => 1 % m
  | n + 1, a, e =>
    let r := powMod m n (a * a % m) (e / 2)
    if e % 2 = 1 then r * a % m else r

/-- The inverse modulo a prime of 256 bits. -/
def invMod (m a : Nat) : Nat := powMod m 256 (a % m) (m - 2)

/-- The sum of two points; none is the point at infinity. -/
def p256Add (a b : Option (Nat × Nat)) : Option (Nat × Nat) :=
  match a, b with
  | none, b => b
  | a, none => a
  | some (x, y), some (u, v) =>
    if x = u ∧ (y + v) % p256P = 0 then none
    else
      let l := if x = u then 3 * (x * x + p256P - 1) * invMod p256P (2 * y) % p256P
               else (v + p256P - y) * invMod p256P (u + p256P - x) % p256P
      let w := (l * l + 2 * p256P - x - u) % p256P
      some (w, (l * (x + p256P - w) + p256P - y) % p256P)

/-- A multiple of a point, over `n` bits of the factor. -/
def p256Mul : Nat → Nat → Option (Nat × Nat) → Option (Nat × Nat)
  | 0, _, _ => none
  | n + 1, k, a =>
    let r := p256Mul n (k / 2) (p256Add a a)
    if k % 2 = 1 then p256Add r a else r

/-- The public key of a private key. -/
def p256Pub (d : Nat) : Option (Nat × Nat) := p256Mul 256 d (some p256G)

/-- Does a point lie on the curve? -/
def p256On (q : Nat × Nat) : Bool :=
  decide (q.1 < p256P) && decide (q.2 < p256P) && (q.2 * q.2) % p256P == (q.1 ^ 3 + (p256P - 3) * q.1 + p256B) % p256P

/-- ECDSA verification of (r, s) over a hash. -/
def ecdsaVerify (q : Nat × Nat) (hash : List Byte) (r s : Nat) : Bool :=
  let e := beNat hash
  let w := invMod p256N s
  p256On q && decide (0 < r) && decide (r < p256N) && decide (0 < s) && decide (s < p256N) &&
  (match p256Add (p256Mul 256 (e * w % p256N) (some p256G)) (p256Mul 256 (r * w % p256N) (some q)) with
   | some (x, _) => x % p256N == r
   | none => false)

/-- The signature with a given secret number, when it gives one. -/
def ecdsaWith (d e k : Nat) : Option (Nat × Nat) :=
  if k = 0 ∨ p256N ≤ k then none
  else match p256Mul 256 k (some p256G) with
    | none => none
    | some (x, _) =>
      let r := x % p256N
      let s := invMod p256N k * (e + r * d) % p256N
      if r = 0 ∨ s = 0 then none else some (r, s)

/-- The search for the secret number, from the generator's key and value. -/
def ecdsaTry (d e : Nat) : Nat → List Byte → List Byte → Option (Nat × Nat)
  | 0, _, _ => none
  | n + 1, key, v =>
    let v := hmac key v
    match ecdsaWith d e (beNat v) with
    | some sig => some sig
    | none =>
      let key := hmac key (v ++ [0])
      ecdsaTry d e n key (hmac key v)

/-- The deterministic signature over a hash, with up to 64 secret numbers tried. -/
def ecdsaSign (d : Nat) (hash : List Byte) : Option (Nat × Nat) :=
  let e := beNat hash
  let x := beBytes 32 d ++ beBytes 32 (e % p256N)
  let v := List.replicate 32 (1 : Byte)
  let k := hmac (List.replicate 32 0) (v ++ [0] ++ x)
  let v := hmac k v
  let k := hmac k (v ++ [1] ++ x)
  ecdsaTry d e 64 k (hmac k v)

end Sys2Proof.Machine
end

