-- ==== Sys2Proof/Machine/Sec.lean ====
section
/-! DEFINITION. SEC: fuses, signatures, the session, the frame tag and attestation (spec/18_security.md). -/

namespace Sys2Proof.Machine

/-- Change the SEC block. -/
def Dev.onSec (s : Dev) (f : Sec → Sec) : Dev := { s with sec := f s.sec }

/-! ### Status -/

/-- SEC.STATUS. -/
def Dev.secStatus (s : Dev) : Word :=
  let c := s.sec
  let f := c.sensed
  place 35 35 (b2n f.secure) ||| place 34 34 (b2n f.kd.isSome) ||| place 33 33 (b2n f.vk0.isSome) ||| place 32 32 (b2n f.vk1.isSome) |||
    place 31 31 (b2n f.rev0) ||| place 30 30 (b2n f.rev1) ||| place 29 29 (b2n c.akValid) ||| place 28 28 (b2n c.signed) |||
    place 27 27 c.vkUsed ||| place 26 26 (b2n (f.secure || c.tagOn)) ||| place 25 25 (b2n c.tagFault) ||| place 22 16 f.svn |||
    place 2 0 c.sigResult

/-- ID.PROFILE. -/
def Dev.idProfile (s : Dev) : Word :=
  let conv := s.bt R.CNV_CTRL 12
  let lane := s.bt R.LNK_CTRL 10 && s.granted 10 0
  let scrub := s.bt R.MEM_CTRL 0 && s.bt R.MEM_CTRL 1
  let route := s.bt R.FAB_CTRL 2
  let cal := s.bt R.CAL_CTRL 0
  let fuse := s.sec.sensed.secure
  let tag := fuse || s.sec.tagOn
  place 13 13 (b2n (conv && lane && scrub && route && cal)) ||| place 12 12 (b2n cal) ||| place 11 11 (b2n route) |||
    place 10 10 (b2n scrub) ||| place 9 9 (b2n lane) ||| place 8 8 (b2n conv) |||
    place 4 4 (b2n (s.sec.akValid && tag && s.sec.signed && fuse)) ||| place 3 3 (b2n s.sec.akValid) ||| place 2 2 (b2n tag) |||
    place 1 1 (b2n s.sec.signed) ||| place 0 0 (b2n fuse)

/-! ### Boot (R494, R496, R497, R504) -/

/-- Boot step 1 senses the fuses. -/
def Dev.senseFuses (s : Dev) (f : Fuses) : Dev := s.onSec (fun c => { c with sensed := f, uid := Config.uid.toNat })

/-- The signed region of a configuration slot, its length bounded by the slot (R516). -/
def Dev.signedRegion (s : Dev) (slot : Nat) : List Byte :=
  let b := slotBase 0 slot
  s.nvmRead (b + 0x40) (min (s.nvmNat (b + 8) 4) 1048376)

/-- The signature block of a slot: Qx, Qy, r and s (R496). -/
def Dev.sigBlock (s : Dev) (slot : Nat) : List Byte :=
  let b := slotBase 0 slot
  s.nvmRead (b + 0x40 + min (s.nvmNat (b + 8) 4) 1048376) 128

/-- Check 2 of R496: which programmed, unrevoked VK is this hash? -/
def Fuses.vkOf (f : Fuses) (h : Nat) : Option Nat :=
  if f.vk0 = some h ∧ f.rev0 = false then some 0 else if f.vk1 = some h ∧ f.rev1 = false then some 1 else none

/-- The checks of R496 in order; `ue` says that a read of the slot was uncorrectable. Answers the code and the VK found. -/
def sigChecks (f : Fuses) (region block : List Byte) (ue : Bool) : Nat × Option Nat :=
  if block.all (· == 0) then (1, none)
  else
    let q := (beNat (block.take 32), beNat ((block.drop 32).take 32))
    match f.vkOf (beNat (sha256 (block.take 64))) with
    | none => (2, none)
    | some k =>
      if !ecdsaVerify q (sha256 region) (beNat ((block.drop 64).take 32)) (beNat ((block.drop 96).take 32)) then (3, some k)
      else if bytesNat (region.take 4) < f.svn then (4, some k)
      else if ue then (5, some k)
      else (0, some k)

/-- Boot step 3 over a slot (R496 to R498, R504): the checks, AK, and a new session number. -/
def Dev.bootSignature (s : Dev) (slot : Nat) (ue : Bool) : Dev :=
  let region := s.signedRegion slot
  let block := s.sigBlock slot
  let r := sigChecks s.sec.sensed region block ue
  let s := s.onSec (fun c => { c with
    sigResult := r.1, signed := r.1 == 0, vkUsed := r.2.getD 0, imageHash := beNat (sha256 region),
    vkHash := if r.2.isSome then beNat (sha256 (block.take 64)) else 0,
    slotSeq := s.slotSeq 0 slot, akValid := decide (p256Pub Config.ak = some Config.akPublic) })
  let s := if r.1 = 0 then s else s.log Ev.SEC_SIG_FAIL r.1 0
  let s := if r.1 ≠ 0 ∧ s.sec.sensed.secure then s.alertClass 5 else s
  s.advanceSession

/-! ### Fuses (R495) -/

/-- A field that holds its 32 bytes, byte 0 first, as a number. -/
def Dev.fuseBytes (s : Dev) : List Byte :=
  (List.finRange 8).flatMap (fun j => natBytes 4 (s.sec.fuseData[j].toNat % 2 ^ 32))

/-- Is a field programmed (R495)? -/
def Fuses.programmed (f : Fuses) (code : Nat) : Bool :=
  match code with
  | 0 => f.secure
  | 1 => f.kd.isSome
  | 2 => f.vk0.isSome
  | 3 => f.vk1.isSome
  | 4 => f.rev0
  | 5 => f.rev1
  | _ => decide (64 ≤ f.svn)

/-- Is VK k programmed and not revoked? -/
def Fuses.usable (f : Fuses) (k : Nat) : Bool := if k = 0 then f.vk0.isSome && !f.rev0 else f.vk1.isSome && !f.rev1

/-- The preconditions of RESULT 3: does programming the field leave no image that can boot, or revoke a VK that is not programmed? -/
def Fuses.unsafeStep (f : Fuses) (code : Nat) : Bool :=
  match code with
  | 0 => f.kd.isNone || !(f.usable 0 || f.usable 1)
  | 4 => f.vk0.isNone || (f.secure && !f.usable 1)
  | 5 => f.vk1.isNone || (f.secure && !f.usable 0)
  | _ => false

/-- A field takes its content (R494); SVN takes one bit. -/
def Fuses.program (f : Fuses) (code data : Nat) : Fuses :=
  match code with
  | 0 => { f with secure := true }
  | 1 => { f with kd := some data }
  | 2 => { f with vk0 := some data }
  | 3 => { f with vk1 := some data }
  | 4 => { f with rev0 := true }
  | 5 => { f with rev1 := true }
  | _ => { f with svn := f.svn + 1 }

/-- An outcome of R495 is shown and logged. -/
def Dev.fuseResult (s : Dev) (r : Nat) : Dev :=
  ((s.wf R.SEC_FUSE_CTRL 33 31 r).log Ev.SEC_FUSE 0 0)

/-- SEC.FUSE_CTRL.GO (R495), written by path `p`; `f` are the fuses as they are. -/
def Dev.fuseGo (s : Dev) (f : Fuses) (p : Owner) (v : Word) : Dev :=
  let code := field v 2 0
  if code = 7 ∨ s.sec.fuseBusy.isSome ∨ bit v 35 = false then s
  else
    let data := beNat s.fuseBytes
    let s := s.onSec (fun c => { c with fuseData := Vector.replicate 8 0 })
    if f.programmed code then s.fuseResult 1
    else if p ≠ .host ∧ p ≠ .mgt then s.fuseResult 2
    else if f.unsafeStep code then s.fuseResult 3
    else (s.wb R.SEC_FUSE_CTRL 34 true).onSec (fun c => { c with fuseBusy := some (code, data) })

/-- The fuses after programming: verified or not (R495, RESULT 4: programmed, with an undefined content, which is a free value; of SVN
the number of bits, none of which is ever cleared: DEDUCED, log entry 185). -/
def Dev.fuseContent (s : Dev) (f : Fuses) (code data : Nat) (ok : Bool) : Fuses × Dev :=
  if ok then (f.program code data, s)
  else if code = 6 then
    let (n, s) := s.drawNat (65 - f.svn)
    ({ f with svn := f.svn + n }, s)
  else
    let (w, s) := s.drawNat (2 ^ 256)
    (f.program code w, s)

/-- FUSE_PROGRAM_DONE (R495); in SHUTDOWN the fuses do not run (R507). -/
def Dev.fuseDone (s : Dev) (f : Fuses) (ok : Bool) : Fuses × Dev :=
  match s.sec.fuseBusy with
  | none => (f, s)
  | some (code, data) =>
    if s.isShut then (f, s) else
    let (f, s) := s.fuseContent f code data ok
    (f, ((s.wb R.SEC_FUSE_CTRL 34 false).onSec (fun c => { c with fuseBusy := none })).fuseResult (if ok then 0 else 4))

/-! ### SEC.CTRL (R34, R498, R501) -/

/-- TAG_EN of a write of SEC.CTRL (R499): set while a device key is programmed, cleared unless the secure fuse is set. -/
def Dev.tagEnable (s : Dev) (v : Word) : Dev :=
  if bit v 0 then (if s.sec.sensed.kd.isSome then s.wb R.SEC_CTRL 0 true else s)
  else if s.sec.sensed.secure then s else s.wb R.SEC_CTRL 0 false

/-- A write of SEC.CTRL (R34, R498): under SECURE a write with TAG_EN zero is logged, and its REKEY is carried out (DESIGN CHOICE,
notes/assumptions/213.md). -/
def Dev.secCtrlWrite (s : Dev) (v : Word) : Dev :=
  let s : Dev := if !bit v 0 && s.sec.sensed.secure then s.log Ev.SECURE_LOCKED 0 0 else s
  if bit v 35 then s.advanceSession else s

/-! ### The tag (R501 to R503) -/

/-- The IV of a frame number: UID × 2^36 + number, in 12 bytes (R501). -/
def tagIv (uid : Nat) (num : Word) : List Byte := beBytes 12 (uid * 2 ^ 36 + num.toNat)

/-- The additional data A: the blocks sent, the FE, and trailer bits 0 to 143 (R502). -/
def tagData (covered : List (BitVec 64)) (fe : BitVec 64) (head : Nat) : List Byte :=
  (covered ++ [fe]).flatMap (fun b => natBytes 8 b.toNat) ++ natBytes 18 head

/-- The tag of a frame (R500, R501). -/
def Dev.frameTag (s : Dev) (c : TxFrame) (fe : BitVec 64) (head : Nat) : List Byte :=
  match c.zeroTag, s.sec.sensed.kd with
  | false, some kd => gmac (tagKey kd s.sec.uid c.session) (tagIv s.sec.uid c.frame.num) (tagData c.covered fe head)
  | _, _ => List.replicate 16 0

/-- TAG_READY (R254, R503): the held FE and its trailer are sent. -/
def Dev.tagReady (s : Dev) : Dev :=
  match s.lnk.cur with
  | none => s
  | some c => match c.tagWait with
    | none => s
    | some fe =>
      let f := c.frame
      let head := trailerHead f.num f.stamp f.status
      ((s.bump R.SEC_TAG_COUNT).sendFrameLink (feBlocks fe.toNat head (s.frameTag c fe head))).endVc0 c

/-! ### Attestation (R504 to R506) -/

/-- The 32 bytes of the challenge. -/
def Dev.challenge (s : Dev) : List Byte := (List.range 8).flatMap (fun j => natBytes 4 (s.fd (R.SEC_CHALj j) 31 0))

/-- The request ends with ERR and a reason. -/
def Dev.attFail (s : Dev) (r : Nat) : Dev :=
  ((((s.wb R.SEC_ATT_CTRL 32 false).wb R.SEC_ATT_CTRL 30 true).wf R.SEC_ATT_CTRL 2 0 r).onSec (fun c => { c with att := none }))

/-- A write of SEC.ATT_CTRL: MEM is plain; GO and ABORT both one leave the whole register as it is. -/
def Dev.attWrite (s : Dev) (v : Word) : Dev :=
  if bit v 34 then (if s.sec.att.isSome then s.attFail 4 else s)
  else if bit v 35 && s.sec.att.isNone then
    let s := (s.wb R.SEC_ATT_CTRL 31 false).wb R.SEC_ATT_CTRL 30 false
    if !s.sec.akValid then s.attFail 1
    else
      let range := if bit v 33 then some (s.fd R.SEC_ATT_BASE 28 0, s.fd R.SEC_ATT_WORDS 29 0) else none
      (s.wb R.SEC_ATT_CTRL 32 true).onSec (fun c => { c with att := some ⟨range, s.tb, s.challenge⟩ })
  else s

/-- The hash of the range, or why there is none (R506). -/
def Dev.attRange (s : Dev) (range : Option (Nat × Nat)) : Except Nat (List Byte × List Byte) × Dev :=
  match range with
  | none => (.ok (List.replicate 8 0, List.replicate 32 0), s)
  | some (base, n) =>
    if n = 0 ∨ s.usableTop < base + n then (.error 2, s)
    else
      let (ws, s) := s.memReadRun 8 base n
      if ws.any (·.2) then (.error 3, s)
      else (.ok (beBytes 4 base ++ beBytes 4 n, sha256 (ws.flatMap (fun x => wordBytes x.1))), s)

/-- Bytes 0 to 191 of the response (R505). -/
def Dev.attBody (s : Dev) (r : AttReq) (rangeBytes memHash : List Byte) : List Byte :=
  beBytes 4 1 ++ beBytes 8 s.sec.uid ++
  [s.rd R.ID_DEVICE, s.rd R.ID_REVISION, s.idProfile, s.secStatus].flatMap wordBytes ++
  beBytes 4 s.sec.slotSeq ++ beBytes 32 s.sec.imageHash ++ beBytes 32 s.sec.vkHash ++ beBytes 4 s.sec.session ++
  beBytes 9 r.stamp.toNat ++ r.chal ++ rangeBytes ++ memHash ++ List.replicate 7 0

/-- The signature over the body; its secret numbers never run out in practice, and a signature would then be free. -/
def Dev.attSign (s : Dev) (body : List Byte) : (Nat × Nat) × Dev :=
  match ecdsaSign Config.ak (sha256 body) with
  | some sig => (sig, s)
  | none =>
    let (a, s) := s.drawNat (2 ^ 256)
    let (b, s) := s.drawNat (2 ^ 256)
    ((a, b), s)

/-- Place bytes in SEC.ATT_OUTj. -/
def Dev.attOut (s : Dev) (l : List Byte) : Dev :=
  (List.range 64).foldl (fun (s : Dev) j => s.wr (R.SEC_ATT_OUTj j) (BitVec.ofNat 36 (bytesNat ((l.drop (4 * j)).take 4)))) s

/-- ATTEST_COMPLETE (R505, R506). -/
def Dev.attComplete (s : Dev) : Dev :=
  match s.sec.att with
  | none => s
  | some r =>
    match s.attRange r.range with
    | (.error n, s) => (s.attFail n).alertClass 5
    | (.ok (rangeBytes, memHash), s) =>
      let body := s.attBody r rangeBytes memHash
      let (sig, s) := s.attSign body
      let s := s.attOut (body ++ beBytes 32 sig.1 ++ beBytes 32 sig.2)
      (((s.wb R.SEC_ATT_CTRL 32 false).wb R.SEC_ATT_CTRL 31 true).onSec (fun c => { c with att := none })).log Ev.SEC_ATTEST 0 0

end Sys2Proof.Machine
end

