-- ==== Sys2Proof/Machine/Port.lean ====
section
/-! DEFINITION. The data-port spaces (R406), and the host port's relay requests and owner reset (R390 to R393, R411 to R415). -/

namespace Sys2Proof.Machine

/-- Change the host port. -/
def Dev.onHst (s : Dev) (f : Hst → Hst) : Dev := { s with hst := f s.hst }

/-- Change the boot controller. -/
def Dev.onBoot (s : Dev) (f : Boot → Boot) : Dev := { s with boot := f s.boot }

/-! ### Data-port spaces -/

/-- An unlisted word of a staging space. -/
def stageZero : Nat → Word := fun _ => 0

/-- An unlisted word of the NVM staging space, of 32 bits. -/
def stageNat : Nat → Nat := fun _ => 0

/-- The words of a data-port space (R406); spaces 4 to 7 hold none. -/
def Dev.spaceWords (s : Dev) (space : Nat) : Nat :=
  match space with
  | 0 => s.usableTop
  | 1 => 16384
  | 2 => 262144
  | 3 => 524288
  | _ => 0

/-- Read one word of a space: the word, whether it is uncorrectable, and whether it is refused (R406). -/
def Dev.dpRead (s : Dev) (space a : Nat) : Word × Bool × Bool × Dev :=
  if space = 0 then
    let refused := decide (s.usableTop ≤ a)
    let (w, ue, s) := s.memRead 9 a
    (w, ue, refused, s)
  else if s.spaceWords space ≤ a then (0, false, true, s)
  else if space = 1 then (s.rd (0x14000 + a), false, false, s)
  else if space = 2 then (Cells.get stageZero s.pip.staging a, false, false, s)
  else (BitVec.ofNat 36 (Cells.get stageNat s.boot.staging a), false, false, s)

/-- Read a run of words: the words, whether any is uncorrectable, and whether any is refused. A codeword of frame memory is read once for its two words
(R204, R205); `seen` when the first word shares its codeword with the word read before. -/
def Dev.dpReadRun (s : Dev) (space a : Nat) (n : Nat) (seen : Bool := false) : List Word × Bool × Bool × Dev :=
  match n with
  | 0 => ([], false, false, s)
  | n + 1 =>
    let (w, ue, no, s') := s.dpRead space a
    let s := if seen && space == 0 && a % 2 == 1 && !no then s else s'
    let (ws, ues, nos, s) := s.dpReadRun space (a + 1) n true
    (w :: ws, ue || ues, no || nos, s)

/-- Write one word of a space other than frame memory, for path `p`: true when it is refused. -/
def Dev.dpWrite (s : Dev) (p : Owner) (space a : Nat) (w : Word) : Bool × Dev :=
  if s.spaceWords space ≤ a then (true, s)
  else if space = 1 then (false, (s.wr (0x14000 + a) w).abortStagers p (0x14000 + a))
  else if space = 2 then (false, { s with pip := { s.pip with staging := Cells.put stageZero s.pip.staging a w } })
  else (false, s.onBoot (fun b => { b with staging := Cells.put stageNat b.staging a (w.toNat % 2 ^ 32) }))

/-- Write a run of words (R206, R406): in frame memory a codeword of which both words are written takes them together; true when any is
refused. -/
def Dev.dpWriteRun (s : Dev) (p : Owner) (space a : Nat) : List Word → Bool × Dev
  | [] => (false, s)
  | w :: ws =>
    let no := decide (s.spaceWords space ≤ a)
    let s := if space ≠ 0 then (s.dpWrite p space a w).2
             else if a % 2 = 1 ∨ !ws.isEmpty then s.memWrite 9 a w else s.memWritePart a w
    let (nos, s) := s.dpWriteRun p space (a + 1) ws
    (no || nos, s)

/-- A data-port write of a run (R206): a first word that is the upper half of a codeword is written alone. -/
def Dev.dpWriteAll (s : Dev) (p : Owner) (space a : Nat) (ws : List Word) : Bool × Dev :=
  match ws with
  | w :: rest =>
    if space = 0 ∧ a % 2 = 1 then
      let no := decide (s.usableTop ≤ a)
      let (nos, s) := (s.memWritePart a w).dpWriteRun p space (a + 1) rest
      (no || nos, s)
    else s.dpWriteRun p space a ws
  | [] => (false, s)

/-! ### Relay requests of this device as the gateway -/

/-- A RELAY_REQ packet (R393). -/
def relayReqPacket (dst src : Nat) (r : RelayReq) : List Byte :=
  fabPacket 0x55 (natBytes 2 dst ++ natBytes 2 src ++ [BitVec.ofNat 8 r.rseq, BitVec.ofNat 8 r.op, BitVec.ofNat 8 r.count] ++
    natBytes 4 r.addr ++ packWords r.words)

/-- A RELAY_RSP packet (R393). -/
def relayRspPacket (dst src rseq status count : Nat) (words : List Word) : List Byte :=
  fabPacket 0x66 (natBytes 2 dst ++ natBytes 2 src ++ [BitVec.ofNat 8 rseq, BitVec.ofNat 8 status, BitVec.ofNat 8 count] ++ packWords words)

/-- Send a packet along the route to an identifier. -/
def Dev.sendTo (s : Dev) (id : Nat) (l : List Byte) : Dev :=
  match s.routeTo id with
  | some (f, _) => s.fabSendOn (fabIdx f) l
  | none => s

/-- The target of a relay slot, when the slot, the fabric and a route allow a request (R411). -/
def Dev.slotTarget (s : Dev) (k : Nat) : Option Nat :=
  let r := s.rd (R.FAB_RELAYk (k - 1))
  if bit r 35 && s.fabOn && (s.routeTo (field r 13 0)).isSome then some (field r 13 0) else none

/-- Send, or send again, the relay request (R390, R412). -/
def Dev.sendRelay (s : Dev) (r : RelayReq) : Dev :=
  let s := s.sendTo r.target (relayReqPacket r.target s.ownId r)
  let s := s.onHst (fun h => { h with relay := some { r with sentAt := s.tick, late := false }, rseq := r.rseq })
  (s.wf R.HST_STATUS 13 8 r.slot).wf R.HST_STATUS 7 0 r.rseq

/-- The next session end after a port reset (R415); a slot whose target cannot be reached is passed over. -/
def Dev.nextEnd (s : Dev) : List Nat → Dev
  | [] => s.onHst (fun h => { h with relay := none, ends := [] })
  | k :: rest =>
    match s.slotTarget k with
    | some t => (s.onHst (fun h => { h with ends := rest })).sendRelay
        { bytes := [], slot := k, target := t, rseq := (s.hst.rseq + 1) % 256, op := 4, count := 0, addr := 0, words := [], packed := false,
          sentAt := 0 }
    | none => s.nextEnd rest

/-- The host port owner resets (R415). -/
def Dev.hostReset (s : Dev) : Dev :=
  let s := s.ownerReset .host
  let ends := (List.range 64).filter (fun k => s.hst.used.contains k)
  let s := (s.wr R.HST_STATUS 0).onHst (fun h => { h with kept := none, relay := none, used := [] })
  s.nextEnd ends

/-- HST.STATUS. -/
def Dev.hstStatus (s : Dev) : Word :=
  (s.rd R.HST_STATUS &&& (fieldMask 35 34 ||| fieldMask 13 0)) ||| place 33 33 (b2n s.hst.kept.isSome) ||| place 32 32 (b2n s.hst.relay.isSome)

end Sys2Proof.Machine
end

