-- ==== Sys2Proof/Machine/Reset.lean ====
section
/-! DEFINITION. PWR and CFG: resets, the start of a boot, restart, maintenance, and the registers that show them
(spec/19_boot_configuration_and_faults.md). -/

namespace Sys2Proof.Machine

/-! ### Registers computed from the state -/

/-- PWR.FAULT, with MAINT and CRIT as bits of the stored word. -/
def Dev.pwrFault (s : Dev) : Word := s.rd R.PWR_FAULT

/-- PWR.STATE: READY is high only in RUN, NFAULT is low while PWR.FAULT is not zero (R520). -/
def Dev.pwrState (s : Dev) : Word :=
  setField (setField (s.rd R.PWR_STATE) 32 32 (b2n (s.fd R.PWR_STATE 35 33 == 2))) 31 31 (b2n (s.pwrFault != 0))

/-- Two-bit fields packed from bit 0 up. -/
def pack2 : List Nat → Nat
  | [] => 0
  | x :: xs => x % 4 + 4 * pack2 xs

/-- Bytes packed from bit 0 up. -/
def pack8 : List Nat → Nat
  | [] => 0
  | x :: xs => x % 256 + 256 * pack8 xs

/-- Is the fallback record not in its initial state? -/
def Dev.fallbackActive (s : Dev) : Bool := decide (s.nvm.fallback ≠ {})

/-- CFG.BOOT_SUMMARY. -/
def Dev.bootSummary (s : Dev) : Word :=
  let b := s.boot
  place 35 32 (b.step.getD (b.results.length - 1)) ||| place 31 30 (b.slot.getD 3) ||| place 29 29 (b2n s.fallbackActive) |||
    place 28 28 (b2n b.skipRule) ||| place 27 27 (b2n (b.results.any (fun r => r.1 == 2))) |||
    place 26 24 (s.fd R.PWR_STATE 29 27) ||| place 23 0 (pack2 (b.results.map (·.1)))

/-- CFG.BOOT_CODEj. -/
def Dev.bootCode (s : Dev) (j : Nat) : Word := place 31 0 (pack8 (((s.boot.results.drop (4 * j)).take 4).map (·.2)))

/-- CFG.FALLBACK. -/
def Dev.fallbackWord (s : Dev) : Word :=
  let f := s.nvm.fallback
  place 31 24 (pack2 f.counts) ||| place 23 20 (f.counts.foldr (fun c n => b2n (c == 3) + 2 * n) 0) ||| place 19 16 f.ports |||
    place 15 0 (pack2 f.chans)

/-- CFG.SLOTs: validity and sequence number as read at boot step 1 or written since, and whether a configuration slot is excluded. -/
def Dev.cfgSlot (s : Dev) (k : Nat) : Word :=
  setField (s.rd (R.CFG_SLOTs k)) 34 34 (b2n (k < 2 && s.boot.excluded.testBit k))

/-! ### Resets -/

/-- The control-space words with sticky fields that a reset keeps (R508): PWR.STATE, PWR.FAULT, CFG.CTRL and CNV.EDGE_FAIL; PWR.RAILS is live. -/
def Dev.keptWords (s : Dev) (cause starts : Nat) (st : Bool) (rails : Nat) : List (Nat × Word) :=
  (R.PWR_RAILS, place 11 0 rails) ::
  let state := place 35 33 1 ||| place 29 27 cause ||| place 23 0 starts
  if st then
    [(R.PWR_STATE, state ||| (s.rd R.PWR_STATE &&& fieldMask 30 30)),
     (R.PWR_FAULT, s.rd R.PWR_FAULT &&& (fieldMask 13 8 ||| fieldMask 1 1)),
     (R.CFG_CTRL, s.rd R.CFG_CTRL &&& fieldMask 0 0),
     (R.CNV_EDGE_FAIL_L, s.rd R.CNV_EDGE_FAIL_L), (R.CNV_EDGE_FAIL_R, s.rd R.CNV_EDGE_FAIL_R)]
  else [(R.PWR_STATE, state)]

/-- Every register, queue and engine returns to its reset value (R508): what lives on is the time since power-up, the MRAM, the draw counter, the
straps, the converters behind the sticky counts, and the mark of a fuse programming that the reset cut. -/
def Dev.resetTo (s : Dev) (cause starts : Nat) (st : Bool) (boot : Boot) : Dev :=
  { ctl := (s.keptWords cause starts st boot.rails).foldl (fun c x => Cells.put resetOf c x.1 x.2) [],
    tick := s.tick, free := s.free,
    nvm := { s.nvm with startNo := (s.nvm.startNo + 1) % 2 ^ 32 },
    cnv := { ({} : Cnv) with edgeBad := if st then s.cnv.edgeBad else [] },
    cal := { lastSlew := s.tick, items := Vector.replicate 6 { lastEnd := s.tick } },
    ktl := { lastEval := s.tick },
    evt := { held := s.evt.held.map (fun _ => []) },
    mgt := { ({} : Mgt) with strap := s.mgt.strap },
    sec := { ({} : Sec) with fuseCut := s.sec.fuseBusy.orElse (fun _ => s.sec.fuseCut) },
    boot := boot }

/-- Do the rails keep the device in RESET: one below its undervoltage trip, after a brown-out one beyond either trip (R507 to R509)? `cause` is that of the
reset. -/
def railsKeep (cause rails : Nat) : Bool := if cause = 1 then rails != 0 else rails % 64 != 0

/-- Do the rails as they stand keep the device in RESET? -/
def Dev.railsHold (s : Dev) : Bool := railsKeep (s.fd R.PWR_STATE 29 27) s.boot.rails

/-- A reset that begins at step 0 (R508). At a power-on every rail is above its undervoltage trip; at another reset the device stays in RESET while the rails
keep it there (R507). -/
def Dev.deviceReset (s : Dev) (cause : Nat) (st : Bool) : Dev :=
  let starts := if st then min (s.fd R.PWR_STATE 23 0 + 1) 0xFFFFFF else 1
  let rails := if cause = 0 then s.boot.rails / 64 * 64 else s.boot.rails
  s.resetTo cause starts st { rails := rails, inReset := railsKeep cause rails }

/-- RESTART (R508, R514, R519): the start that ends is recorded, and the next one begins at step 1 with the step-0 entry copied; both events of R514,
and those of R497 and R498, stand in the log of the new start. -/
def Dev.restart (s : Dev) (step code : Nat) : Dev :=
  let b := s.boot
  let kd := s.sec.sensed.kd.isSome
  let s := (s.onBoot (fun b => { b with outcome := 2 })).writeRecord
  let s := s.resetTo 4 (min (s.fd R.PWR_STATE 23 0 + 1) 0xFFFFFF) true
    { step := some 1, results := b.results.take 1, excluded := b.excluded, pllFails := b.pllFails, masked := b.masked, rails := b.rails }
  let s : Dev := if step = 3 then
      let s := (s.log Ev.SEC_SIG_FAIL code 0).alertClass 5
      if kd then (if s.nvm.ok then s.log Ev.SEC_REKEY 0 s.nvm.session else s.log Ev.SEC_TAG_FAIL 0 0) else s
    else s
  (((s.log Ev.BOOT_STEP_FAIL step code).log Ev.BOOT_FALLBACK 0 0).alertClass 4).writeRecord

/-- The PLLs are off, and the timebase reads zero (R515). -/
def Dev.clocksOff (s : Dev) : Dev :=
  let s := (s.wr R.CLK_STATUS 0).onClk (fun _ => {})
  { s with tb := 0, tbRun := false }

/-- Maintenance (R515). -/
def Dev.maintenance (s : Dev) (cause : Nat) : Dev :=
  let s := ((s.wf R.PWR_STATE 35 33 3).wf R.PWR_STATE 26 24 cause).wb R.PWR_FAULT 2 true
  let s := (s.wf R.MEM_STATUS 16 0 0xFFFF).clocksOff
  let s := (s.lnkIdle 0).fabIdle
  let s := s.onBoot (fun b => { b with step := none, outcome := 3 })
  ((s.alertClass 4).log Ev.MAINTENANCE cause 0).writeRecord

/-- SHUTDOWN again after a reset with the latch set (R510). -/
def Dev.backToShutdown (s : Dev) : Dev :=
  ((s.wf R.PWR_STATE 35 33 4).onBoot (fun b => { b with step := none, outcome := 4 })).writeRecord

/-- A supply fault (R509): `uv` and `ov` are the rails below and above their trips. With none, the rails have returned. In RESET nothing
runs, and BOOT begins once the rails keep it there no longer (R507, R508). -/
def Dev.supplyFault (s : Dev) (uv ov : Nat) : Dev :=
  let mask := uv ||| ov
  let held := s.boot.inReset
  let s := (s.onBoot (fun b => { b with rails := uv + 64 * ov, inReset := b.inReset && railsKeep (s.fd R.PWR_STATE 29 27) (uv + 64 * ov) })).wr R.PWR_RAILS (place 11 6 ov ||| place 5 0 uv)
  if mask = 0 || held then s
  else (((s.wf R.PWR_FAULT 13 8 (s.fd R.PWR_FAULT 13 8 ||| mask)).wb R.PWR_FAULT 0 true).log Ev.SUPPLY_FAULT mask 0).alertClass 0

/-- BROWN_OUT (R508, R519): the record of the start takes a shutdown entry when the device can still write it. -/
def Dev.brownOut (s : Dev) (recorded : Bool) : Dev :=
  let s : Dev := if recorded then
      match s.drawNat 256 with
      | (d, s) => match s.drawNat 65536 with
        | (t, s) => (s.onBoot (fun b => { b with shut := (2, d, t, (b.rails ||| b.rails / 64) % 64) })).writeRecord
    else s
  s.deviceReset 1 false

/-- SOFT_RESET (R508): only the host port and the management bus reset the device. -/
def Dev.softReset (s : Dev) (p : Owner) (v : Word) : Dev :=
  if bit v 35 then
    match p with
    | .host => s.deviceReset 3 true
    | .mgt => s.deviceReset 3 true
    | _ => s
  else s

/-! ### CFG commands -/

/-- The fallback record returns to its initial state (R513). -/
def Dev.fallbackClear (s : Dev) : Dev := s.onFallback (fun _ => {})

/-- A write of CFG.CTRL. -/
def Dev.cfgCtrlWrite (s : Dev) (v : Word) : Dev :=
  if bit v 35 then s.fallbackClear else s

/-- Words of 32 bits from bytes, as NVM staging holds them (R406). -/
def stageFill (l : List Byte) : Cells Nat :=
  ((chunks 4 (l.length / 4 + 1) l).foldl (fun (x : Cells Nat × Nat) w => (Cells.put stageNat x.1 x.2 (bytesNat w), x.2 + 1)) ([], 0)).1

/-- The bytes that NVM staging holds. -/
def Dev.stageBytes (s : Dev) (n : Nat) : List Byte :=
  (List.range (n / 4)).flatMap (fun i => natBytes 4 (Cells.get stageNat s.boot.staging i))

/-- The number of words of a defect map in staging, up to its terminator: at most all of them. -/
def mapEntries (at_ : Nat → Word) : Nat → Nat → Nat
  | 0, i => i
  | n + 1, i => if field (at_ i) 35 34 = 3 then i + 1 else mapEntries at_ n (i + 1)

/-- RESULT of CFG.NVM_CMD. -/
def Dev.nvmResult (s : Dev) (r : Nat) : Dev := s.wf R.CFG_NVM_CMD 33 31 r

/-- LOAD of a slot (R518): configuration and caddy into NVM staging, a defect map into its staging space. -/
def Dev.nvmLoad (s : Dev) (region : Nat) : Dev :=
  match s.newestSlot region with
  | none => s.nvmResult 4
  | some k =>
    let b := slotBase region k
    if region = 1 then
      ((List.range 262081).foldl (fun (s : Dev) i =>
        { s with pip := { s.pip with staging := Cells.put stageZero s.pip.staging i (bytesWord (s.nvmRead (b + 16 + 5 * i) 5)) } }) s).nvmResult 0
    else (s.onBoot (fun x => { x with staging := stageFill (s.nvmRead b (slotSize region)) })).nvmResult 0

/-- LOAD of the boot log (R518, R519): how the two copies of the fallback record are coded is free. -/
def Dev.logLoad (s : Dev) : Dev :=
  let copy := fun (k : Option Nat) => natBytes 256 ((k.map Config.freeNat).getD 0 % 2 ^ 2048)
  (s.onBoot (fun x => { x with staging := stageFill (copy s.nvm.copies[0] ++ copy s.nvm.copies[1] ++ s.nvmRead (logBase + 512) (logSize - 512)) })).nvmResult 0

/-- The image of a slot to be committed, with its sequence number (R516, R518). -/
def Dev.commitImage (s : Dev) (region seq : Nat) : List Byte :=
  if region = 0 then
    let l := s.stageBytes (slotSize 0)
    slotImage 0 (l.take 4 ++ natBytes 4 seq ++ l.drop 8)
  else
    let at_ := fun i => Cells.get stageZero s.pip.staging i
    let n := mapEntries at_ 262081 0
    slotImage 1 (natBytes 4 1 ++ natBytes 4 seq ++ natBytes 8 (n - 1) ++ (List.range n).flatMap (fun i => wordBytes (at_ i)))

/-- COMMIT (R518). -/
def Dev.nvmCommit (s : Dev) (region : Nat) : Dev :=
  let (slot, seq, s) := s.storeSlot region
  let img := s.commitImage region seq
  ((s.beginSlot region slot img).wb R.CFG_NVM_CMD 34 true).onBoot (fun b => { b with commit := some ⟨region, slot, seq, img⟩ })

/-- CFG.NVM_CMD with GO (R518). -/
def Dev.nvmCmd (s : Dev) (v : Word) : Dev :=
  let action := field v 4 3
  let region := field v 2 0
  if bit v 35 = false then s
  else if s.boot.commit.isSome then s.nvmResult 2
  else if action = 1 ∧ region ≤ 2 then s.nvmLoad region
  else if action = 1 ∧ region = 3 then s.logLoad
  else if action = 2 ∧ region ≤ 1 then s.nvmCommit region
  else s.nvmResult 1

/-- NVM_COMMIT_DONE (R518): `ok` is the read-back; every commit of a configuration slot clears the fallback record (R513). In SHUTDOWN
the MRAM does not run (R507). -/
def Dev.commitDone (s : Dev) (ok : Bool) : Dev :=
  match s.boot.commit with
  | none => s
  | some c =>
    if s.isShut then s else
    let s := (s.onBoot (fun b => { b with commit := none })).wb R.CFG_NVM_CMD 34 false
    if ok then
      let s := ((s.endSlot c.region c.slot c.seq c.bytes).nvmResult 0).log Ev.NVM_COMMIT 0 0
      if c.region = 0 then s.fallbackClear else s
    else (s.nvmResult 3).log Ev.NVM_COMMIT_FAIL 0 0

/-! ### EVT commands -/

/-- EVT.CTRL.CLEAR (R523). -/
def Dev.logClear (s : Dev) : Dev := { s with evt := { held := s.evt.held } }

/-- EVT.POP.POP (R523). -/
def Dev.logPop (s : Dev) : Dev := { s with evt := { s.evt with entries := s.evt.entries.drop 1 } }

/-- EVT.SUMMARY. -/
def Dev.evtSummary (s : Dev) : Word :=
  place 35 35 (b2n s.evt.overflow) ||| place 34 28 s.evt.entries.length |||
    place 27 20 (match s.evt.entries.getLast? with
      | some e => e.code
      | none => 0) |||
    place 19 12 (s.fd R.MGT_ALERT 7 0) ||| place 11 0 s.evt.dropped

/-- EVT.LOGe_w: word w of entry e, zero beyond the entries. -/
def Dev.logWord (s : Dev) (e w : Nat) : Word :=
  match s.evt.entries[e]? with
  | some x => x.words.getD w 0
  | none => 0

end Sys2Proof.Machine
end

