-- ==== Sys2Proof/Machine/Control.lean ====
section
/-! DEFINITION. Access to the control space: the value a read returns and what it does (R9 to R14), and what a write does, directly
or staged (R13, R14, R18, R25, R291, R294). -/

namespace Sys2Proof.Machine

/-! ### Reads -/

/-- Is the word an upper part, which is read from the path's latch (R9, R11)? The upper words of the 72-bit values, of the UID
(notes/assumptions/176.md), of the masks whose register says so, and words 1 to 3 of a log entry. -/
def latchedPart (a : Nat) : Bool :=
  a == R.TIM_TB_HI || a == R.TIM_TB_LOAD_HI || a == R.TIM_GSTART_TIME_HI || a == R.FAB_SCHED_T_HI || a == R.SEQ_TX_TIME_HI || a == R.SEC_UID_HI ||
  a == R.CAL_LAST_TIME_HI || a == R.CAL_LAST_INFO || a == R.RDO_LAST_START_HI || a == R.RDO_LAST_INFO ||
  (0x7100 ≤ a && a < 0x7180 && a % 8 == 6) ||
  (0x10100 ≤ a && a < 0x10200 && a % 32 == 5) ||
  (0x1C008 ≤ a && a < 0x1C010 && a % 2 == 1) ||
  (0x1C040 ≤ a && a < 0x1C0C0 && (a % 16 == 6 || a % 16 == 7 || a % 16 == 10)) ||
  (0x20100 ≤ a && a < 0x20200 && a % 4 != 0)

/-- The pending set of a thread, laid out as its mask (R284). -/
def Thread.pendWord (t : Thread) (hi : Bool) : Word :=
  t.pend.foldl (fun w x => if hi then (if 36 ≤ x.1 then w ||| place (x.1 - 36) (x.1 - 36) 1 else w)
                           else (if x.1 < 36 then w ||| place x.1 x.1 1 else w)) 0

/-- Codes of STATE in SEQ.STATUS and SEQ.THn_CTRL (R271). -/
def ThreadState.code : ThreadState → Nat
  | .halted => 0
  | .running => 1
  | .waiting => 2
  | .faulted => 3

/-- Codes of R290. -/
def TxState.code : TxState → Nat
  | .none => 0
  | .opened => 1
  | .pending => 2
  | .applied => 3
  | .aborted => 4

/-- The start flags of an entry, without STALE. -/
def Entry.flags (e : Entry) : Word := place 1 1 (b2n e.flagPartial) ||| place 0 0 (b2n e.flagHoldover)

/-- The upper parts that a read of the word `a` by path `p` latches (R9), with their words now. -/
def Dev.upperParts (s : Dev) (p : Owner) (a : Nat) : List (Nat × Word) :=
  if a = R.TIM_TB_LO then [(R.TIM_TB_HI, hiWord s.tb)]
  else if a = R.TIM_TB_LOAD_LO then [(R.TIM_TB_LOAD_HI, s.rd R.TIM_TB_LOAD_HI)]
  else if a = R.TIM_GSTART_TIME_LO then [(R.TIM_GSTART_TIME_HI, hiWord (s.gTime p))]
  else if a = R.FAB_SCHED_T_LO then [(R.FAB_SCHED_T_HI, hiWord s.fab.times[p.idx])]
  else if a = R.SEQ_TX_TIME_LO then [(R.SEQ_TX_TIME_HI, (s.tx p).timeHi)]
  else if a = R.SEC_UID_LO then [(R.SEC_UID_HI, BitVec.ofNat 36 (s.sec.uid / 2 ^ 36))]
  else if a = R.CAL_LAST_TIME_LO then [(R.CAL_LAST_TIME_HI, s.rd R.CAL_LAST_TIME_HI), (R.CAL_LAST_INFO, s.rd R.CAL_LAST_INFO)]
  else if a = R.RDO_LAST_START_LO then
    [(R.RDO_LAST_START_HI, s.rd R.RDO_LAST_START_HI), (R.RDO_LAST_INFO, s.rd R.RDO_LAST_INFO)]
  else if 0x7100 ≤ a ∧ a < 0x7180 ∧ a % 8 = 5 then [(a + 1, s.rd (a + 1)), (a + 2, 0)]
  else if 0x10100 ≤ a ∧ a < 0x10200 ∧ a % 32 = 4 then [(a + 1, ((s.th (enIdx ((a - 0x10100) / 32))).cutPend s.tick).pendWord true)]
  else if 0x1C008 ≤ a ∧ a < 0x1C010 ∧ a % 2 = 0 then [(a + 1, zHi (s.holdOf ((a - 0x1C008) / 2)))]
  else if 0x1C040 ≤ a ∧ a < 0x1C0C0 ∧ a % 16 = 5 then
    let e := s.en (enIdx ((a - 0x1C040) / 16))
    [(a + 1, hiWord e.stamp), (a + 2, e.flags)]
  else if 0x1C040 ≤ a ∧ a < 0x1C0C0 ∧ a % 16 = 9 then [(a + 1, zHi (s.en (enIdx ((a - 0x1C040) / 16))).fired)]
  else if 0x20100 ≤ a ∧ a < 0x20200 ∧ a % 4 = 0 then
    [1, 2, 3].map (fun w => (a + w, s.logWord ((a - 0x20100) / 4) w))
  else []

/-- The owner whose transaction SEQ.TX_STATUS shows at offset `o`. -/
def txOwner (o : Nat) : Owner :=
  if o = 1 then .host else if o = 2 then .mgt else if o = 3 then .relay else .thread (enIdx (o - 8))

/-- SEQ.TX_STATUS of an owner. -/
def Dev.txStatus (s : Dev) (p : Owner) : Word :=
  let t := s.tx p
  place 35 33 t.st.code ||| place 32 32 (b2n t.late) ||| place 31 28 (if t.st = .aborted then t.cause else 0) |||
    place 27 26 t.boundary ||| place 8 0 t.staged.length

/-- A word of SEQ that shows live state. -/
def Dev.readSeq (s : Dev) (p : Owner) (a : Nat) : Word :=
  if a = R.SEQ_STATUS then
    place 16 16 (b2n s.seq.slotPending) ||| place 15 0 (pack2 ((List.finRange 8).map (fun n => ((s.threadDue n).th n).st.code)))
  else if a = R.SEQ_TX_TIME_LO then (s.tx p).timeLo
  else if 0x10021 ≤ a ∧ a < 0x10030 then s.txStatus (txOwner (a - 0x10020))
  else if 0x10040 ≤ a ∧ a < 0x10060 then
    place 7 0 (match s.threadsDue.lock ⟨(a - 0x10040) % 32, Nat.mod_lt _ (by decide)⟩ with
      | some o => o.code
      | none => 0)
  else if 0x10100 ≤ a ∧ a < 0x10200 then
    let n := enIdx ((a - 0x10100) / 32)
    let t := (s.threadDue n).th n
    let off := (a - 0x10100) % 32
    if off = 0 then place 32 31 t.st.code ||| place 30 27 (if t.st = .faulted then t.cause else 0)
    else if off = 1 then place 13 0 t.pc
    else if off = 4 then t.pendWord false
    else if off = 9 then place 13 0 t.faultPc
    else if 16 ≤ off then t.reg (off - 16)
    else s.rd a
  else s.rd a

/-- A word of STP that shows live state. -/
def Dev.readStp (s : Dev) (a : Nat) : Word :=
  if a = R.STP_STATUS then
    place 24 24 (b2n s.stp.pumpReady) |||
      place 23 0 ((List.finRange 8).foldl (fun n e => n + (s.en e).st.code * 8 ^ e.val) 0)
  else if a = R.STP_TRIG then s.rd a ||| place 1 1 (b2n s.stp.trig)
  else if a = R.STP_CLEAR_HI then s.rd a ||| place 34 34 (b2n (s.stp.clears.any (·.byReg)))
  else if a = R.STP_FRM_CTRL then
    s.rd a ||| place 33 31 s.frm.st.code ||| place 30 27 (if s.frm.st = .refused then s.frm.reason else 0) ||| place 23 22 (if s.frm.running then s.frm.rotIndex else 0)
  else if 0x1C008 ≤ a ∧ a < 0x1C010 then zLo (s.holdOf ((a - 0x1C008) / 2))
  else if 0x1C040 ≤ a ∧ a < 0x1C0C0 then
    let e := s.en (enIdx ((a - 0x1C040) / 16))
    let off := (a - 0x1C040) % 16
    if off = 0 then s.rd a ||| place 33 31 e.st.code ||| place 30 27 (if e.st = .refused then e.reason else 0)
    else if off = 5 then loWord e.stamp
    else if off = 9 then zLo e.fired
    else s.rd a
  else s.rd a

/-- A word of TIM that shows live state. -/
def Dev.readTim (s : Dev) (p : Owner) (a : Nat) : Word :=
  if a = R.TIM_TB_LO then loWord s.tb
  else if a = R.TIM_TB_CTRL then setField (s.rd a) 33 33 (b2n s.tbRun)
  else if a = R.TIM_GSTART then setField (s.rd a) 17 17 (b2n s.tim.timed.isSome)
  else if a = R.TIM_GSTART_TIME_LO then loWord (s.gTime p)
  else if 0x7100 ≤ a ∧ a < 0x7180 then
    let c := tmIdx ((a - 0x7100) / 8)
    if a % 8 = 3 then BitVec.ofNat 36 ((s.chSync c s.tick).tch c).count
    else if a % 8 = 7 then (s.chSync c s.tick).chStatWord c (bit (s.latched p a) 35)
    else s.rd a
  else s.rd a

/-- A word of FAB that shows live state. -/
def Dev.readFab (s : Dev) (p : Owner) (a : Nat) : Word :=
  if a = R.FAB_STATUS then s.fabStatus
  else if a = R.FAB_MASTER then s.fabMaster
  else if a = R.FAB_REACH then s.fabReach
  else if a = R.FAB_OFFSET then s.fabOffset
  else if a = R.FAB_SCHED_T_LO then loWord s.fab.times[p.idx]
  else if a = R.FAB_RX_HEAD then
    match s.fab.rx with
    | m :: _ => place 35 35 1 ||| place 19 16 (m.words.length - 1) ||| place 13 0 m.src
    | [] => 0
  else if 0x8020 ≤ a ∧ a < 0x8030 then
    match s.fab.rx with
    | m :: _ => m.words.getD (a - 0x8020) 0
    | [] => 0
  else if a = R.FAB_RELAY_SESSION then
    match s.fab.session with
    | some x => place 35 35 1 ||| place 21 14 x.rseq ||| place 13 0 x.gateway
    | none => s.rd a
  else if 0x8100 ≤ a ∧ a < 0x8140 then
    let f := fabIdx ((a - 0x8100) / 16)
    let x := s.port f
    if a % 16 = 0 then s.rd a ||| place 34 32 x.st
    else if a % 16 = 1 then (if x.st = 3 then place 35 35 1 ||| place 13 0 x.neigh else 0)
    else if a % 16 = 2 then s.portDelay f
    else s.rd a
  else s.rd a

/-- A word of MEM that shows live state. -/
def Dev.readMem (s : Dev) (a : Nat) : Word :=
  if a = R.MEM_POUR_TAIL then BitVec.ofNat 36 (ringTail s.mem.pourBase s.mem.pours)
  else if a = R.MEM_POUR_AREAS then BitVec.ofNat 36 (ringCount s.mem.pours)
  else if a = R.MEM_OUT_TAIL then BitVec.ofNat 36 (ringTail s.mem.outBase s.mem.outs)
  else if a = R.MEM_OUT_AREAS then BitVec.ofNat 36 (ringCount s.mem.outs)
  else if a = R.MEM_RING_CTRL then (if s.bt a 34 then s.rd a else setField (s.rd a) 33 32 0)
  else s.rd a

/-- A word of ID, PWR, SEC, CFG or CAL that shows live state. -/
def Dev.readLow (s : Dev) (a : Nat) : Word :=
  if a = R.ID_PROFILE then s.idProfile
  else if a = R.ID_SUPPRESS then s.suppressWord
  else if a = R.PWR_STATE then s.pwrState
  else if a = R.SEC_STATUS then s.secStatus
  else if a = R.SEC_CTRL then setField (s.rd a) 0 0 (b2n (s.bt a 0 || s.sec.sensed.secure))
  else if a = R.SEC_UID_LO then BitVec.ofNat 36 s.sec.uid
  else if a = R.SEC_SESSION then BitVec.ofNat 36 s.sec.session
  else if a = R.CFG_BOOT_SUMMARY then s.bootSummary
  else if 0x3002 ≤ a ∧ a < 0x3005 then s.bootCode (a - 0x3002)
  else if a = R.CFG_FALLBACK then s.fallbackWord
  else if a = R.CFG_FALLBACK_LANES then place 33 0 s.nvm.fallback.lanes
  else if 0x3010 ≤ a ∧ a < 0x3014 then s.cfgSlot (a - 0x3010)
  else if a = R.CAL_STATUS then s.calStatus
  else if 0x4010 ≤ a ∧ a < 0x4016 then setField (s.rd a) 34 32 (s.itemState ⟨(a - 0x4010) % 6, Nat.mod_lt _ (by decide)⟩)
  else s.rd a

/-- A word of the other blocks that shows live state. -/
def Dev.readMid (s : Dev) (a : Nat) : Word :=
  if a = R.KTL_STATUS then s.ktlStatus
  else if a = R.MON_STATUS then s.monStatus
  else if a = R.CLK_TB_UNCERT then s.tbUncert
  else if a = R.CLK_TB_STEER then (if s.fabAligning then s.rd a else 0)
  else if a = R.MGT_STATUS then s.rd a ||| place 32 32 (b2n s.mgt.ind.isSome) ||| place 27 24 s.mgt.strap.toNat
  else if a = R.HST_STATUS then s.hstStatus
  else if a = R.RDO_STATUS then s.rdoStatus
  else if a = R.CNV_STATUS then setField (s.rd a) 7 4 s.cnvBusy
  else if a = R.CNV_SPARE_STATUS then s.spareStatus
  else if a = R.PIP_STATUS then s.pipStatus
  else if a = R.PIP_DMAP_CTRL then s.dmapStatus
  else if a = R.LNK_STATUS then s.lnkStatus
  else if 0xF010 ≤ a ∧ a < 0xF016 then s.laneMap (a - 0xF010)
  else if a = R.EVT_SUMMARY then s.evtSummary
  else if 0x20100 ≤ a ∧ a < 0x20200 then s.logWord ((a - 0x20100) / 4) 0
  else s.rd a

/-- The value a read of a word by path `p` returns. -/
def Dev.readReg (s : Dev) (p : Owner) (a : Nat) : Word :=
  if latchedPart a then s.latched p a
  else if a < 0x5000 then s.readLow a
  else if 0x7000 ≤ a ∧ a < 0x8000 then s.readTim p a
  else if 0x8000 ≤ a ∧ a < 0x9000 then s.readFab p a
  else if 0xC000 ≤ a ∧ a < 0xD000 then s.readMem a
  else if 0x10000 ≤ a ∧ a < 0x14000 then s.readSeq p a
  else if 0x1C000 ≤ a ∧ a < 0x1D000 then s.readStp a
  else s.readMid a

/-- An upper word whose STALE flag stands in the word after it: the flag grows no older once this word is read (R10). -/
def staleApart (a : Nat) : Bool :=
  a == R.CAL_LAST_TIME_HI || a == R.RDO_LAST_START_HI || (0x7100 ≤ a && a < 0x7180 && a % 8 == 6) ||
  (0x1C040 ≤ a && a < 0x1C0C0 && a % 16 == 6)

/-- What a read of a word does besides: it latches upper parts (R9), clears RC fields (R12) and NEW of a capture (R355), and ends the time
in which an upper part can grow stale (R10). -/
def Dev.readDoes (s : Dev) (p : Owner) (a : Nat) : Dev :=
  let s := (s.upperParts p a).foldl (fun (s : Dev) x => s.latch p x.1 x.2) s
  let s : Dev := if latchedPart a then s.latchRead p a else s
  let s : Dev := if staleApart a then s.latchRead p (a + 1) else s
  let s : Dev := if 0x7100 ≤ a ∧ a < 0x7180 ∧ a % 8 = 5 then s.wb (a + 2) 32 false else s
  let s : Dev := if 0xC040 ≤ a ∧ a < 0xC068 ∧ a % 4 = 3 then
      s.onMem (fun m => { m with starved := m.starved.filter (· != (a - 0xC040) / 4) }) else s
  match regAt a with
  | some r => if r.rc then s.wr a 0 else s
  | none => s

/-- A capture held by a read of CAP_LO is posted as soon as the read completes (R355). -/
def Dev.readEnds (s : Dev) (a : Nat) : Dev :=
  if 0x7100 ≤ a ∧ a < 0x7180 ∧ a % 8 = 5 then s.capRelease (tmIdx ((a - 0x7100) / 8)) else s

/-- Does the word hold context of a thread other than the one that accesses it (R270): its PC, registers, event mask or pending set
(notes/assumptions/182.md)? -/
def foreign (p : Owner) (a : Nat) : Bool :=
  match p with
  | .thread n => decide (0x10100 ≤ a ∧ a < 0x10200) && (a - 0x10100) / 32 != n.val &&
      ((1 ≤ a % 32 && a % 32 ≤ 5) || 16 ≤ a % 32)
  | _ => false

/-- A control-space read by path `p`: the word, and the state after it; an address that no register occupies reads zero (R14, R18), and a word of another
thread's context is not reached, so that the result is free (R270). -/
def Dev.readEff (s : Dev) (p : Owner) (a : Nat) : Word × Dev :=
  match regAt a with
  | none => (0, s.badAddress p a false)
  | some _ =>
    if foreign p a then s.drawWord
    else
      let s := if 0x1C008 ≤ a ∧ a < 0x1C010 then s.holdsNow else s
      (s.readReg p a, (s.readDoes p a).readEnds a)

/-! ### Writes -/

/-- A written word with every field at a reserved code replaced by the field as it stands: the field keeps its value. -/
def legalise (a : Nat) (old v : Word) : Word :=
  let keep := fun (hi lo : Nat) (bad : Bool) (w : Word) => if bad then setField w hi lo (field old hi lo) else w
  if a = R.CNV_CTRL then keep 1 0 (field v 1 0 == 3) v
  else if 0xC040 ≤ a ∧ a < 0xC068 ∧ a % 4 = 0 then keep 6 4 (decide (4 < field v 6 4)) v
  else if a = R.CLK_CTRL then keep 1 0 (field v 1 0 == 3) v
  else if a = R.MGT_CTRL then keep 1 0 (field v 1 0 == 3) v
  else if a = R.PIP_CTRL then keep 13 12 (field v 13 12 == 3) (keep 10 8 (decide (4 < field v 10 8)) v)
  else if a = R.LNK_PV_CTRL then keep 2 1 (field v 2 1 == 3) v
  else if 0x6100 ≤ a ∧ a < 0x6140 then keep 35 34 (field v 35 34 == 3) v
  else v

/-- An address that matches no device (R418, R421). -/
def mgtReserved (a : Nat) : Bool := a < 8 || a == 0x0C || (0x78 ≤ a && a < 0x80)

/-- Is a write to an arm entry ignored as a whole (R53, R55, R82)? -/
def Dev.entryIgnores (s : Dev) (n : Fin 8) (v : Word) : Bool :=
  let arm := bit v 35
  let disarm := bit v 34
  let st := (s.en n).st
  (arm && disarm) || (arm && (st = .arming || st = .armed || st = .steeping)) ||
  ((arm || disarm) && s.frm.running && s.frm.members.any (fun m => m.entry == n.val))

/-- Is the write of a word ignored as a whole, by the rule of its register (R84, R103, R108, R144, R422)? -/
def Dev.writeIgnored (s : Dev) (a : Nat) (v : Word) : Bool :=
  if 0x1C040 ≤ a ∧ a < 0x1C0C0 ∧ a % 16 = 0 then s.entryIgnores (enIdx ((a - 0x1C040) / 16)) v
  else if a = R.STP_FRM_CTRL then bit v 35 && (bit v 34 || s.frm.running)
  else if a = R.RDO_MAN_POUR then bit v 35 && s.bt R.RDO_MAN_POUR 34
  else if a = R.SEC_ATT_CTRL then bit v 35 && bit v 34
  else if a = R.STP_FRM_NUMBER then s.frm.running
  else if a = R.MGT_ADDR then [(7, 6, 0), (15, 14, 8), (23, 22, 16), (31, 30, 24)].any (fun x => bit v x.1 && mgtReserved (field v x.2.1 x.2.2))
  else if a = R.FAB_ID then s.fabOn
  else false

/-- What an ignored write reports. -/
def Dev.ignoredDoes (s : Dev) (a : Nat) (v : Word) : Dev :=
  if 0x1C040 ≤ a ∧ a < 0x1C0C0 ∧ a % 16 = 0 then
    let n := enIdx ((a - 0x1C040) / 16)
    if !(bit v 35 && bit v 34) && s.frm.running && s.frm.members.any (fun m => m.entry == n.val) then s.log Ev.FRAME_MEMBER n.val 0 else s
  else if a = R.MGT_ADDR then s.log Ev.MGT_ADDR_INVALID 0 0
  else s

/-- A word of a path's or a thread's own copy, which the control-space store does not hold: the write, when it is one (R270, R272,
R293, R357, R383, R495). -/
def Dev.copyWrite (s : Dev) (p : Owner) (a : Nat) (v : Word) : Option Dev :=
  if a = R.SEQ_TX_TIME_LO then some (s.setTx p { s.tx p with timeLo := v })
  else if a = R.SEQ_TX_TIME_HI then some (s.setTx p { s.tx p with timeHi := v })
  else if a = R.TIM_GSTART_TIME_LO then some (s.setGTime p false v)
  else if a = R.TIM_GSTART_TIME_HI then some (s.setGTime p true v)
  else if a = R.FAB_SCHED_T_LO then
    some (s.onFab (fun b => { b with times := b.times.set p.idx.val (joinWords v (hiWord b.times[p.idx])) p.idx.isLt }))
  else if a = R.FAB_SCHED_T_HI then
    some (s.onFab (fun b => { b with times := b.times.set p.idx.val (joinWords (loWord b.times[p.idx]) v) p.idx.isLt }))
  else if 0x2010 ≤ a ∧ a < 0x2018 then
    some (s.onSec (fun c => { c with fuseData := c.fuseData.set ((a - 0x2010) % 8) v (Nat.mod_lt _ (by decide)) }))
  else if 0x10100 ≤ a ∧ a < 0x10200 ∧ (a % 32 = 1 ∨ 16 ≤ a % 32) then
    let n := enIdx ((a - 0x10100) / 32)
    let s := s.threadDue n
    let t := s.th n
    if t.st = .halted ∧ t.busy s.tick = false then
      some (s.setTh n (if a % 32 = 1 then { t with pc := field v 13 0, pastEnd := false } else t.setReg (a % 32 - 16) v))
    else some s
  else none

/-- A word whose plain fields follow a rule of their own: the write, when it is one (R289, R343 to R347, R387, R454, R499). -/
def Dev.ownWrite (s : Dev) (a : Nat) (v : Word) : Option Dev :=
  let c := tmIdx ((a - 0x7100) / 8)
  if 0x7100 ≤ a ∧ a < 0x7180 then
    if a % 8 = 0 then some (s.cfgFields c v)
    else if a % 8 = 1 then some (s.periodWrite c v)
    else if a % 8 = 2 then some (s.cmpWrite c v)
    else if a % 8 = 3 then some (s.cntWrite c v)
    else if a % 8 = 4 then some (s.inputWrite c v)
    else if a % 8 = 7 then some ((s.chSync c s.tick).plainWrite a v)
    else none
  else if a = R.SEC_CTRL then some (s.tagEnable v)
  else if 0x6080 ≤ a ∧ a < 0x60C0 then some (s.corrWrite (a - 0x6080) v)
  else if 0x8010 ≤ a ∧ a < 0x8014 then some (s.trigoutWrite (fabIdx (a - 0x8010)) v)
  else if 0x10060 ≤ a ∧ a < 0x10064 then some (s.pinoutWrite (fabIdx (a - 0x10060)) v)
  else none

/-- The plain fields of a write. -/
def Dev.plainEff (s : Dev) (p : Owner) (a : Nat) (v : Word) : Dev :=
  if s.writeIgnored a v then s
  else match s.copyWrite p a v with
    | some s => s
    | none =>
      match s.ownWrite a v with
      | some s => s
      | none =>
        let s : Dev := if a = R.STP_FRM_CTRL ∨ a = R.STP_BURST_IDLE_LIMIT then s.idleWrite else s
        s.plainWrite a (legalise a (s.rd a) v)

/-- The fabric enables follow a write; boot step 8 brings the ports up, and in MAINTENANCE and SHUTDOWN they stay down (R368, R507, R511). -/
def Dev.fabFollow (s : Dev) : Dev :=
  let booted := match s.boot.step with
    | some k => decide (8 ≤ k)
    | none => true
  if booted && !s.dark then s.fabEnables else s

/-- MGT.CTRL and MGT.ADDR come into force between transfers (R422). -/
def Dev.mgtFollow (s : Dev) : Dev :=
  if s.mgt.transfer then s else { s with mgt := { s.mgt with ctrl := s.rd R.MGT_CTRL, addr := s.rd R.MGT_ADDR } }

/-- Is the unit of a command of SEC, CFG or CAL off (R507): the MRAM and the fuses in SHUTDOWN, attestation and the caddy in MAINTENANCE too? -/
def Dev.unitOff (s : Dev) (a : Nat) : Bool :=
  (s.isShut && (a == R.SEC_FUSE_CTRL || a == R.CFG_CTRL || a == R.CFG_NVM_CMD)) || (s.dark && (a == R.SEC_ATT_CTRL || a == R.CAL_STORE))

/-- Commands and follow-ups of a write to ID, PWR, SEC, CFG, CAL, KTL or MON; `f` are the fuses as they are. -/
def Dev.cmdLow (s : Dev) (f : Fuses) (p : Owner) (a : Nat) (was v : Word) : Dev :=
  if s.unitOff a then s
  else if a = R.PWR_CTRL then s.softReset p v
  else if a = R.SEC_CTRL then s.secCtrlWrite v
  else if a = R.SEC_FUSE_CTRL then s.fuseGo f p v
  else if a = R.SEC_ATT_CTRL then s.attWrite v
  else if a = R.CFG_CTRL then s.cfgCtrlWrite v
  else if a = R.CFG_NVM_CMD then s.nvmCmd v
  else if a = R.CAL_RUN then s.calRun v
  else if a = R.CAL_STORE then (if bit v 0 then s.requestStore else s)
  else if a = R.KTL_CTRL then s.ktlPhase v
  else if a = R.MON_CTRL then s.monCtrlWrite (bit was 0)
  else if a = R.MON_START then s.monStartWrite v
  else s

/-- Commands and follow-ups of a write to TIM; `was` is the word before. -/
def Dev.cmdTim (s : Dev) (p : Owner) (a : Nat) (was v : Word) : Dev :=
  if a = R.TIM_TB_CTRL then s.tbLoad s.fabAligning v
  else if a = R.TIM_GSTART then s.gstartWrite p v
  else if 0x7100 ≤ a ∧ a < 0x7180 ∧ a % 8 = 0 then s.cfgCommand p (tmIdx ((a - 0x7100) / 8)) was v
  else s

/-- Commands and follow-ups of a write to FAB; `was` is the word before. -/
def Dev.cmdFab (s : Dev) (p : Owner) (a : Nat) (was v : Word) : Dev :=
  if a = R.FAB_CTRL then
    if bit was 0 != s.fabOn then s.fabFollow else if s.fabOn && field was 23 16 != s.fd a 23 16 then s.refollow else s
  else if a = R.FAB_SCHED_CMD then
    if bit v 35 then
      let (r, s) := s.schedIssue (field v 7 0) s.fab.times[p.idx]
      s.wf a 34 33 r
    else s
  else if a = R.FAB_RX_POP then s.rxPop v
  else if 0x8100 ≤ a ∧ a < 0x8140 ∧ a % 16 = 0 then
    let s := if bit was 0 != s.bt a 0 then s.fabFollow else s
    if bit v 35 then s.portRetrain (fabIdx ((a - 0x8100) / 16)) else s
  else s

/-- Commands and follow-ups of a write to MGT, HST, MEM, RDO, CNV, PIP or LNK. -/
def Dev.cmdMid (s : Dev) (a : Nat) (was v : Word) : Dev :=
  if a = R.MGT_CTRL ∨ a = R.MGT_ADDR then s.mgtFollow
  else if a = R.HST_CTRL then (if bit v 35 then s.hostReset else s)
  else if a = R.MEM_RING_CTRL then (if bit v 35 then s.ringApply else s)
  else if a = R.MEM_POUR_RELEASE then s.pourRelease (field v 15 0)
  else if a = R.MEM_OUT_RELEASE then s.outRelease (field v 15 0)
  else if a = R.RDO_MAN_POUR then (if bit v 35 then s.manPour else s)
  else if a = R.CNV_CTRL then (if !bit was 12 && s.bt a 12 then s.serveWaiting else s)
  else if a = R.CNV_STATUS then (if field v 11 8 = 0 then s else s.serveWaiting)
  else if a = R.CNV_SUB_CMD then s.subCmd v
  else if a = R.PIP_DMAP_CTRL then
    let s := if bit was 32 || s.bt a 32 then s.extChanged else s
    if bit v 35 then s.dmapSwap else s
  else if a = R.PIP_PREVIEW then s.previewChanged (bit was 0)
  else if a = R.LNK_CTRL then
    let s := if bit was 10 || s.bt a 10 then s.spareClaims else s
    if bit v 35 then s.lnkRetrain else s
  else if a = R.LNK_LANE_CMD then s.laneCmd v
  else if a = R.LNK_TRAIN_ACK then s.trainAck v
  else if a = R.LNK_PV_CTRL then s.copyClaim
  else s

/-- Commands and follow-ups of a write to SEQ. -/
def Dev.cmdSeq (s : Dev) (p : Owner) (a : Nat) (was v : Word) : Dev :=
  if a = R.SEQ_CTRL then s.lpRunChanged (bit was 0)
  else if 0x10004 ≤ a ∧ a < 0x10008 then { s with seq := { s.seq with slotPending := true } }
  else if a = R.SEQ_SIGNAL then s.signalWrite v
  else if a = R.SEQ_DOORBELL then s.doorbell p v
  else if a = R.SEQ_TX_CMD then (if p = .boot then s else s.txCmd p v)
  else if 0x10040 ≤ a ∧ a < 0x10060 then (if p = .boot then s else s.lockWrite p ⟨(a - 0x10040) % 32, Nat.mod_lt _ (by decide)⟩ v)
  else if 0x10100 ≤ a ∧ a < 0x10200 ∧ a % 32 = 0 then s.threadCtl (enIdx ((a - 0x10100) / 32)) v
  else s

/-- Commands and follow-ups of a write to STP or EVT. -/
def Dev.cmdStp (s : Dev) (a : Nat) (was v : Word) : Dev :=
  if a = R.STP_CTRL then s.stpEnableChanged (bit was 0)
  else if a = R.STP_STROBE_ACT then s.strobeWrite was v
  else if a = R.STP_SOFT_GO then s.softFire (field v 7 0)
  else if a = R.STP_CLEAR_HI then (if bit v 35 then s.clearGo else s)
  else if 0x1C040 ≤ a ∧ a < 0x1C0C0 ∧ a % 16 = 0 then
    let n := enIdx ((a - 0x1C040) / 16)
    if bit v 35 then s.arm n else if bit v 34 then s.disarm n else s
  else if a = R.STP_FRM_CTRL then
    if bit v 35 then s.frmGo else if bit v 34 then s.frmStop else s
  else if a = R.STP_FRM_NUMBER then s.advanceSession
  else if a = R.EVT_CTRL then (if bit v 35 then s.logClear else s)
  else if a = R.EVT_POP then (if bit v 0 then s.logPop else s)
  else s

/-- The commands of a write, and what follows a plain field; `was` is the word before the write, `f` the fuses as they are. -/
def Dev.cmdEff (s : Dev) (f : Fuses) (p : Owner) (a : Nat) (was v : Word) : Dev :=
  if s.writeIgnored a v then s.ignoredDoes a v
  else if a < 0x7000 then s.cmdLow f p a was v
  else if a < 0x8000 then s.cmdTim p a was v
  else if a < 0x9000 then s.cmdFab p a was v
  else if a < 0x10000 then s.cmdMid a was v
  else if a < 0x1C000 then s.cmdSeq p a was v
  else s.cmdStp a was v

/-- Is the word one of a timer channel's group? Its channel. -/
def groupChannel (a : Nat) : Option Nat := if 0x7100 ≤ a ∧ a < 0x7180 then some ((a - 0x7100) / 8) else none

/-- A write of a timer channel's CFG that the device ignores, which counts as no enable (R28, R346, R359). -/
def Dev.ignoresCfg (s : Dev) (a : Nat) (v : Word) : Bool := a % 8 == 0 && cfgIgnored (s.rd a) v

/-- The claim of feature 7 that a thread's write to a timer channel asks for (R28, R328). -/
def Dev.askThread (s : Dev) (p : Owner) (a : Nat) (v : Word) : Dev :=
  match p.thread?, groupChannel a with
  | some _, some c => if s.ignoresCfg a v then s else s.askClaim 7 (inst7 p c) [0x020 + c]
  | _, _ => s

/-- Does a thread's write to a timer channel take effect (R328)? Every other write does; what an ignored write logs does not wait for a claim. -/
def Dev.threadMay (s : Dev) (p : Owner) (a : Nat) (v : Word) : Bool :=
  match p.thread?, groupChannel a with
  | some _, some c => s.ignoresCfg a v || s.granted 7 (inst7 p c)
  | _, _ => true

/-- A write that takes effect now, its claims not yet resolved. -/
def Dev.ctlEff (s : Dev) (f : Fuses) (p : Owner) (a : Nat) (v : Word) : Dev :=
  let was := s.rd a
  (s.plainEff p a v).cmdEff f p a was v

/-- A thread's write of EN as zero ends its claim on the channel; a write that is ignored as a whole does not (R328, R359). -/
def Dev.dropThread (s : Dev) (p : Owner) (a : Nat) (v : Word) : Dev :=
  match p.thread?, groupChannel a with
  | some _, some c => if a % 8 = 0 ∧ !bit v 35 ∧ !s.bt a 35 ∧ !s.ignoresCfg a v then s.releaseClaim 7 (inst7 p c) else s
  | _, _ => s

/-- A control-space write by path `p` (R14, R18, R25, R291, R296, R328): an unoccupied address is reported; while the path's transaction is
OPEN the word is staged; otherwise it takes effect, its claims are resolved, and other owners that staged the word abort. A thread's write does not reach
another thread's context (R270). -/
def Dev.ctlWrite (s : Dev) (f : Fuses) (p : Owner) (a : Nat) (v : Word) : Dev :=
  match regAt a with
  | none => s.badAddress p a true
  | some _ =>
    if (s.tx p).st = .opened && !neverStaged a then s.stage p a v
    else if foreign p a then s
    else
      let s := (s.askThread p a v).settle
      if s.threadMay p a v then (((s.ctlEff f p a v).settle).dropThread p a v).abortStagers p a else s

/-! ### Application of a transaction (R293 to R296) -/

/-- The writes of a transaction, no claim resolved yet: plain fields in staging order, then commands in staging order (R294). -/
def Dev.writeAll (s : Dev) (f : Fuses) (p : Owner) (ws : List (Nat × Word)) : Dev :=
  let was := ws.map (fun x => (x.1, s.rd x.1, x.2))
  let s := ws.foldl (fun (s : Dev) x => s.plainEff p x.1 x.2) s
  was.foldl (fun (s : Dev) x => s.cmdEff f p x.1 x.2.1 x.2.2) s

/-- The writes of a transaction that take effect: all but a thread's writes to timer channels whose claim is not granted when every enable of the
transaction is resolved together (R25, R294, R328). `s` has asked for the thread's claims. -/
def Dev.writesGranted (s : Dev) (f : Fuses) (p : Owner) (ws : List (Nat × Word)) : List (Nat × Word) :=
  match p with
  | .thread _ =>
    if ws.any (fun x => (groupChannel x.1).isSome) then
      let t := (s.writeAll f p ws).resolve
      ws.filter (fun x => (match groupChannel x.1 with
        | some _ => s.ignoresCfg x.1 x.2
        | none => true) || t.threadMay p x.1 x.2)
    else ws
  | _ => ws

/-- Every staged write takes effect in one step: plain fields, then commands, then one resolution of claims (R25, R294); a thread's write to a timer
channel whose claim is not granted does not. -/
def Dev.applyWrites (s : Dev) (f : Fuses) (p : Owner) (ws : List (Nat × Word)) : Dev :=
  let ws := ws.filter (fun x => !foreign p x.1)
  let s := ws.foldl (fun (s : Dev) x => s.askThread p x.1 x.2) s
  let ws := s.writesGranted f p ws
  let s := (s.writeAll f p ws).settle
  ws.foldl (fun (s : Dev) x => (s.dropThread p x.1 x.2).abortStagers p x.1) s

/-- TX_APPLY (R293, R294): the pending transaction of an owner applies when its boundary falls. -/
def Dev.txApply (s : Dev) (f : Fuses) (p : Owner) : Dev :=
  let s := s.toTxTime p
  let s := match p with
    | .thread n => s.threadDue n
    | _ => s
  if s.txDue p then
    let t := s.tx p
    let late := s.txLate p
    let s := (s.setTx p { t with st := .applied, late := late, staged := [], appliedAt := some s.tick }).applyWrites f p t.staged
    match p with
    | .thread n => s.postTo n 42 s.tb
    | _ => s
  else s

/-! ### The array profile (R31) -/

/-- The registers and bits of the five array enables. -/
def arrayEnables : List (Nat × Word) :=
  [(R.CNV_CTRL, place 12 12 1), (R.LNK_CTRL, place 10 10 1), (R.MEM_CTRL, place 1 0 3), (R.FAB_CTRL, place 2 2 1), (R.CAL_CTRL, place 0 0 1)]

/-- The word that sets an enable: over the word already staged, else over the live one. -/
def Dev.enableWord (s : Dev) (p : Owner) (a : Nat) (m : Word) : Word :=
  (((s.tx p).staged.find? (fun x => x.1 == a)).map (·.2)).getD (s.rd a) ||| m

/-- A write of ID.PROFILE_APPLY (R31): the enables join the path's open transaction, or one opened for it and committed for the next frame start. -/
def Dev.profileApply (s : Dev) (p : Owner) (v : Word) : Dev :=
  let stageAll := fun (s : Dev) => arrayEnables.foldl (fun (s : Dev) x =>
    if (s.tx p).st = .opened then s.stage p x.1 (s.enableWord p x.1 x.2) else s) s
  if !bit v 0 then s
  else if (s.tx p).st = .opened then stageAll s
  else if (s.tx p).st = .pending then s.log Ev.TX_MISUSE 0 0
  else (stageAll (s.txBegin p)).txCommit p 2

/-- A write of any word: ID.PROFILE_APPLY joins or opens a transaction, every other word is written. -/
def Dev.anyWrite (s : Dev) (f : Fuses) (p : Owner) (a : Nat) (v : Word) : Dev :=
  if a = R.ID_PROFILE_APPLY then s.profileApply p v else s.ctlWrite f p a v

end Sys2Proof.Machine
end

