-- ==== Sys2Proof/Machine/Happenings.lean ====
section
/-! DEFINITION. The outcome of a command, one decision of the block (R523, R272, R426), and the happenings of its engines: the commands that are no access by a path. -/

namespace Sys2Proof.Machine

/-! ### What the management page shows (R425, R426) -/

/-- The registers of the fixed groups, in page order (R425). -/
def pageRegs : List Nat :=
  [R.ID_DEVICE, R.ID_REVISION, R.ID_PROFILE, R.PWR_STATE, R.CFG_BOOT_SUMMARY, R.EVT_SUMMARY, R.KTL_STATUS, R.KTL_HOTTEST, R.TIM_TB_LO, R.TIM_TB_HI,
   R.STP_FRM_NUMBER, R.STP_FRM_STATUS, R.LNK_STATUS, R.LNK_LAST_FRAME, R.MEM_STATUS, R.CNV_SPARE_STATUS, R.FAB_STATUS, R.SEQ_STATUS, R.CAL_COUNT]

/-- What a group shows: a register, a mapped register, nothing (a mapped group that is not enabled), or IND_DATA. -/
inductive GroupSource where
  | reg (a : Nat)
  | off
  | ind
  deriving DecidableEq, Repr

/-- The group a page byte belongs to: its first byte and what it shows. -/
def Dev.pageGroup (s : Dev) (p : Nat) : Option (Nat × GroupSource) :=
  if p < 0x5F then
    match pageRegs[p / 5]? with
    | some a => some (p / 5 * 5, .reg a)
    | none => none
  else if 0x60 ≤ p ∧ p < 0xB0 then
    let k := (p - 0x60) / 5
    let m := s.rd (R.MGT_MAPk k)
    some (0x60 + 5 * k, if bit m 35 then .reg (field m 23 0) else .off)
  else if 0xE8 ≤ p ∧ p ≤ 0xEC then some (0xE8, .ind)
  else none

/-- The word a group shows now, without reading it. -/
def Dev.groupNow (s : Dev) (g : GroupSource) : Word :=
  match g with
  | .reg a => if (regAt a).isSome then s.readReg .mgt a else 0
  | .off => 0
  | .ind => s.mgt.indData

/-- A word that a group of the management page shows has changed since its byte 0 was read, and byte 4 is still to be sent: its STALE flag is set (R10, R426).
The halves of the timebase come from one sample and are never stale (R340). -/
def Dev.watchGroups (s : Dev) : Dev :=
  if s.mgt.groups.any (·.fresh) then
    { s with mgt := { s.mgt with groups := s.mgt.groups.map (fun x =>
      match s.pageGroup x.base with
      | some (_, g) =>
        if x.fresh && g != .reg R.TIM_TB_LO && g != .reg R.TIM_TB_HI && x.after != s.groupNow g then { x with stale := true } else x
      | none => x) } }
  else s

/-! ### Outcomes -/

/-- A decision that began in `old` ends (R523); the control fields that have come due by then have taken effect (R272), and a word that changed is stale for
the management page (R426). -/
def Dev.decided (s old : Dev) : Dev := (s.threadsDue.endDecision old).watchGroups

/-- One decision. -/
def Dev.inDecision (s : Dev) (f : Dev → Dev) : Dev := (f s.hold).decided s

/-- A command that changes the block alone: one decision. -/
def State.onDev (s : State) (f : Dev → Dev) : Host.Outcome State Fault Refusal := .next { s with dev := s.dev.inDecision f }

/-- A command that changes the fuses too: one decision. -/
def State.onFuses (s : State) (f : Dev → Fuses × Dev) : Host.Outcome State Fault Refusal :=
  match f s.dev.hold with
  | (x, d) => .next { s with dev := d.decided s.dev, fuses := x }

/-- An access by a path changes the block while the device answers its ports (R417, R420). -/
def State.access (s : State) (f : Dev → Dev) : Host.Outcome State Fault Refusal := s.onDev (fun d => if d.hstAlive then f d else d)

/-- A happening of an engine: it cannot occur in RESET, MAINTENANCE or SHUTDOWN (R507). -/
def State.onRun (s : State) (f : Dev → Dev) : Host.Outcome State Fault Refusal := s.onDev (fun d => if d.dark then d else f d)

/-! ### Threads, claims, and event outputs -/

/-- CLAIM_HANDOVER (R29): at the handover boundary the winner takes the resource. -/
def execClaimHandover (res : BitVec 12) (s : State) : Host.Outcome State Fault Refusal := s.onRun (fun d => d.handover res.toNat)

/-- SLOT_OVERRUN (R280). -/
def execSlotOverrun (t : Fin 8) (extra : Nat) (s : State) : Host.Outcome State Fault Refusal :=
  s.onRun (fun d => d.slotOverrun t extra)

/-- WAIT_TIMEOUT (R286). -/
def execWaitTimeout (t : Fin 8) (s : State) : Host.Outcome State Fault Refusal := s.onRun (fun d => d.waitTimeout t)

/-- PINOUT_PULSE_END (R289). -/
def execPinoutPulseEnd (k : Fin 4) (s : State) : Host.Outcome State Fault Refusal := s.onRun (fun d => d.pinoutEnd k)

/-! ### Steeps -/

/-- NODE_CLEAR_COMPLETE (R40). -/
def execNodeClearComplete (s : State) : Host.Outcome State Fault Refusal := s.onRun (·.clearComplete)

/-- ZONE_SEGMENTS_LOADED (R50). -/
def execZoneSegmentsLoaded (n : Fin 8) (s : State) : Host.Outcome State Fault Refusal := s.onRun (·.segmentsLoaded n)

/-- STEEP_START (R66). -/
def execSteepStart (n : Fin 8) (s : State) : Host.Outcome State Fault Refusal := s.onRun (·.steepStart n)

/-- PUMP_READY (R74). -/
def execPumpReady (s : State) : Host.Outcome State Fault Refusal := s.onRun (·.pumpReadyNow)

/-- PUMP_LOW (R76). -/
def execPumpLow (pump : Fin 4) (s : State) : Host.Outcome State Fault Refusal := s.onRun (·.pumpFalls pump.val)

/-! ### Frames -/

/-- TRIG_EDGE (R62, R63). -/
def execTrigEdge (rising : Bool) (lat : Fin 19) (width : Nat) (s : State) : Host.Outcome State Fault Refusal :=
  s.onRun (fun d => d.trigEdge rising lat.val width)

/-- STEEP_END (R68). -/
def execSteepEnd (n : Fin 8) (s : State) : Host.Outcome State Fault Refusal := s.onRun (·.steepEnd n)

/-- FRAME_NODES_FREE (R87). -/
def execFrameNodesFree (s : State) : Host.Outcome State Fault Refusal := s.onRun (·.frmArm)

/-- FRAME_ARMED (R87). -/
def execFrameArmed (s : State) : Host.Outcome State Fault Refusal := s.onRun (·.frmArmed)

/-- FRAME_FIRE (R89). -/
def execFrameFire (s : State) : Host.Outcome State Fault Refusal := s.onRun (·.frameFire)

/-- MEMBER_START (R553). -/
def execMemberStart (n : Fin 8) (s : State) : Host.Outcome State Fault Refusal := s.onRun (·.memberStart n)

/-- LEVEL_STEEP_END (R93). -/
def execLevelSteepEnd (lat : Fin 19) (width : Nat) (s : State) : Host.Outcome State Fault Refusal := s.onRun (·.levelEnd lat.val width)

/-- TRAIN_FRAME_ORIGIN (R100). -/
def execTrainFrameOrigin (s : State) : Host.Outcome State Fault Refusal := s.onRun (·.trainOrigin)

/-- IDLE_CLOSE (R104). -/
def execIdleClose (s : State) : Host.Outcome State Fault Refusal := s.onRun (·.idleReached)

/-! ### Frame memory -/

/-- ARBITER_DECISION (R221). -/
def execArbiterDecision (c : Fin 8) (posts : List (Fin 10)) (upsets : List (BitVec 28 × Bool)) (s : State) :
    Host.Outcome State Fault Refusal := s.onRun (fun d => d.arbitrate c posts upsets)

/-- REQUESTER_MASK (R222). -/
def execRequesterMask (n : Fin 10) (on : Bool) (s : State) : Host.Outcome State Fault Refusal :=
  s.onRun (fun d => d.maskRequester n on)

/-- SCRUB_READ (R207). -/
def execScrubRead (c : Fin 8) (s : State) : Host.Outcome State Fault Refusal := s.onRun (·.scrubRead c)

/-- SCRUB_WRITEBACK (R208). -/
def execScrubWriteback (c : Fin 8) (s : State) : Host.Outcome State Fault Refusal := s.onRun (·.scrubWriteback c)

/-- ROW_REMAP_DONE (R210). -/
def execRowRemapDone (c : Fin 8) (s : State) : Host.Outcome State Fault Refusal := s.onRun (·.remapDone c)

/-! ### Pours -/

/-- POUR_START (R140). -/
def execPourStart (s : State) : Host.Outcome State Fault Refusal := s.onRun (·.pourStart)

/-- EMPTY_RECORD_TAKE (R554). -/
def execEmptyRecordTake (s : State) : Host.Outcome State Fault Refusal := s.onRun (·.emptyTake)

/-- ROW_START (R155). -/
def execRowStart (s : State) : Host.Outcome State Fault Refusal := s.onRun (·.rowStart)

/-- ROW_HANDOVER (R123). -/
def execRowHandover (bank : Fin 4) (x : RowInput) (s : State) : Host.Outcome State Fault Refusal :=
  s.onRun (fun d => d.rowHandover bank.val x)

/-- ROW_WRITE_DONE (R158). -/
def execRowWriteDone (bank : Fin 4) (s : State) : Host.Outcome State Fault Refusal := s.onRun (·.rowWritten bank.val)

/-- POUR_NODE_CLEAR (R154). -/
def execPourNodeClear (s : State) : Host.Outcome State Fault Refusal := s.onRun (·.pourClear)

/-! ### The pixel pipeline -/

/-- PIP_FRAME_START (R165). -/
def execPipFrameStart (s : State) : Host.Outcome State Fault Refusal := s.onRun (·.pipStart)

/-- PIP_FRAME_END (R164). -/
def execPipFrameEnd (s : State) : Host.Outcome State Fault Refusal := s.onRun (·.pipEnd)

/-! ### The frame link -/

/-- LINK_PACKET_BOUNDARY (R250). -/
def execLinkPacketBoundary (pvLane : Bool) (idle : Nat) (stall : Option Nat) (s : State) : Host.Outcome State Fault Refusal :=
  s.onRun (fun d => if pvLane then d.pvBoundary idle stall else d.frameBoundary idle stall)

/-- LINK_PAYLOAD_READY (R19). -/
def execLinkPayloadReady (pvLane : Bool) (idle : Nat) (stall : Option Nat) (s : State) : Host.Outcome State Fault Refusal :=
  s.onRun (fun d => d.payloadReady pvLane idle stall)

/-- ALIGNMENT_MARKER (R238). -/
def execAlignmentMarker (pvLane : Bool) (ok : BitVec 35) (s : State) : Host.Outcome State Fault Refusal :=
  s.onRun (fun d => (d.alignmentMarker pvLane ok.toNat).settle)

/-- PREVIEW_FRAME_START (R256). -/
def execPreviewFrameStart (s : State) : Host.Outcome State Fault Refusal := s.onRun (·.previewStart)

/-- LINK_TRAIN_VERDICT (R259). -/
def execLinkTrainVerdict (ok : BitVec 35) (s : State) : Host.Outcome State Fault Refusal :=
  s.onRun (fun d => (d.trainVerdict ok.toNat).settle)

/-- TRAIN_ACK_TIMEOUT (R260). -/
def execTrainAckTimeout (s : State) : Host.Outcome State Fault Refusal := s.onRun (·.ackTimeout.settle)

/-! ### Timebase and timer channels -/

/-- LINE_PERIOD_BOUNDARY (R276), which is also an input of timer channels (R350); `reading` names the channels whose CAP_LO is being read. -/
def execLinePeriodBoundary (reading : BitVec 16) (s : State) : Host.Outcome State Fault Refusal :=
  s.onRun (fun d => match d.seq.lpNext with
    | some t => (d.lineBoundary).internalPulse reading 48 t
    | none => d)

/-- TB_STEP (R342). -/
def execTbStep (s : State) : Host.Outcome State Fault Refusal := s.onRun (·.tbStep)

/-- CHANNEL_STEP (R344); `reading` names the channels whose CAP_LO is being read (R355). -/
def execChannelStep (c : Fin 16) (reading : BitVec 16) (s : State) : Host.Outcome State Fault Refusal := s.onRun (fun d => d.chStep c reading)

/-- GROUP_START (R358). -/
def execGroupStart (s : State) : Host.Outcome State Fault Refusal := s.onRun (·.groupStart)

/-! ### The fabric -/

/-- PORT_SIGNAL_DETECT (R368). -/
def execPortSignalDetect (f : Fin 4) (s : State) : Host.Outcome State Fault Refusal := s.onRun (fun d => d.signalDetect f)

/-- CODE_GROUP_LOCK (R368). -/
def execCodeGroupLock (f : Fin 4) (s : State) : Host.Outcome State Fault Refusal := s.onRun (fun d => d.codeLock f)

/-- TRAIN_RECEIVED (R368, R382). -/
def execTrainReceived (f : Fin 4) (src : BitVec 14) (tstate : Fin 3) (ok : Bool) (s : State) : Host.Outcome State Fault Refusal :=
  s.onRun (fun d => if ok then d.trainRx f src.toNat tstate.val else d.fabBad f)

/-- PORT_TRAIN_TIMEOUT (R368). -/
def execPortTrainTimeout (f : Fin 4) (s : State) : Host.Outcome State Fault Refusal := s.onRun (fun d => d.trainTimeout f)

/-- HEARTBEAT_SEND (R369). -/
def execHeartbeatSend (f : Fin 4) (frac : Fin 16) (s : State) : Host.Outcome State Fault Refusal := s.onRun (fun d => d.hbSend f frac.val)

/-- HEARTBEAT_RECEIVED (R371). -/
def execHeartbeatReceived (f : Fin 4) (h : Heartbeat) (frac : Fin 16) (ok : Bool) (s : State) : Host.Outcome State Fault Refusal :=
  s.onRun (fun d => if ok then d.hbRx f h frac.val else d.fabBad f)

/-- HEARTBEAT_TIMEOUT (R368). -/
def execHeartbeatTimeout (f : Fin 4) (s : State) : Host.Outcome State Fault Refusal := s.onRun (fun d => d.hbTimeout f)

/-- MASTER_SEQ_ADVANCE (R377). -/
def execMasterSeqAdvance (s : State) : Host.Outcome State Fault Refusal := s.onRun (·.mSeqAdvance)

/-- MASTER_LOST (R377). -/
def execMasterLost (s : State) : Host.Outcome State Fault Refusal := s.onRun (·.masterLost)

/-- PRESENCE_FLOOD (R380). -/
def execPresenceFlood (s : State) : Host.Outcome State Fault Refusal := s.onRun (·.presenceFlood)

/-- PRESENCE_RECEIVED (R380). -/
def execPresenceReceived (f : Fin 4) (src : BitVec 14) (seq : BitVec 8) (hops : BitVec 16) (ok : Bool) (s : State) :
    Host.Outcome State Fault Refusal :=
  s.onRun (fun d => if ok then d.presenceRx f src.toNat seq.toNat hops.toNat else d.fabBad f)

/-- ROUTE_EXPIRY (R380). -/
def execRouteExpiry (id : BitVec 14) (s : State) : Host.Outcome State Fault Refusal := s.onRun (fun d => d.routeExpiry id.toNat)

/-- SCHED_RECEIVED (R384): on a CRC error the forwarded copy ends with K30.7 and the trigger is discarded. -/
def execSchedReceived (f : Fin 4) (issuer : BitVec 14) (seq id : BitVec 8) (T : Stamp) (ok : Bool) (s : State) :
    Host.Outcome State Fault Refusal :=
  s.onRun (fun d => if ok then d.schedRx f issuer.toNat seq.toNat id.toNat T else d.fabBad f)

/-- SCHED_TRIGGER_FIRE (R385). -/
def execSchedTriggerFire (s : State) : Host.Outcome State Fault Refusal := s.onRun (·.triggerFire)

/-- TRIGOUT_PULSE_END (R387). -/
def execTrigoutPulseEnd (k : Fin 4) (s : State) : Host.Outcome State Fault Refusal := s.onRun (fun d => d.trigoutEnd k)

/-- MESSAGE_RECEIVED (R389); `dup` marks a copy of a broadcast that has been received before (R388). -/
def execMessageReceived (f : Fin 4) (dst : BitVec 16) (src : BitVec 14) (words : List Word) (dup ok : Bool) (s : State) :
    Host.Outcome State Fault Refusal :=
  s.onRun (fun d => if !ok then d.fabBad f else if dup then d else d.messageRx f dst.toNat src.toNat words)

/-- MESSAGE_SENT (R388). -/
def execMessageSent (f : Fin 4) (s : State) : Host.Outcome State Fault Refusal := s.onRun (fun d => d.messageSent f)

/-! ### Pins -/

/-- STRAINED_EDGE (R351): a sample of a channel's input shows `level` at a land that the device does not drive; the strainer accepts a change with the
S-th consecutive sample; `reading` names the channels whose CAP_LO is being read (R355). -/
def execStrainedEdge (c : Fin 16) (level : Bool) (reading : BitVec 16) (s : State) : Host.Outcome State Fault Refusal :=
  s.onRun (fun d => d.strainSample c level reading)

/-! ### Monitor converters and kettle -/

/-- MON_START_TIMEOUT (R463). -/
def execMonStartTimeout (s : State) : Host.Outcome State Fault Refusal := s.onRun (·.monTimeout)

/-- MON_CONVERSION_BEGIN (R461). -/
def execMonConversionBegin (s : State) : Host.Outcome State Fault Refusal := s.onRun (·.monConversion)

/-- MON_ENTRY_RESULT (R458). -/
def execMonEntryResult (ma mb : List Int) (s : State) : Host.Outcome State Fault Refusal := s.onRun (fun d => d.monResult ma mb)

/-- MON_ENTRY_END (R458). -/
def execMonEntryEnd (s : State) : Host.Outcome State Fault Refusal := s.onRun (·.monEnd)

/-- KETTLE_STALE_EVALUATION (R469). -/
def execKettleStaleEvaluation (s : State) : Host.Outcome State Fault Refusal := s.onRun (·.ktlStale)

/-- KETTLE_GRACE_EXPIRY (R473). -/
def execKettleGraceExpiry (s : State) : Host.Outcome State Fault Refusal := s.onRun (·.ktlGrace)

/-! ### Calibration -/

/-- POUR_END (R157); item 4 reads the area (R481). -/
def execPourEnd (s : State) : Host.Outcome State Fault Refusal :=
  s.onRun (fun d => match d.rdo.pour with
    | none => d
    | some p =>
      let d := d.pourEnd
      if d.rdo.pour.isNone then d.calGather p.facts else d)

/-- CAL_ITEM_DUE (R478). -/
def execCalItemDue (i : Fin 6) (s : State) : Host.Outcome State Fault Refusal := s.onRun (fun d => d.itemComesDue i)

/-- CAL_ITEM_START (R476). -/
def execCalItemStart (i : Fin 6) (s : State) : Host.Outcome State Fault Refusal := s.onRun (fun d => d.itemStart i)

/-- CAL_ITEM_COMPLETE (R484). -/
def execCalItemComplete (i : Fin 6) (m : CalMeas) (s : State) : Host.Outcome State Fault Refusal := s.onRun (fun d => d.itemComplete i m)

/-- CAL_ITEM_OVERDUE (R479). -/
def execCalItemOverdue (i : Fin 6) (s : State) : Host.Outcome State Fault Refusal := s.onRun (fun d => d.itemOverdue i)

/-- CAL_SLEW_TICK (R485). -/
def execCalSlewTick (s : State) : Host.Outcome State Fault Refusal := s.onRun (·.slewTick)

/-- CAL_STORE_COMPLETE (R491). -/
def execCalStoreComplete (ok : Bool) (s : State) : Host.Outcome State Fault Refusal := s.onRun (fun d => d.storeComplete ok)

/-! ### Clocks -/

/-- REF_LOST (R444, R445). -/
def execRefLost (s : State) : Host.Outcome State Fault Refusal := s.onDev (·.refLost)

/-- PLL_UNLOCK (R444, R445): a loss of lock with the reference present. -/
def execPllUnlock (link : Bool) (s : State) : Host.Outcome State Fault Refusal :=
  s.onDev (·.pllUnlock link)

/-- REF_RETURN (R450). -/
def execRefReturn (s : State) : Host.Outcome State Fault Refusal := s.onDev (·.refReturn)

/-- PLL_RELOCK (R450, R451). -/
def execPllRelock (link band : Bool) (s : State) : Host.Outcome State Fault Refusal :=
  s.onDev (fun d => if link then d.lkRelock band else d.tbRelock band)

/-- PLL_LOCK_TIMEOUT (R443). -/
def execPllLockTimeout (link : Bool) (s : State) : Host.Outcome State Fault Refusal := s.onDev (·.pllTimeout link)

/-- LINK_HOLDOVER_EXPIRY (R265). -/
def execLinkHoldoverExpiry (s : State) : Host.Outcome State Fault Refusal := s.onRun (fun d => d.holdoverExpiry d.clk.lkSince)

/-- LINK_COAST_LIMIT (R266, R446). -/
def execLinkCoastLimit (s : State) : Host.Outcome State Fault Refusal := s.onRun (fun d => d.coastLimit d.clk.lkSince)

/-! ### Security -/

/-- FUSE_PROGRAM_DONE (R495): the fuses change, and only here. -/
def execFuseProgramDone (ok : Bool) (s : State) : Host.Outcome State Fault Refusal :=
  s.onFuses (fun d => d.fuseDone s.fuses ok)

/-- TAG_READY (R254). -/
def execTagReady (s : State) : Host.Outcome State Fault Refusal := s.onRun (·.tagReady)

/-- ATTEST_COMPLETE (R505). -/
def execAttestComplete (s : State) : Host.Outcome State Fault Refusal := s.onRun (·.attComplete)

/-! ### Resets and supplies -/

/-- POWER_ON_RESET (R508, R536): when NRST is already high at its end, the straps are sampled; with NRST low they are sampled as it rises (NRST_RESET). -/
def execPowerOnReset (strap : Option (BitVec 4)) (s : State) : Host.Outcome State Fault Refusal :=
  s.onDev (fun d => { d with mgt := { d.mgt with strap := strap.getD d.mgt.strap } }.deviceReset 0 false)

/-- SUPPLY_FAULT (R509). -/
def execSupplyFault (uv ov : BitVec 6) (s : State) : Host.Outcome State Fault Refusal :=
  s.onDev (fun d => d.supplyFault uv.toNat ov.toNat)

/-- BROWN_OUT_RESET (R508). -/
def execBrownOutReset (recorded : Bool) (s : State) : Host.Outcome State Fault Refusal := s.onDev (·.brownOut recorded)

/-- NRST_RESET (R508, R421): the straps are sampled as NRST rises. -/
def execNrstReset (strap : BitVec 4) (s : State) : Host.Outcome State Fault Refusal :=
  s.onDev (fun d => { d with mgt := { d.mgt with strap := strap } }.deviceReset 2 true)

/-- NVM_COMMIT_DONE (R518). -/
def execNvmCommitDone (ok : Bool) (s : State) : Host.Outcome State Fault Refusal := s.onDev (·.commitDone ok)

end Sys2Proof.Machine
end

