-- ==== Sys2Proof/Machine/Boot.lean ====
section
/-! DEFINITION. The boot steps, their failures and fallbacks (R511 to R517). A BOOT_STEP_COMPLETE ends the step in progress. -/

namespace Sys2Proof.Machine

/-! ### The configuration image (R516) -/

/-- A byte of the signed region of the slot in use. -/
def Dev.imageByte (s : Dev) (i : Nat) : Nat := s.nvmNat (slotBase 0 (s.boot.slot.getD 0) + 0x40 + i) 1

/-- The length of its signed region, within the slot. -/
def Dev.imageLength (s : Dev) : Nat := min (s.nvmNat (slotBase 0 (s.boot.slot.getD 0) + 8) 4) 1048376

/-- Does an address lie in a range of R17? -/
def inRange (a : Nat) : Bool :=
  a < 0x11000 || (0x14000 ≤ a && a < 0x19000) || (0x1C000 ≤ a && a < 0x1D000) || (0x20000 ≤ a && a < 0x21000)

/-- The records of the signed region from byte `i`, up to the terminator (R516, R517): each is a write that no transaction or lock concerns and
whose claims are not yet resolved. The code is 0, or 1 for a bad address, or 2 without a terminator. -/
def Dev.bootRecords (s : Dev) (f : Fuses) : Nat → Nat → Nat × Dev
  | 0, _ => (2, s)
  | fuel + 1, i =>
    let at_ := slotBase 0 (s.boot.slot.getD 0) + 0x40 + i
    let a := s.nvmNat at_ 3
    if a = 0xFFFFFF then (0, s)
    else if !inRange a then (1, s)
    else
      let v := bytesWord (s.nvmRead (at_ + 3) 5)
      let s : Dev := match regAt a with
        | some _ => s.ctlEff f .boot a v
        | none => s.badAddress .boot a true
      s.bootRecords f fuel (i + 8)

/-! ### Results -/

/-- The result of the step in progress; the record of the start is rewritten (R519). -/
def Dev.stepResult (s : Dev) (res code : Nat) : Dev :=
  (s.onBoot (fun b => { b with results := b.results ++ [(res, code)] })).writeRecord

/-- A mandatory step fails and the device enters maintenance (R514). -/
def Dev.failToMaintenance (s : Dev) (k code cause : Nat) : Dev :=
  ((s.stepResult 2 code).log Ev.BOOT_STEP_FAIL k code).maintenance cause

/-- A mandatory step fails and the start ends in RESTART (R514). -/
def Dev.failToRestart (s : Dev) (k code : Nat) : Dev := (s.stepResult 2 code).restart k code

/-! ### Fallbacks (R513) -/

/-- The place of an optional step in the counts of the fallback record. -/
def optionalIndex (k : Nat) : Option Nat :=
  if k = 6 then some 0 else if k = 8 then some 1 else if k = 9 then some 2 else if k = 10 then some 3 else none

/-- The record after channel c failed. -/
def Fallback.channelFails (f : Fallback) (c : Nat) : Fallback :=
  match f.chans.getD c 0 with
  | 0 => { f with chans := setNth f.chans c 1 }
  | 1 => if f.chans.contains 2 then { f with maint := true } else { f with chans := setNth f.chans c 2 }
  | _ => f

/-- Channels of the mask fail at step 5 or 6: the record is updated, and a channel masked by it is marked for this power-up. -/
def Dev.memoryFailure (s : Dev) (failing : List Nat) : Dev :=
  let old := s.nvm.fallback
  let s := s.onFallback (fun f => failing.foldl Fallback.channelFails f)
  if s.nvm.fallback.chans.contains 2 && !old.chans.contains 2 then s.onBoot (fun b => { b with masked := true }) else s

/-- Does step 5 lead to maintenance with cause 3 at once: does another channel fail beside one masked in this power-up (R514)? -/
def Dev.memoryGivesUp (before after : Dev) (failing : List Nat) : Bool :=
  (before.boot.masked && !failing.isEmpty) ||
  (after.boot.masked && !before.boot.masked && decide (2 ≤ failing.length))

/-- The failing channels of an operand: a masked channel is not tried. -/
def Dev.failingChannels (s : Dev) (x : Nat) : List Nat :=
  (List.range 8).filter (fun c => x.testBit c && s.nvm.fallback.chans.getD c 0 != 2)

/-- The end of an optional step (R513): its consecutive failures are counted; a pass resets the count. -/
def Dev.optionalEnd (s : Dev) (k : Nat) (code : Nat) : Dev :=
  let s := match optionalIndex k with
    | some i => s.onFallback (fun f => { f with counts := modNth f.counts i (fun c => if code = 0 then 0 else min (c + 1) 3) })
    | none => s
  s.stepResult (if code = 0 then 1 else 2) code

/-! ### What a step does as it begins -/

/-- Ports that the record takes out start with EN zero (R513). -/
def Dev.portsOut (s : Dev) : Dev :=
  (List.range 4).foldl (fun (s : Dev) p =>
    if s.nvm.fallback.ports.testBit p then s.wb (R.FAB_PORTp_CTRL p) 0 false else s) s

/-- Lanes that the record takes out start failed and are not tested (R513). -/
def Dev.lanesOut (s : Dev) : Dev :=
  let lanes := s.nvm.fallback.lanes
  (s.wf R.LNK_LANE_FAIL 33 0 lanes).onLnk (fun l => { l with forced := lanes })

/-- Step 8: the image's FAB registers; ports that the record takes out start with EN zero (R513, R516). -/
def Dev.beginFabric (s : Dev) : Dev :=
  let id := s.imageByte 10 + 256 * s.imageByte 11
  let s := s.wf R.FAB_ID 13 0 id
  let s := (s.wf R.FAB_CTRL 23 16 (s.imageByte 12)).wb R.FAB_CTRL 0 (id.testBit 15)
  s.portsOut.fabFollow

/-- Step 9: the image's LNK.CTRL fields; lanes that the record takes out start failed; the training (R513, R516, R258). -/
def Dev.beginLink (s : Dev) : Dev :=
  let b := s.imageByte 9
  let s := ((s.wf R.LNK_CTRL 9 8 (b % 4)).wb R.LNK_CTRL 11 (b.testBit 2)).wb R.LNK_CTRL 10 (b.testBit 3)
  s.spareClaims.settle.lanesOut.startTraining true false 0

/-- Step 10: items 0 to 3 are due (R478). -/
def Dev.beginQuickCal (s : Dev) : Dev :=
  let s := s.onCal (fun c => { c with boot := true, bootRejects := 0 })
  [0, 1, 2, 3].foldl (fun (s : Dev) i => s.makeDue i) s

/-- What a step does as it begins. -/
def Dev.beginStep (s : Dev) (k : Nat) : Dev :=
  match k with
  | 1 => s.writeRecord
  | 7 => (s.plainWrite R.CLK_CTRL (legalise R.CLK_CTRL (s.rd R.CLK_CTRL) (BitVec.ofNat 36 (s.imageByte 8)))).onClk (fun c => { c with failed := 0 })
  | 8 => s.beginFabric
  | 9 => s.beginLink
  | 10 => s.beginQuickCal
  | _ => s

/-- What holds of a step that is skipped (R513): the ports and lanes that the record takes out stay out. -/
def Dev.skipStep (s : Dev) (k : Nat) : Dev :=
  match k with
  | 8 => s.portsOut
  | 9 => s.lanesOut
  | _ => s

/-- Is the step skipped: by the record (`true`), or step 9 because the link PLL failed at step 7 (`false`)? -/
def Dev.skips (s : Dev) (k : Nat) : Option Bool :=
  if (match optionalIndex k with
      | some i => s.nvm.fallback.counts.getD i 0 == 3
      | none => false) then some true
  else if k = 9 ∧ s.clk.failed.testBit 1 then some false
  else none

/-- Enter step `k`; a step that is skipped ends at once, and the next is entered (R511, R513). -/
def Dev.enterStep (s : Dev) : Nat → Nat → Dev
  | 0, _ => s
  | fuel + 1, k =>
    let s := s.onBoot (fun b => { b with step := some k })
    match s.skips k with
    | none => s.beginStep k
    | some rule =>
      let s : Dev := if rule then (s.onBoot (fun b => { b with skipRule := true })).log Ev.BOOT_SKIP 0 0 else s
      ((s.skipStep k).stepResult 3 0).enterStep fuel (k + 1)

/-- Go on to step `k`. -/
def Dev.next (s : Dev) (k : Nat) : Dev := s.enterStep 6 k

/-! ### What a step does as it ends -/

/-- Has what the step started come to its end? Step 0 waits for every rail to be above its undervoltage trip, after a brown-out for every rail to be
back (R508). -/
def Dev.stepReady (s : Dev) (k : Nat) : Bool :=
  if k = 0 then !s.railsHold
  else if k = 8 then (List.finRange 4).all (fun f => (s.port f).st != 2)
  else if k = 9 then s.lnk.train.isNone
  else if k = 10 then [(0 : Fin 6), 1, 2, 3].all (fun i => !(s.item i).running && (s.item i).dueAt.isNone)
  else true

/-- What a fuse programming that a reset cut left behind (R495): the field stays unprogrammed, or holds a free content. -/
def Dev.fuseReset (s : Dev) (f : Fuses) : Fuses × Dev :=
  match s.sec.fuseCut with
  | none => (f, s)
  | some (code, data) =>
    let (k, s) := s.drawNat 2
    let (f, s) := if k = 0 then (f, s) else s.fuseContent f code data false
    (f, s.onSec (fun c => { c with fuseCut := none }))

/-- The slot registers as boot step 1 reads them. -/
def Dev.readSlots (s : Dev) : Dev :=
  [(0, 0), (0, 1), (1, 0), (1, 1), (2, 0), (2, 1)].foldl (fun (s : Dev) x =>
    s.wf (slotReg x.1 x.2) 35 0 (s.slotSeq x.1 x.2 + 2 ^ 35 * b2n (s.slotValid x.1 x.2))) s

/-- After step 1: back to SHUTDOWN under the latch, a failure logged (R510, R514), maintenance when forced (R515), otherwise step 2. -/
def Dev.afterStepOne (s : Dev) (code : Nat) : Dev :=
  if s.bt R.PWR_STATE 30 then
    let s := s.stepResult (if code = 0 then 1 else 2) code
    (if code = 0 then s else s.log Ev.BOOT_STEP_FAIL 1 code).backToShutdown
  else if code ≠ 0 then s.failToMaintenance 1 code 2
  else
    let s := s.stepResult 1 0
    if s.bt R.CFG_CTRL 0 then s.maintenance 5 else s.next 2

/-- Step 1 ends (R494, R511): bit 0 of the operand says that MRAM, bit 1 that the fuses could not be read. What can be read is. -/
def Dev.stepOne (s : Dev) (f : Fuses) (x : Nat) : Fuses × Dev :=
  let (f, s) : Fuses × Dev := if x.testBit 1 then (f, s) else match s.fuseReset f with | (f, s) => (f, s.senseFuses f)
  let s := if x.testBit 0 then s else s.readSlots
  (f, s.afterStepOne (if x.testBit 0 then 1 else if x.testBit 1 then 2 else 0))

/-- Step 2 ends (R512): the newer valid slot that is not excluded. -/
def Dev.stepTwo (s : Dev) : Dev :=
  let ok := fun (k : Nat) => s.bt (slotReg 0 k) 35 && !s.boot.excluded.testBit k
  let slot := newerSlot (ok 0) (ok 1) (s.fd (slotReg 0 0) 31 0) (s.fd (slotReg 0 1) 31 0)
  let s := s.onBoot (fun b => { b with slot := slot, dmapSlot := s.newestSlot 1 })
  match slot with
  | some _ => (s.stepResult 1 0).next 3
  | none => s.failToMaintenance 2 1 (if s.boot.excluded = 0 then 1 else 6)

/-- The slot in use is excluded for this power-up (R514). -/
def Dev.excludeSlot (s : Dev) : Dev :=
  s.onBoot (fun b => { b with excluded := b.excluded ||| 2 ^ (b.slot.getD 0) })

/-- Step 3 ends (R496, R497): bit 0 of the operand says that a read of the slot was uncorrectable. -/
def Dev.stepThree (s : Dev) (x : Nat) : Dev :=
  let s := s.bootSignature (s.boot.slot.getD 0) (x.testBit 0)
  if !s.sec.sensed.secure then (s.stepResult 3 0).next 4
  else if s.sec.sigResult = 0 then (s.stepResult 1 0).next 4
  else s.excludeSlot.failToRestart 3 s.sec.sigResult

/-- The defect map of boot (R517): true when a valid slot passed the checks of R178; otherwise the map is empty. -/
def Dev.bootMap (s : Dev) : Bool × Dev :=
  match s.boot.dmapSlot.bind (fun k => readMap (fun i => bytesWord (s.nvmRead (slotBase 1 k + 16 + 5 * i) 5)) 262081 0 0) with
  | some m => (true, s.onPip (fun p => { p with dmap := m }))
  | none => (false, s.onPip (fun p => { p with dmap := [] }))

/-- Step 4 ends (R492, R493, R517); it never fails. -/
def Dev.stepFour (s : Dev) : Dev :=
  let s := s.loadCaddy
  let (map, s) := s.bootMap
  (s.stepResult 1 (b2n (!s.bt R.CAL_STATUS 32) + 2 * b2n (!map))).next 5

/-- The channels have trained at their states in the record, and every word reads zero (R231, R232, R555). -/
def Dev.memoryTrained (s : Dev) : Dev :=
  let chans := s.nvm.fallback.chans
  let masked := chans.contains 2
  let s := (s.wf R.MEM_STATUS 15 0 (pack2 chans)).wb R.MEM_STATUS 16 masked
  let s := s.onMem (fun m => { m with words := [], ecc := [] })
  if masked then
    ((s.wr R.MEM_POUR_SIZE 0x1BEDA000).wr R.MEM_PV_BASE 0x1BEDA000).onMem (fun m => { m with pourSize := 0x1BEDA000, pvBase := 0x1BEDA000 })
  else s

/-- Step 5 ends (R513, R514): the operand is the mask of channels that fail training. -/
def Dev.stepFive (s : Dev) (x : Nat) : Dev :=
  let failing := s.failingChannels x
  let code := failing.foldl (fun n c => n + 2 ^ c) 0
  if s.nvm.fallback.maint then s.failToMaintenance 5 code 3
  else if failing.isEmpty then (s.memoryTrained.stepResult 1 0).next 6
  else
    let t := s.memoryFailure failing
    if Dev.memoryGivesUp s t failing then t.failToMaintenance 5 code 3 else t.failToRestart 5 code

/-- Step 6 ends (R513, R555): the operand is the mask of channels that fail the quick test. -/
def Dev.stepSix (s : Dev) (x : Nat) : Dev :=
  let failing := s.failingChannels x
  let s := s.onMem (fun m => { m with words := [], ecc := [] })
  let s : Dev := if failing.isEmpty then s else s.memoryFailure failing
  (s.optionalEnd 6 (failing.foldl (fun n c => n + 2 ^ c) 0)).next 7

/-- The timebase PLL has locked (R338, R442): the timebase starts at zero, and the monitor runs. -/
def Dev.startClock (s : Dev) : Dev :=
  let (tb, s) := s.drawNat 64
  let (lk, s) := s.drawNat 64
  let link := !s.clk.failed.testBit 1
  let s := s.wr R.CLK_STATUS (place 35 34 3 ||| place 32 32 (b2n link) ||| place 13 8 lk ||| place 5 0 tb)
  let s := s.onClk (fun c => { c with tbStarted := true, lkStarted := true })
  let s : Dev := { s with tb := 0, tbRun := true, tim := { s.tim with gridAt := s.tick } }
  if s.bt R.MON_CTRL 0 ∧ s.mon.phase = .stopped then s.monBegin 0 s.tick else s

/-- Step 7 ends (R442, R443, R514), after PLL_LOCK_TIMEOUT for each PLL that missed its time. -/
def Dev.stepSeven (s : Dev) : Dev :=
  let code := s.clk.failed
  if code.testBit 0 then
    let n := s.boot.pllFails + 1
    let s := s.onBoot (fun b => { b with pllFails := n })
    if 3 ≤ n then s.failToMaintenance 7 code 4 else s.failToRestart 7 code
  else
    let s := (s.startClock).onBoot (fun b => { b with pllFails := 0 })
    (s.stepResult (if code = 0 then 1 else 2) code).next 8

/-- Step 8 ends (R511, R513): a port that is FAILED is recorded. -/
def Dev.stepEight (s : Dev) : Dev :=
  let mask := (List.finRange 4).foldl (fun n f => if (s.port f).st = 5 then n + 2 ^ f.val else n) 0
  ((s.onFallback (fun f => { f with ports := f.ports ||| mask })).optionalEnd 8 mask).next 9

/-- Step 9 ends (R511, R513): lanes that failed their test are recorded; the code says what became of the link. -/
def Dev.stepNine (s : Dev) : Dev :=
  let lanes := s.fd R.LNK_LANE_FAIL 33 0
  let new := lanesLess lanes s.nvm.fallback.lanes
  let code := if new = 0 then 0 else if s.lnk.state ≠ 2 then 3 else if s.lnk.wide then 1 else 2
  ((s.onFallback (fun f => { f with lanes := f.lanes ||| new })).optionalEnd 9 code).next 10

/-- Step 10 ends (R480, R511). -/
def Dev.stepTen (s : Dev) : Dev :=
  let code := s.cal.bootRejects
  ((s.onCal (fun c => { c with boot := false })).optionalEnd 10 code).next 11

/-- The profiles (R517, action 3): bit 0 sealed, bit 1 array. -/
def Dev.bootProfiles (s : Dev) : Dev :=
  let v := s.imageByte 4
  let s : Dev := if v.testBit 0 then s.tagEnable 1 else s
  if v.testBit 1 then
    let was := arrayEnables.map (fun x => (x.1, s.rd x.1))
    let s := arrayEnables.foldl (fun (s : Dev) x => s.wr x.1 (s.rd x.1 ||| x.2)) s
    (was.foldl (fun (s : Dev) x => s.cmdEff {} .boot x.1 x.2 (s.rd x.1)) s).settle
  else s

/-- Step 11 ends (R517): the records, their claims, the profiles, the line period, the threads, and RUN. -/
def Dev.stepEleven (s : Dev) (f : Fuses) : Dev :=
  let (code, s) := s.bootRecords f ((s.imageLength - 16) / 8) 16
  if code ≠ 0 then s.excludeSlot.failToRestart 11 code
  else
    let s := s.settle.bootProfiles
    let was := s.bt R.SEQ_CTRL 0
    let s := (s.wb R.SEQ_CTRL 0 true).lpRunChanged was
    let mask := s.imageByte 13
    let s := (List.finRange 8).foldl (fun (s : Dev) n => if mask.testBit n.val then s.threadStart n else s) s
    ((s.wf R.PWR_STATE 35 33 2).onBoot (fun b => { b with step := none, outcome := 1 })).stepResult 1 0

/-- The end of step `k` with its operand. -/
def Dev.endStep (s : Dev) (f : Fuses) (k x : Nat) : Fuses × Dev :=
  match k with
  | 0 => (f, (s.stepResult 1 0).next 1)
  | 1 => s.stepOne f x
  | 2 => (f, s.stepTwo)
  | 3 => (f, s.stepThree x)
  | 4 => (f, s.stepFour)
  | 5 => (f, s.stepFive x)
  | 6 => (f, s.stepSix x)
  | 7 => (f, s.stepSeven)
  | 8 => (f, s.stepEight)
  | 9 => (f, s.stepNine)
  | 10 => (f, s.stepTen)
  | _ => (f, s.stepEleven f)

/-- The step in progress ends, once what it started has come to its end (R511). -/
def Dev.bootStep (s : Dev) (f : Fuses) (x : Nat) : Fuses × Dev :=
  match s.boot.step with
  | none => (f, s)
  | some k => if s.stepReady k then s.endStep f k x else (f, s)

/-- BOOT_STEP_COMPLETE (R511). -/
def execBootStepComplete (x : BitVec 8) (s : State) : Host.Outcome State Fault Refusal :=
  s.onFuses (fun d => d.bootStep s.fuses x.toNat)

end Sys2Proof.Machine
end

