-- ==== Sys2Proof/Machine/WriteRows.lean ====
section
/-! DEFINITION. The commands that are accesses of the control space. Each row that is the write of one register is that write, with the bits
that make it the row's command set; whatever else the word holds is written too. -/

namespace Sys2Proof.Machine

/-- A control-space write by a path or a thread. -/
def State.write (s : State) (p : Owner) (a : Nat) (v : Word) : Host.Outcome State Fault Refusal :=
  s.access (fun d => d.anyWrite s.fuses p a v)

/-- Whether the MRAM stores the next session number (R498). -/
def State.storing (s : State) (ok : Bool) : State := { s with dev := s.dev.onNvm (fun n => { n with ok := ok }) }

/-- CONTROL_SPACE_WRITE (R291): a write of any word. -/
def execControlSpaceWrite (p : Owner) (a : BitVec 24) (v : Word) (s : State) : Host.Outcome State Fault Refusal := s.write p a.toNat v

/-- BAD_ADDRESS_ACCESS (R14, R18): an access to an address that no register occupies. -/
def execBadAddressAccess (p : Owner) (a : BitVec 24) (write : Bool) (s : State) : Host.Outcome State Fault Refusal :=
  s.access (fun d => match regAt a.toNat with
    | none => d.badAddress p a.toNat write
    | some _ => d)

/-- PROFILE_APPLY (R31). -/
def execProfileApply (p : Owner) (v : Word) (s : State) : Host.Outcome State Fault Refusal :=
  s.write p R.ID_PROFILE_APPLY (v ||| place 0 0 1)

/-- TX_APPLY (R293, R294). -/
def execTxApply (o : Owner) (s : State) : Host.Outcome State Fault Refusal := s.onRun (fun d => d.txApply s.fuses o)

/-- CAP_LO_READ (R355). -/
def execCapLoRead (p : Owner) (c : Fin 16) (s : State) : Host.Outcome State Fault Refusal :=
  s.access (fun d => (d.readEff p (R.TIM_CHc_CAP_LO c)).2)

/-- NODE_CLEAR (R42): the write, with the bits that make it this command. -/
def execNodeClear (p : Owner) (v : Word) (s : State) : Host.Outcome State Fault Refusal :=
  s.write p R.STP_CLEAR_HI (v ||| place 35 35 1)

/-- ENTRY_ARM (R48): the write, with the bits that make it this command. -/
def execEntryArm (p : Owner) (n : Fin 8) (v : Word) (s : State) : Host.Outcome State Fault Refusal :=
  s.write p (R.STP_ENn_CTRL n) (v ||| place 35 35 1)

/-- ENTRY_DISARM (R53): the write, with the bits that make it this command. -/
def execEntryDisarm (p : Owner) (n : Fin 8) (v : Word) (s : State) : Host.Outcome State Fault Refusal :=
  s.write p (R.STP_ENn_CTRL n) (v ||| place 34 34 1)

/-- SOFT_GO (R58). -/
def execSoftGo (p : Owner) (v : Word) (s : State) : Host.Outcome State Fault Refusal := s.write p R.STP_SOFT_GO v

/-- PUMP_START (R74): the write, with the bits that make it this command. -/
def execPumpStart (p : Owner) (v : Word) (s : State) : Host.Outcome State Fault Refusal :=
  s.write p R.STP_CTRL (v ||| place 0 0 1)

/-- PUMP_STOP (R75): the write, with the bits that make it this command. -/
def execPumpStop (p : Owner) (v : Word) (s : State) : Host.Outcome State Fault Refusal :=
  s.write p R.STP_CTRL (setField v 0 0 0)

/-- STROBE_ACT_WRITE (R72). -/
def execStrobeActWrite (p : Owner) (v : Word) (s : State) : Host.Outcome State Fault Refusal := s.write p R.STP_STROBE_ACT v

/-- FRAME_GO (R84): the write, with the bits that make it this command. -/
def execFrameGo (p : Owner) (v : Word) (s : State) : Host.Outcome State Fault Refusal :=
  s.write p R.STP_FRM_CTRL (v ||| place 35 35 1)

/-- FRAME_STOP (R108): the write, with the bits that make it this command. -/
def execFrameStop (p : Owner) (v : Word) (s : State) : Host.Outcome State Fault Refusal :=
  s.write p R.STP_FRM_CTRL (v ||| place 34 34 1)

/-- SPARE_ENABLE (R136): the write, with the bits that make it this command. -/
def execSpareEnable (p : Owner) (v : Word) (s : State) : Host.Outcome State Fault Refusal :=
  s.write p R.CNV_CTRL (v ||| place 12 12 1)

/-- BANK_FAULT_RESUME (R127). -/
def execBankFaultResume (p : Owner) (v : Word) (s : State) : Host.Outcome State Fault Refusal := s.write p R.CNV_STATUS v

/-- CNV_FORCE (R137): the write, with the bits that make it this command. -/
def execCnvForce (p : Owner) (v : Word) (s : State) : Host.Outcome State Fault Refusal :=
  s.write p R.CNV_SUB_CMD (setField v 35 34 1)

/-- CNV_RELEASE (R137): the write, with the bits that make it this command. -/
def execCnvRelease (p : Owner) (v : Word) (s : State) : Host.Outcome State Fault Refusal :=
  s.write p R.CNV_SUB_CMD (setField v 35 34 2)

/-- MAN_POUR_GO (R144): the write, with the bits that make it this command. -/
def execManPourGo (p : Owner) (v : Word) (s : State) : Host.Outcome State Fault Refusal :=
  s.write p R.RDO_MAN_POUR (v ||| place 35 35 1)

/-- DMAP_SWAP (R178): the write, with the bits that make it this command. -/
def execDmapSwap (p : Owner) (v : Word) (s : State) : Host.Outcome State Fault Refusal :=
  s.write p R.PIP_DMAP_CTRL (v ||| place 35 35 1)

/-- DMAP_EXT_ENABLE (R176): the write, with the bits that make it this command. -/
def execDmapExtEnable (p : Owner) (v : Word) (s : State) : Host.Outcome State Fault Refusal :=
  s.write p R.PIP_DMAP_CTRL (v ||| place 32 32 1)

/-- PREVIEW_ENABLE (R197): the write, with the bits that make it this command. -/
def execPreviewEnable (p : Owner) (v : Word) (s : State) : Host.Outcome State Fault Refusal :=
  s.write p R.PIP_PREVIEW (v ||| place 0 0 1)

/-- RING_APPLY (R213): the write, with the bits that make it this command. -/
def execRingApply (p : Owner) (v : Word) (s : State) : Host.Outcome State Fault Refusal :=
  s.write p R.MEM_RING_CTRL (v ||| place 35 35 1)

/-- POUR_RELEASE (R216). -/
def execPourRelease (p : Owner) (v : Word) (s : State) : Host.Outcome State Fault Refusal := s.write p R.MEM_POUR_RELEASE v

/-- OUT_RELEASE (R218). -/
def execOutRelease (p : Owner) (v : Word) (s : State) : Host.Outcome State Fault Refusal := s.write p R.MEM_OUT_RELEASE v

/-- PREVIEW_COPY_ENABLE (R257): the write, with the bits that make it this command. -/
def execPreviewCopyEnable (p : Owner) (v : Word) (s : State) : Host.Outcome State Fault Refusal :=
  s.write p R.LNK_PV_CTRL (setField v 2 0 5)

/-- LANE_SPARE_ENABLE (R262): the write, with the bits that make it this command. -/
def execLaneSpareEnable (p : Owner) (v : Word) (s : State) : Host.Outcome State Fault Refusal :=
  s.write p R.LNK_CTRL (v ||| place 10 10 1)

/-- LINK_RETRAIN (R258): the write, with the bits that make it this command. -/
def execLinkRetrain (p : Owner) (v : Word) (s : State) : Host.Outcome State Fault Refusal :=
  s.write p R.LNK_CTRL (v ||| place 35 35 1)

/-- TRAIN_ACK (R260). -/
def execTrainAck (p : Owner) (v : Word) (s : State) : Host.Outcome State Fault Refusal := s.write p R.LNK_TRAIN_ACK v

/-- LANE_FORCE_FAIL (R263): the write, with the bits that make it this command. -/
def execLaneForceFail (p : Owner) (v : Word) (s : State) : Host.Outcome State Fault Refusal :=
  s.write p R.LNK_LANE_CMD (setField v 35 34 1)

/-- LANE_RETURN (R263): the write, with the bits that make it this command. -/
def execLaneReturn (p : Owner) (v : Word) (s : State) : Host.Outcome State Fault Refusal :=
  s.write p R.LNK_LANE_CMD (setField v 35 34 2)

/-- THREAD_START (R272): the write, with the bits that make it this command. -/
def execThreadStart (p : Owner) (n : Fin 8) (v : Word) (s : State) : Host.Outcome State Fault Refusal :=
  s.write p (R.SEQ_THn_CTRL n) (setField v 35 33 4)

/-- THREAD_STOP (R272): the write, with the bits that make it this command. -/
def execThreadStop (p : Owner) (n : Fin 8) (v : Word) (s : State) : Host.Outcome State Fault Refusal :=
  s.write p (R.SEQ_THn_CTRL n) (setField v 35 33 2)

/-- THREAD_RESET (R272): the write, with the bits that make it this command. -/
def execThreadReset (p : Owner) (n : Fin 8) (v : Word) (s : State) : Host.Outcome State Fault Refusal :=
  s.write p (R.SEQ_THn_CTRL n) (setField v 35 33 1)

/-- SIGNAL_WRITE (R288). -/
def execSignalWrite (p : Owner) (v : Word) (s : State) : Host.Outcome State Fault Refusal := s.write p R.SEQ_SIGNAL v

/-- DOORBELL (R288): the write, with the bits that make it this command. -/
def execDoorbell (p : Owner) (v : Word) (s : State) : Host.Outcome State Fault Refusal :=
  s.write p R.SEQ_DOORBELL (v ||| place 0 0 1)

/-- PINOUT_WRITE (R289). -/
def execPinoutWrite (p : Owner) (k : Fin 4) (v : Word) (s : State) : Host.Outcome State Fault Refusal := s.write p (R.SEQ_PINOUTk k) v

/-- TX_CMD_BEGIN (R290): the write, with the bits that make it this command. -/
def execTxCmdBegin (p : Owner) (v : Word) (s : State) : Host.Outcome State Fault Refusal :=
  s.write p R.SEQ_TX_CMD (setField v 35 34 1)

/-- TX_CMD_COMMIT (R293): the write, with the bits that make it this command. -/
def execTxCmdCommit (p : Owner) (v : Word) (s : State) : Host.Outcome State Fault Refusal :=
  s.write p R.SEQ_TX_CMD (setField v 35 34 2)

/-- TX_CMD_ABORT (R296): the write, with the bits that make it this command. -/
def execTxCmdAbort (p : Owner) (v : Word) (s : State) : Host.Outcome State Fault Refusal :=
  s.write p R.SEQ_TX_CMD (setField v 35 34 3)

/-- LOCK_ACQUIRE (R299): the write, with the bits that make it this command. -/
def execLockAcquire (p : Owner) (k : Fin 32) (v : Word) (s : State) : Host.Outcome State Fault Refusal :=
  s.write p (R.SEQ_LOCKk k) (setField v 35 34 2)

/-- LOCK_RELEASE (R299): the write, with the bits that make it this command. -/
def execLockRelease (p : Owner) (k : Fin 32) (v : Word) (s : State) : Host.Outcome State Fault Refusal :=
  s.write p (R.SEQ_LOCKk k) (setField v 35 34 1)

/-- TB_LOAD (R341): the write, with the bits that make it this command. -/
def execTbLoad (p : Owner) (v : Word) (s : State) : Host.Outcome State Fault Refusal :=
  s.write p R.TIM_TB_CTRL (v ||| place 35 35 1)

/-- CHANNEL_CFG_WRITE (R346). -/
def execChannelCfgWrite (p : Owner) (c : Fin 16) (v : Word) (s : State) : Host.Outcome State Fault Refusal := s.write p (R.TIM_CHc_CFG c) v

/-- CMP_WRITE (R347). -/
def execCmpWrite (p : Owner) (c : Fin 16) (v : Word) (s : State) : Host.Outcome State Fault Refusal := s.write p (R.TIM_CHc_CMP c) v

/-- CNT_WRITE (R346). -/
def execCntWrite (p : Owner) (c : Fin 16) (v : Word) (s : State) : Host.Outcome State Fault Refusal := s.write p (R.TIM_CHc_CNT c) v

/-- GROUP_START_WRITE (R357). -/
def execGroupStartWrite (p : Owner) (v : Word) (s : State) : Host.Outcome State Fault Refusal := s.write p R.TIM_GSTART v

/-- PORT_RETRAIN (R368): the write, with the bits that make it this command. -/
def execPortRetrain (p : Owner) (f : Fin 4) (v : Word) (s : State) : Host.Outcome State Fault Refusal :=
  s.write p (R.FAB_PORTp_CTRL f) (v ||| place 35 35 1)

/-- SCHED_ISSUE (R383): the write, with the bits that make it this command. -/
def execSchedIssue (p : Owner) (v : Word) (s : State) : Host.Outcome State Fault Refusal :=
  s.write p R.FAB_SCHED_CMD (v ||| place 35 35 1)

/-- TRIGOUT_WRITE (R387). -/
def execTrigoutWrite (p : Owner) (k : Fin 4) (v : Word) (s : State) : Host.Outcome State Fault Refusal := s.write p (R.FAB_TRIGOUTk k) v

/-- RX_POP (R389): the write, with the bits that make it this command. -/
def execRxPop (p : Owner) (v : Word) (s : State) : Host.Outcome State Fault Refusal :=
  s.write p R.FAB_RX_POP (v ||| place 0 0 1)

/-- MON_CTRL_WRITE (R459). -/
def execMonCtrlWrite (p : Owner) (v : Word) (s : State) : Host.Outcome State Fault Refusal := s.write p R.MON_CTRL v

/-- MON_START_WRITE (R461). -/
def execMonStartWrite (p : Owner) (v : Word) (s : State) : Host.Outcome State Fault Refusal := s.write p R.MON_START v

/-- KETTLE_PHASE_WRITE (R473). -/
def execKettlePhaseWrite (p : Owner) (v : Word) (s : State) : Host.Outcome State Fault Refusal := s.write p R.KTL_CTRL v

/-- CAL_RUN (R478). -/
def execCalRun (p : Owner) (v : Word) (s : State) : Host.Outcome State Fault Refusal := s.write p R.CAL_RUN v

/-- CAL_STORE (R489): the write, with the bits that make it this command. -/
def execCalStore (p : Owner) (v : Word) (s : State) : Host.Outcome State Fault Refusal :=
  s.write p R.CAL_STORE (v ||| place 0 0 1)

/-- FUSE_PROGRAM (R495): the write, with the bits that make it this command. -/
def execFuseProgram (p : Owner) (v : Word) (s : State) : Host.Outcome State Fault Refusal :=
  s.write p R.SEC_FUSE_CTRL (v ||| place 35 35 1)

/-- TAG_EN_WRITE (R34). -/
def execTagEnWrite (p : Owner) (v : Word) (s : State) : Host.Outcome State Fault Refusal := s.write p R.SEC_CTRL v

/-- ATTEST (R504): the write, with the bits that make it this command. -/
def execAttest (p : Owner) (v : Word) (s : State) : Host.Outcome State Fault Refusal :=
  s.write p R.SEC_ATT_CTRL (v ||| place 35 35 1)

/-- ATTEST_ABORT (R506): the write, with the bits that make it this command. -/
def execAttestAbort (p : Owner) (v : Word) (s : State) : Host.Outcome State Fault Refusal :=
  s.write p R.SEC_ATT_CTRL (v ||| place 34 34 1)

/-- SOFT_RESET (R508): the write, with the bits that make it this command. -/
def execSoftReset (p : Owner) (v : Word) (s : State) : Host.Outcome State Fault Refusal :=
  s.write p R.PWR_CTRL (v ||| place 35 35 1)

/-- FALLBACK_CLEAR (R513): the write, with the bits that make it this command. -/
def execFallbackClear (p : Owner) (v : Word) (s : State) : Host.Outcome State Fault Refusal :=
  s.write p R.CFG_CTRL (v ||| place 35 35 1)

/-- NVM_LOAD (R518): the write, with the bits that make it this command. -/
def execNvmLoad (p : Owner) (v : Word) (s : State) : Host.Outcome State Fault Refusal :=
  s.write p R.CFG_NVM_CMD (setField v 4 3 1 ||| place 35 35 1)

/-- NVM_COMMIT (R518): the write, with the bits that make it this command. -/
def execNvmCommit (p : Owner) (v : Word) (s : State) : Host.Outcome State Fault Refusal :=
  s.write p R.CFG_NVM_CMD (setField v 4 3 2 ||| place 35 35 1)

/-- LOG_CLEAR (R523): the write, with the bits that make it this command. -/
def execLogClear (p : Owner) (v : Word) (s : State) : Host.Outcome State Fault Refusal :=
  s.write p R.EVT_CTRL (v ||| place 35 35 1)

/-- LOG_POP (R523): the write, with the bits that make it this command. -/
def execLogPop (p : Owner) (v : Word) (s : State) : Host.Outcome State Fault Refusal :=
  s.write p R.EVT_POP (v ||| place 0 0 1)

/-- FRM_NUMBER_WRITE (R498): `stored` says whether the MRAM stores the session number. -/
def execFrmNumberWrite (p : Owner) (v : Word) (stored : Bool) (s : State) : Host.Outcome State Fault Refusal :=
  (s.storing stored).write p R.STP_FRM_NUMBER v

/-- REKEY (R498): `stored` says whether the MRAM stores the session number. -/
def execRekey (p : Owner) (v : Word) (stored : Bool) (s : State) : Host.Outcome State Fault Refusal :=
  (s.storing stored).write p R.SEC_CTRL (v ||| place 35 35 1)

end Sys2Proof.Machine
end

