-- ==== Sys2Proof/Machine/Taquin.lean ====
section
/-! DEFINITION. Taquin instructions: their syntax, their encoding and their decoding (spec/10_taquin_instruction_set.md). -/

namespace Sys2Proof.Machine

/-! ### Syntax -/

/-- Operations of OP 0x01 (R310). -/
inductive Alu where
  | add | adc | sub | sbc | and | or | xor | bic | shl | shr | sar | mul | mulhu | cmp
  deriving DecidableEq, Repr

/-- Operations with an unsigned immediate (R309). -/
inductive Logic where
  | and | or | xor
  deriving DecidableEq, Repr

/-- Shifts by an immediate (R310). -/
inductive Shift where
  | shl | shr | sar
  deriving DecidableEq, Repr

/-- A Taquin instruction with its fields, its literal words apart. A pair or register field holds its number; `pourR` takes the windows from a
register and `pour` from the word; `fabSched`, `txTime` take T from a pair, or from two literal words when the pair is none. -/
inductive Tq where
  | alu (f : Alu) (d a b : BitVec 4)
  | addi (d a : BitVec 4) (imm : BitVec 22)
  | logic (f : Logic) (d a : BitVec 4) (imm : BitVec 22)
  | shift (f : Shift) (d a : BitVec 4) (sh : BitVec 6)
  | liShort (d : BitVec 4) (imm : BitVec 26)
  | liLong (d : BitVec 4)
  | cmpi (a : BitVec 4) (imm : BitVec 22)
  | bCc (cond : BitVec 4) (target : BitVec 14)
  | bccReg (cond a b : BitVec 4) (target : BitVec 14)
  | bccImm (cond a : BitVec 4) (imm : BitVec 8) (target : BitVec 14)
  | loop (c : BitVec 4) (target : BitVec 14)
  | jal (d : BitVec 4) (target : BitVec 14)
  | jr (a : BitVec 4)
  | ldAbs (d : BitVec 4) (addr : BitVec 24)
  | stAbs (r : BitVec 4) (addr : BitVec 24)
  | ldIdx (d a : BitVec 4) (off : BitVec 22)
  | stIdx (r a : BitVec 4) (off : BitVec 22)
  | wait (d : BitVec 4) (base : BitVec 6) (mask : BitVec 16) (t : BitVec 4)
  | waitM (d a t : BitVec 4)
  | stamp (d e : BitVec 4)
  | time (d e : BitVec 4)
  | signal (n : BitVec 4)
  | arm (e : BitVec 3) (z t : BitVec 4) (node src : BitVec 2) (mode : BitVec 4) (acc disc : BitVec 1) (srcId : BitVec 8)
  | disarm (e : BitVec 3)
  | fire (mask : BitVec 8)
  | pour (node : BitVec 2) (win : BitVec 16)
  | pourR (node : BitVec 2) (a : BitVec 4)
  | win (k p r : BitVec 4)
  | zrect (d : BitVec 4) (zx0 zy0 zx1 zy1 : BitVec 3)
  | zgain (r : BitVec 4) (zn : BitVec 6)
  | tmr (ch : BitVec 4) (f : BitVec 3) (a : BitVec 4)
  | tmrGo (mask : BitVec 16)
  | fabSend (d e a : BitVec 4) (n : BitVec 2)
  | fabSched (d : BitVec 4) (id : BitVec 8) (a : Option (BitVec 4))
  | txBegin
  | txCommit (boundary : BitVec 2)
  | txTime (a : Option (BitVec 4))
  | txAbort
  | lock (d : BitVec 4) (k : BitVec 5)
  | unlock (k : BitVec 5)
  | halt
  | nop
  deriving DecidableEq, Repr

/-! ### Encoding -/

/-- FN of OP 0x01 (R310). -/
def Alu.code : Alu → BitVec 6
  | .add => 0 | .adc => 1 | .sub => 2 | .sbc => 3 | .and => 4 | .or => 5 | .xor => 6 | .bic => 7
  | .shl => 8 | .shr => 9 | .sar => 10 | .mul => 11 | .mulhu => 12 | .cmp => 13

/-- The operation an FN selects. -/
def Alu.ofCode (c : BitVec 6) : Option Alu :=
  match c.toNat with
  | 0 => some .add | 1 => some .adc | 2 => some .sub | 3 => some .sbc | 4 => some .and | 5 => some .or | 6 => some .xor
  | 7 => some .bic | 8 => some .shl | 9 => some .shr | 10 => some .sar | 11 => some .mul | 12 => some .mulhu | 13 => some .cmp
  | _ => none

/-- OP of a logic immediate (R306). -/
def Logic.op : Logic → BitVec 6
  | .and => 3 | .or => 4 | .xor => 5

/-- SFN of a shift (R310). -/
def Shift.code : Shift → BitVec 2
  | .shl => 0 | .shr => 1 | .sar => 2

/-- The shift an SFN selects. -/
def Shift.ofCode (c : BitVec 2) : Option Shift :=
  match c.toNat with
  | 0 => some .shl | 1 => some .shr | 2 => some .sar
  | _ => none

/-- Are the fields of an instruction ones that a defined encoding can hold (R302, R310, R314, R333)? -/
def Tq.wf : Tq → Bool
  | .alu f d _ _ => f != .cmp || d == 0
  | .bCc cond _ => cond != 15
  | .bccReg cond _ _ _ => cond != 0 && cond != 15
  | .bccImm cond _ _ _ => cond != 0 && cond != 15
  | .txCommit boundary => boundary != 3
  | _ => true

/-- The first word of an instruction (R309, R313, R316, R319, R323 to R329, R332). -/
def tqEncode : Tq → Word
  | .alu f d a b => (1 : BitVec 6) ++ d ++ a ++ b ++ f.code ++ (0 : BitVec 12)
  | .addi d a imm => (2 : BitVec 6) ++ d ++ a ++ imm
  | .logic f d a imm => f.op ++ d ++ a ++ imm
  | .shift f d a sh => (6 : BitVec 6) ++ d ++ a ++ f.code ++ (0 : BitVec 14) ++ sh
  | .liShort d imm => (7 : BitVec 6) ++ d ++ imm
  | .liLong d => (8 : BitVec 6) ++ d ++ (0 : BitVec 26)
  | .cmpi a imm => (9 : BitVec 6) ++ (0 : BitVec 4) ++ a ++ imm
  | .bCc cond target => (10 : BitVec 6) ++ cond ++ (0 : BitVec 12) ++ target
  | .bccReg cond a b target => (11 : BitVec 6) ++ cond ++ a ++ b ++ (0 : BitVec 4) ++ target
  | .bccImm cond a imm target => (12 : BitVec 6) ++ cond ++ a ++ imm ++ target
  | .loop c target => (13 : BitVec 6) ++ c ++ (0 : BitVec 12) ++ target
  | .jal d target => (14 : BitVec 6) ++ d ++ (0 : BitVec 12) ++ target
  | .jr a => (15 : BitVec 6) ++ (0 : BitVec 4) ++ a ++ (0 : BitVec 22)
  | .ldAbs d addr => (16 : BitVec 6) ++ d ++ (0 : BitVec 2) ++ addr
  | .stAbs r addr => (17 : BitVec 6) ++ r ++ (0 : BitVec 2) ++ addr
  | .ldIdx d a off => (18 : BitVec 6) ++ d ++ a ++ off
  | .stIdx r a off => (19 : BitVec 6) ++ r ++ a ++ off
  | .wait d base mask t => (20 : BitVec 6) ++ d ++ base ++ mask ++ t
  | .waitM d a t => (21 : BitVec 6) ++ d ++ a ++ t ++ (0 : BitVec 18)
  | .stamp d e => (22 : BitVec 6) ++ d ++ e ++ (0 : BitVec 22)
  | .time d e => (23 : BitVec 6) ++ d ++ e ++ (0 : BitVec 22)
  | .signal n => (24 : BitVec 6) ++ (0 : BitVec 26) ++ n
  | .arm e z t node src mode acc disc srcId =>
    (25 : BitVec 6) ++ e ++ z ++ t ++ node ++ src ++ mode ++ acc ++ disc ++ srcId ++ (0 : BitVec 1)
  | .disarm e => (26 : BitVec 6) ++ e ++ (0 : BitVec 27)
  | .fire mask => (27 : BitVec 6) ++ (0 : BitVec 22) ++ mask
  | .pour node win => (28 : BitVec 6) ++ node ++ (0 : BitVec 12) ++ win
  | .pourR node a => (28 : BitVec 6) ++ node ++ (2 : BitVec 2) ++ a ++ (0 : BitVec 22)
  | .win k p r => (29 : BitVec 6) ++ k ++ p ++ r ++ (0 : BitVec 18)
  | .zrect d zx0 zy0 zx1 zy1 => (30 : BitVec 6) ++ d ++ (0 : BitVec 14) ++ zx0 ++ zy0 ++ zx1 ++ zy1
  | .zgain r zn => (31 : BitVec 6) ++ r ++ zn ++ (0 : BitVec 20)
  | .tmr ch f a => (32 : BitVec 6) ++ ch ++ f ++ a ++ (0 : BitVec 19)
  | .tmrGo mask => (33 : BitVec 6) ++ (0 : BitVec 14) ++ mask
  | .fabSend d e a n => (34 : BitVec 6) ++ d ++ e ++ a ++ n ++ (0 : BitVec 16)
  | .fabSched d id (some a) => (35 : BitVec 6) ++ d ++ id ++ (0 : BitVec 1) ++ a ++ (0 : BitVec 13)
  | .fabSched d id none => (35 : BitVec 6) ++ d ++ id ++ (1 : BitVec 1) ++ (0 : BitVec 17)
  | .txBegin => (36 : BitVec 6) ++ (0 : BitVec 30)
  | .txCommit boundary => (37 : BitVec 6) ++ boundary ++ (0 : BitVec 28)
  | .txTime (some a) => (37 : BitVec 6) ++ (3 : BitVec 2) ++ (0 : BitVec 1) ++ a ++ (0 : BitVec 23)
  | .txTime none => (37 : BitVec 6) ++ (3 : BitVec 2) ++ (1 : BitVec 1) ++ (0 : BitVec 27)
  | .txAbort => (38 : BitVec 6) ++ (0 : BitVec 30)
  | .lock d k => (39 : BitVec 6) ++ d ++ (0 : BitVec 21) ++ k
  | .unlock k => (40 : BitVec 6) ++ (0 : BitVec 25) ++ k
  | .halt => (41 : BitVec 6) ++ (0 : BitVec 30)
  | .nop => (42 : BitVec 6) ++ (0 : BitVec 30)

/-- The number of literal words that follow (R306). -/
def Tq.literals : Tq → Nat
  | .liLong _ => 1
  | .fabSched _ _ none => 2
  | .txTime none => 2
  | _ => 0

/-! ### Decoding -/

/-- `n` bits of a word from bit `lo`. -/
def bitsAt (w : Word) (lo n : Nat) : BitVec n := w.extractLsb' lo n

/-- The instruction, when `n` bits from bit `lo` are zero (R302). -/
def whenZero (w : Word) (lo n : Nat) (i : Tq) : Option Tq := if bitsAt w lo n = 0 then some i else none

/-- The instruction that a word is a defined encoding of (R302). -/
def tqDecode (w : Word) : Option Tq :=
  let d := bitsAt w 26 4
  let a := bitsAt w 22 4
  let b := bitsAt w 18 4
  let target := bitsAt w 0 14
  match (bitsAt w 30 6).toNat with
  | 0x01 =>
    match Alu.ofCode (bitsAt w 12 6) with
    | some f => if f = .cmp ∧ d ≠ 0 then none else whenZero w 0 12 (.alu f d a b)
    | none => none
  | 0x02 => some (.addi d a (bitsAt w 0 22))
  | 0x03 => some (.logic .and d a (bitsAt w 0 22))
  | 0x04 => some (.logic .or d a (bitsAt w 0 22))
  | 0x05 => some (.logic .xor d a (bitsAt w 0 22))
  | 0x06 =>
    match Shift.ofCode (bitsAt w 20 2) with
    | some f => whenZero w 6 14 (.shift f d a (bitsAt w 0 6))
    | none => none
  | 0x07 => some (.liShort d (bitsAt w 0 26))
  | 0x08 => whenZero w 0 26 (.liLong d)
  | 0x09 => whenZero w 26 4 (.cmpi a (bitsAt w 0 22))
  | 0x0A => if d = 15 then none else whenZero w 14 12 (.bCc d target)
  | 0x0B => if d = 0 ∨ d = 15 then none else whenZero w 14 4 (.bccReg d a b target)
  | 0x0C => if d = 0 ∨ d = 15 then none else some (.bccImm d a (bitsAt w 14 8) target)
  | 0x0D => whenZero w 14 12 (.loop d target)
  | 0x0E => whenZero w 14 12 (.jal d target)
  | 0x0F => if d ≠ 0 then none else whenZero w 0 22 (.jr a)
  | 0x10 => whenZero w 24 2 (.ldAbs d (bitsAt w 0 24))
  | 0x11 => whenZero w 24 2 (.stAbs d (bitsAt w 0 24))
  | 0x12 => some (.ldIdx d a (bitsAt w 0 22))
  | 0x13 => some (.stIdx d a (bitsAt w 0 22))
  | 0x14 => some (.wait d (bitsAt w 20 6) (bitsAt w 4 16) (bitsAt w 0 4))
  | 0x15 => whenZero w 0 18 (.waitM d a b)
  | 0x16 => whenZero w 0 22 (.stamp d a)
  | 0x17 => whenZero w 0 22 (.time d a)
  | 0x18 => whenZero w 4 26 (.signal (bitsAt w 0 4))
  | 0x19 => whenZero w 0 1 (.arm (bitsAt w 27 3) (bitsAt w 23 4) (bitsAt w 19 4) (bitsAt w 17 2) (bitsAt w 15 2) (bitsAt w 11 4)
      (bitsAt w 10 1) (bitsAt w 9 1) (bitsAt w 1 8))
  | 0x1A => whenZero w 0 27 (.disarm (bitsAt w 27 3))
  | 0x1B => whenZero w 8 22 (.fire (bitsAt w 0 8))
  | 0x1C =>
    if bitsAt w 27 1 = 0 then whenZero w 16 11 (.pour (bitsAt w 28 2) (bitsAt w 0 16))
    else if bitsAt w 26 1 = 0 then whenZero w 0 22 (.pourR (bitsAt w 28 2) a) else none
  | 0x1D => whenZero w 0 18 (.win d a b)
  | 0x1E => whenZero w 12 14 (.zrect d (bitsAt w 9 3) (bitsAt w 6 3) (bitsAt w 3 3) (bitsAt w 0 3))
  | 0x1F => whenZero w 0 20 (.zgain d (bitsAt w 20 6))
  | 0x20 => whenZero w 0 19 (.tmr d (bitsAt w 23 3) (bitsAt w 19 4))
  | 0x21 => whenZero w 16 14 (.tmrGo (bitsAt w 0 16))
  | 0x22 => whenZero w 0 16 (.fabSend d a b (bitsAt w 16 2))
  | 0x23 =>
    if bitsAt w 17 1 = 0 then whenZero w 0 13 (.fabSched d (bitsAt w 18 8) (some (bitsAt w 13 4)))
    else whenZero w 0 17 (.fabSched d (bitsAt w 18 8) none)
  | 0x24 => whenZero w 0 30 .txBegin
  | 0x25 =>
    if bitsAt w 28 2 ≠ 3 then whenZero w 0 28 (.txCommit (bitsAt w 28 2))
    else if bitsAt w 27 1 = 0 then whenZero w 0 23 (.txTime (some (bitsAt w 23 4)))
    else whenZero w 0 27 (.txTime none)
  | 0x26 => whenZero w 0 30 .txAbort
  | 0x27 => whenZero w 5 21 (.lock d (bitsAt w 0 5))
  | 0x28 => whenZero w 5 25 (.unlock (bitsAt w 0 5))
  | 0x29 => whenZero w 0 30 .halt
  | 0x2A => whenZero w 0 30 .nop
  | _ => none

/-- The row of spec/opcode_table.json that an instruction of thread `t` is. -/
def Tq.row (t : Fin 8) : Tq → Instr
  | .alu .add _ _ _ => .add t
  | .alu .adc _ _ _ => .adc t
  | .alu .sub _ _ _ => .sub t
  | .alu .sbc _ _ _ => .sbc t
  | .alu .and _ _ _ => .and_ t
  | .alu .or _ _ _ => .or_ t
  | .alu .xor _ _ _ => .xor_ t
  | .alu .bic _ _ _ => .bic t
  | .alu .shl _ _ _ => .shl t
  | .alu .shr _ _ _ => .shr t
  | .alu .sar _ _ _ => .sar t
  | .alu .mul _ _ _ => .mul t
  | .alu .mulhu _ _ _ => .mulhu t
  | .alu .cmp _ _ _ => .cmp t
  | .addi _ _ _ => .addi t
  | .logic .and _ _ _ => .andi t
  | .logic .or _ _ _ => .ori t
  | .logic .xor _ _ _ => .xori t
  | .shift .shl _ _ _ => .shli t
  | .shift .shr _ _ _ => .shri t
  | .shift .sar _ _ _ => .sari t
  | .liShort _ _ => .liShort t
  | .liLong _ => .liLong t
  | .cmpi _ _ => .cmpi t
  | .bCc _ _ => .bCc t
  | .bccReg _ _ _ _ => .bccRegister t
  | .bccImm _ _ _ _ => .bccImmediate t
  | .loop _ _ => .loop t
  | .jal _ _ => .jal t
  | .jr _ => .jr t
  | .ldAbs _ _ => .ldCAbsolute t
  | .stAbs _ _ => .stCAbsolute t
  | .ldIdx _ _ _ => .ldCIndexed t
  | .stIdx _ _ _ => .stCIndexed t
  | .wait _ _ _ _ => .wait t
  | .waitM _ _ _ => .waitM t
  | .stamp _ _ => .stamp t
  | .time _ _ => .time t
  | .signal _ => .signal t
  | .arm _ _ _ _ _ _ _ _ _ => .arm t
  | .disarm _ => .disarm t
  | .fire _ => .fire t
  | .pour _ _ => .pour t
  | .pourR _ _ => .pour t
  | .win _ _ _ => .win t
  | .zrect _ _ _ _ _ => .zrect t
  | .zgain _ _ => .zgain t
  | .tmr _ _ _ => .tmr t
  | .tmrGo _ => .tmrGo t
  | .fabSend _ _ _ _ => .fabSend t
  | .fabSched _ _ _ => .fabSched t
  | .txBegin => .txBegin t
  | .txCommit _ => .txCommit t
  | .txTime _ => .txCommit t
  | .txAbort => .txAbort t
  | .lock _ _ => .lock t
  | .unlock _ => .unlock t
  | .halt => .halt t
  | .nop => .nop t

end Sys2Proof.Machine
end

