-- ==== Sys2Proof/Machine/Flags.lean ====
section
/-! DEFINITION. Results and flags of the Taquin arithmetic, logic and shift instructions, and the branch conditions (R308, R310, R311, R314). -/

namespace Sys2Proof.Machine

/-- A result with the flags it sets (R308). -/
structure Result where
  r : Word
  z : Bool
  n : Bool
  c : Bool
  v : Bool
  deriving DecidableEq, Repr

/-- A result with Z and N from its bits. -/
def mkResult (r : Word) (c v : Bool) : Result := ⟨r, r == 0, bit r 35, c, v⟩

/-- a + b + carry (R308, R310). -/
def addResult (a b : Word) (carry : Bool) : Result :=
  let sum := a.toNat + b.toNat + b2n carry
  let exact := a.toInt + b.toInt + (b2n carry : Int)
  let r := BitVec.ofNat 36 sum
  mkResult r (decide (2 ^ 36 ≤ sum)) (decide (r.toInt ≠ exact))

/-- a − b − borrow (R308, R310). -/
def subResult (a b : Word) (borrow : Bool) : Result :=
  let exact := a.toInt - b.toInt - (b2n borrow : Int)
  let r := a - b - BitVec.ofNat 36 (b2n borrow)
  mkResult r (decide (a.toNat < b.toNat + b2n borrow)) (decide (r.toInt ≠ exact))

/-- A logic result: C and V are zero. -/
def logicResult (r : Word) : Result := mkResult r false false

/-- a << n (R310, R311). -/
def shlResult (a : Word) (n : Nat) : Result :=
  mkResult (a <<< n) (n != 0 && decide (n ≤ 36) && bit a (36 - n)) false

/-- a >> n, logical (R310, R311). -/
def shrResult (a : Word) (n : Nat) : Result :=
  mkResult (a >>> n) (n != 0 && bit a (n - 1)) false

/-- a >> n, arithmetic (R310, R311). -/
def sarResult (a : Word) (n : Nat) : Result :=
  mkResult (a.sshiftRight n) (n != 0 && (if n ≤ 36 then bit a (n - 1) else bit a 35)) false

/-- The operations of OP 0x01 (R310); cmp is sub without its result. -/
def Alu.result (f : Alu) (a b : Word) (c : Bool) : Result :=
  match f with
  | .add => addResult a b false
  | .adc => addResult a b c
  | .sub => subResult a b false
  | .sbc => subResult a b c
  | .and => logicResult (a &&& b)
  | .or => logicResult (a ||| b)
  | .xor => logicResult (a ^^^ b)
  | .bic => logicResult (a &&& ~~~ b)
  | .shl => shlResult a (field b 5 0)
  | .shr => shrResult a (field b 5 0)
  | .sar => sarResult a (field b 5 0)
  | .mul => mkResult (BitVec.ofNat 36 (a.toNat * b.toNat)) (decide (2 ^ 36 ≤ a.toNat * b.toNat)) false
  | .mulhu => mkResult (BitVec.ofNat 36 (a.toNat * b.toNat / 2 ^ 36)) false false
  | .cmp => subResult a b false

/-- The logic operations with an immediate. -/
def Logic.result (f : Logic) (a b : Word) : Result :=
  match f with
  | .and => logicResult (a &&& b)
  | .or => logicResult (a ||| b)
  | .xor => logicResult (a ^^^ b)

/-- The shifts by an immediate. -/
def Shift.result (f : Shift) (a : Word) (n : Nat) : Result :=
  match f with
  | .shl => shlResult a n
  | .shr => shrResult a n
  | .sar => sarResult a n

/-- Write a result and its flags. -/
def Thread.setFlags (t : Thread) (x : Result) : Thread := { t with fz := x.z, fn := x.n, fc := x.c, fv := x.v }

/-- The conditions of R314; 15 is undefined. -/
def condHolds (cond : BitVec 4) (z n c v : Bool) : Bool :=
  match cond.toNat with
  | 0 => true
  | 1 => z
  | 2 => !z
  | 3 => n != v
  | 4 => n == v
  | 5 => c
  | 6 => !c
  | 7 => n
  | 8 => !n
  | 9 => v
  | 10 => !v
  | 11 => !z && n == v
  | 12 => z || n != v
  | 13 => !c && !z
  | 14 => c || z
  | _ => false

/-- Does the comparison of two words meet a condition (R314)? -/
def compares (cond : BitVec 4) (a b : Word) : Bool :=
  let x := subResult a b false
  condHolds cond x.z x.n x.c x.v

end Sys2Proof.Machine
end

