-- ==== Sys2Proof/Machine/Operands.lean ====
section
/-! DEFINITION. Operand forms of the Taquin instructions: registers, pairs, immediates, addresses, event sets, zone masks, and what an
instruction that stands for several writes writes (R306, R307, R316, R320, R323 to R327). -/

namespace Sys2Proof.Machine

/-- A register of a field. -/
def Thread.rg (t : Thread) (r : BitVec 4) : Word := t.reg r.toNat

/-- pair(n): the register of the field and the next one (R307). -/
def Thread.pair (t : Thread) (r : BitVec 4) : Stamp := joinWords (t.reg r.toNat) (t.reg (r.toNat + 1))

/-- A word of instruction memory. -/
def Dev.imem (s : Dev) (a : Nat) : Word := s.rd (R.SEQ_IMEM a)

/-- The address of an indexed access (R316). -/
def Thread.indexed (t : Thread) (a : BitVec 4) (off : BitVec 22) : Nat := (((t.rg a).setWidth 24 : BitVec 24) + off.signExtend 24).toNat

/-- The event set of wait (R320). -/
def waitSet (base : BitVec 6) (mask : BitVec 16) : Zones := (mask.setWidth 64 : BitVec 64) <<< base.toNat

/-- Does an event of the set lie beyond 63 (R320)? -/
def waitBeyond (base : BitVec 6) (mask : BitVec 16) : Bool := (List.range 16).any (fun j => mask.getLsbD j && decide (63 < base.toNat + j))

/-- The event set of wait.m (R320). -/
def Thread.pairSet (t : Thread) (a : BitVec 4) : Zones := zJoin (t.reg a.toNat) (t.reg (a.toNat + 1))

/-- The mask of a rectangle of zones (R326). -/
def rectMask (zx0 zy0 zx1 zy1 : Nat) : Zones :=
  zUnion (((List.range 64).filter (fun z => decide (zx0 ≤ z % 8) && decide (z % 8 ≤ zx1) && decide (zy0 ≤ z / 8) && decide (z / 8 ≤ zy1))).map zone)

/-- The value of STP.ENe_CTRL that arm writes (R323). -/
def armWord (node src : BitVec 2) (mode : BitVec 4) (acc disc : BitVec 1) (srcId : BitVec 8) : Word :=
  place 35 35 1 ||| place 23 16 srcId.toNat ||| place 15 12 mode.toNat ||| place 11 11 acc.toNat ||| place 10 10 disc.toNat |||
    place 9 8 node.toNat ||| place 4 3 src.toNat

/-- The value of STP.ENe_CTRL that disarm writes: the staged RW fields, else the live ones, and DISARM (R324). -/
def Dev.disarmWord (s : Dev) (n : Fin 8) (e : BitVec 3) : Word :=
  let a := R.STP_ENn_CTRL e.toNat
  let t := s.tx (.thread n)
  let base := if t.st = .opened then ((t.staged.find? (fun x => x.1 == a)).map (·.2)).getD (s.rd a) else s.rd a
  (base &&& (fieldMask 23 8 ||| fieldMask 5 3)) ||| place 34 34 1

/-- The writes that an instruction stands for (R317, R323 to R327), read from the thread's registers. -/
def Dev.writesOf (s : Dev) (n : Fin 8) (h : Thread) : Tq → List (Nat × Word)
  | .arm e z t node src mode acc disc srcId =>
    (if z = 15 then [] else [(R.STP_ENn_ZMASK_LO e.toNat, h.reg z.toNat), (R.STP_ENn_ZMASK_HI e.toNat, h.reg (z.toNat + 1))]) ++
      [(R.STP_ENn_DURATION e.toNat, h.rg t), (R.STP_ENn_CTRL e.toNat, armWord node src mode acc disc srcId)]
  | .disarm e => [(R.STP_ENn_CTRL e.toNat, s.disarmWord n e)]
  | .fire mask => [(R.STP_SOFT_GO, BitVec.ofNat 36 mask.toNat)]
  | .pour node win => [(R.RDO_MAN_POUR, place 35 35 1 ||| place 25 24 node.toNat ||| place 15 0 win.toNat)]
  | .pourR node a => [(R.RDO_MAN_POUR, place 35 35 1 ||| place 25 24 node.toNat ||| place 15 0 (field (h.rg a) 15 0))]
  | .win k p r => [(R.RDO_WINk_POS k.toNat, h.rg p), (R.RDO_WINk_SIZE k.toNat, h.rg r)]
  | .zgain r zn => [(R.PIP_ZGAINz zn.toNat, h.rg r)]
  | .tmr ch f a => [(R.TIM_CHc_CFG ch.toNat + f.toNat, h.rg a)]
  | .tmrGo mask => [(R.TIM_GSTART, BitVec.ofNat 36 mask.toNat)]
  | .stAbs r addr => [(addr.toNat, h.rg r)]
  | .stIdx r a off => [(h.indexed a off, h.rg r)]
  | _ => []

end Sys2Proof.Machine
end

