-- ==== Sys2Proof/Machine/TaquinOps.lean ====
section
/-! DEFINITION. Issue, faults, effects and retirement of Taquin instructions (R301 to R334), and one meaning for each row. -/

namespace Sys2Proof.Machine

/-! ### Faults -/

/-- Does the thread hold a lock? -/
def Dev.holdsLock (s : Dev) (p : Owner) : Bool := (List.finRange 32).any (fun k => s.lock k == some p)

/-- The lock a word address names. -/
def lockAt (a : Nat) : Option (Fin 32) := if h : 0x10040 ≤ a ∧ a < 0x10060 then some ⟨a - 0x10040, by omega⟩ else none

/-- The fault of a st.c (R299, R304, R334): a release of a lock the thread does not hold, a misuse of SEQ.TX_CMD. -/
def Dev.storeFault (s : Dev) (n : Fin 8) (a : Nat) (v : Word) : Option Nat :=
  match lockAt a with
  | some k => if bit v 34 && !bit v 35 && s.lock k != some (.thread n) then some 3 else none
  | none =>
    let action := field v 35 34
    if a = R.SEQ_TX_CMD ∧ action ≠ 0 then
      (if action = 1 then (if (s.tx (.thread n)).live then some 4 else none)
       else if (s.tx (.thread n)).st = .opened then none else some 4)
    else none

/-- The operand faults (R307, R334). -/
def Tq.operandFault : Tq → Bool
  | .zrect d _ _ _ _ => d == 15
  | .waitM _ a _ => a == 15
  | .fabSched _ _ (some a) => a == 15
  | .txTime (some a) => a == 15
  | .stamp d e => d == e
  | .time d e => d == e
  | .shift _ _ _ sh => decide (36 < sh.toNat)
  | .wait _ base mask _ => waitBeyond base mask
  | .fabSend _ _ a k => decide (15 < a.toNat + k.toNat)
  | _ => false

/-- The fault of an instruction, judged before any effect (R303, R304, R334). -/
def Dev.faultOf (s : Dev) (n : Fin 8) (h : Thread) (i : Tq) : Option Nat :=
  if 16384 < h.pc + 1 + i.literals then some 2
  else if i.operandFault then some 6
  else match i with
    | .unlock k => if s.lock ⟨k.toNat, k.isLt⟩ = some (.thread n) then none else some 3
    | .stAbs r addr => s.storeFault n addr.toNat (h.rg r)
    | .stIdx r a off => s.storeFault n (h.indexed a off) (h.rg r)
    | .txBegin => if (s.tx (.thread n)).live then some 4 else none
    | .txCommit _ => if (s.tx (.thread n)).st = .opened then none else some 4
    | .txTime _ => if (s.tx (.thread n)).st = .opened then none else some 4
    | .txAbort => if (s.tx (.thread n)).st = .opened then none else some 4
    | .halt => if s.holdsLock (.thread n) || (s.tx (.thread n)).live then some 5 else none
    | _ => none

/-! ### Effects -/

/-- The number of words that a list of writes would add to the staged ones. -/
def newWords (staged ws : List (Nat × Word)) : Nat := (ws.foldl (fun l x => stageInto x.1 x.2 l) staged).length

/-- The writes of one instruction (R317): staged together or not at all while the thread's transaction is OPEN; otherwise each in order. A write of
ID.PROFILE_APPLY stages no word of its own (R31). -/
def Dev.threadWrites (s : Dev) (f : Fuses) (n : Fin 8) (ws : List (Nat × Word)) : Dev :=
  let p := Owner.thread n
  let staging := ws.filter (fun x => (regAt x.1).isSome && !neverStaged x.1 && x.1 != R.ID_PROFILE_APPLY)
  if (s.tx p).st = .opened ∧ 256 < newWords (s.tx p).staged staging then s.abortTx p 2
  else ws.foldl (fun (s : Dev) x => s.anyWrite f p x.1 x.2) s

/-- Write a register of the thread. -/
def Dev.setReg (s : Dev) (n : Fin 8) (r : BitVec 4) (v : Word) : Dev := s.setTh n ((s.th n).setReg r.toNat v)

/-- The thread goes to a branch target. -/
def Thread.jump (t : Thread) (target : BitVec 14) : Thread := { t with pc := target.toNat, pastEnd := false }

/-- Where the thread goes on: at the target of a taken branch, jump or loop, otherwise past the instruction. -/
def Thread.goOn (h : Thread) (i : Tq) : Thread :=
  match i with
  | .bCc cond target => if condHolds cond h.fz h.fn h.fc h.fv then h.jump target else h.advance 1
  | .bccReg cond a b target => if compares cond (h.rg a) (h.rg b) then h.jump target else h.advance 1
  | .bccImm cond a imm target => if compares cond (h.rg a) (imm.setWidth 36) then h.jump target else h.advance 1
  | .loop c target => if h.rg c - 1 ≠ 0 then h.jump target else h.advance 1
  | .jal _ target => h.jump target
  | .jr a => h.jump ((h.rg a).setWidth 14)
  | .wait _ _ _ _ => h
  | .waitM _ _ _ => h
  | i => h.advance (1 + i.literals)

/-- Registers and flags an instruction writes that depend on the thread alone (R308 to R315, R326); `lit` is its first literal word. -/
def Thread.compute (h : Thread) (lit : Word) (i : Tq) (t : Thread) : Thread :=
  let out := fun (d : BitVec 4) (x : Result) => (t.setReg d.toNat x.r).setFlags x
  match i with
  | .alu .cmp _ a b => t.setFlags (Alu.result .cmp (h.rg a) (h.rg b) h.fc)
  | .alu f d a b => out d (f.result (h.rg a) (h.rg b) h.fc)
  | .addi d a imm => out d (addResult (h.rg a) (imm.signExtend 36) false)
  | .cmpi a imm => t.setFlags (subResult (h.rg a) (imm.signExtend 36) false)
  | .logic f d a imm => out d (f.result (h.rg a) (imm.setWidth 36))
  | .shift f d a sh => out d (f.result (h.rg a) sh.toNat)
  | .liShort d imm => t.setReg d.toNat (imm.signExtend 36)
  | .liLong d => t.setReg d.toNat lit
  | .loop c _ => t.setReg c.toNat (h.rg c - 1)
  | .jal d _ => t.setReg d.toNat (BitVec.ofNat 36 (h.pc + 1))
  | .stamp d e => (t.setReg d.toNat (loWord h.delivered)).setReg e.toNat (hiWord h.delivered)
  | .zrect d zx0 zy0 zx1 zy1 =>
    let m := rectMask zx0.toNat zy0.toNat zx1.toNat zy1.toNat
    { (t.setReg d.toNat (zLo m)).setReg (d.toNat + 1) (zHi m) with fz := m == 0, fn := false, fc := false, fv := false }
  | _ => t

/-- A wait issues at tick `t` (R285, R286, R320): it completes at once on a pending event of its set or a timeout of zero; otherwise the thread
waits. -/
def Thread.issueWait (h : Thread) (set : Zones) (d timeout : BitVec 4) (t : Nat) : Thread :=
  let n := (h.rg timeout).toNat
  let w : WaitCtx := ⟨set, if n = 2 ^ 36 - 1 then none else some (t + n), d.toNat⟩
  if h.pend.any (fun x => set.getLsbD x.1) ∨ n = 0 then h.completeWait w t else { h with st := .waiting, wait := some w }

/-- T of a fabric trigger or a TIME commit: the pair, or two literal words (R331, R333). -/
def Dev.timeOperand (s : Dev) (h : Thread) (a : Option (BitVec 4)) : Stamp :=
  match a with
  | some r => h.pair r
  | none => joinWords (s.imem (h.pc + 1)) (s.imem (h.pc + 2))

/-- A ld.c (R316): the word is read with the thread as it issued. -/
def Dev.threadRead (s : Dev) (n : Fin 8) (h : Thread) (d : BitVec 4) (a : Nat) : Dev :=
  (s.readEff (.thread n) a).2.setReg n d ((s.setTh n h).readEff (.thread n) a).1

/-- The effect of an instruction of thread `n` beyond its own registers; `h` is the thread as it issued. -/
def Dev.effect (s : Dev) (f : Fuses) (n : Fin 8) (h : Thread) (i : Tq) : Dev :=
  let p := Owner.thread n
  match i with
  | .ldAbs d addr => s.threadRead n h d addr.toNat
  | .ldIdx d a off => s.threadRead n h d (h.indexed a off)
  | .time d e => (s.setReg n d (loWord s.tb)).setReg n e (hiWord s.tb)
  | .signal k => s.postSoft k.toNat
  | .fabSend d e a k =>
    match s.fabSend (h.rg e).toNat ((List.range (k.toNat + 1)).map (fun j => h.reg (a.toNat + j))) with
    | (ok, s) => s.setReg n d (BitVec.ofNat 36 (b2n ok))
  | .fabSched d id a => match s.schedIssue id.toNat (s.timeOperand h a) with | (r, s) => s.setReg n d (BitVec.ofNat 36 r)
  | .txBegin => s.txBegin p
  | .txCommit boundary => s.txCommit p boundary.toNat
  | .txTime a =>
    let T := s.timeOperand h a
    (s.setTx p { s.tx p with timeLo := loWord T, timeHi := hiWord T }).txCommit p 3
  | .txAbort => s.abortTx p 4
  | .lock d k =>
    let k : Fin 32 := ⟨k.toNat, k.isLt⟩
    let s := s.threadsDue
    (s.acquire p k).setReg n d (BitVec.ofNat 36 (b2n (s.lock k == none)))
  | .unlock k => s.freeLock ⟨k.toNat, k.isLt⟩
  | .halt => s.setTh n { s.th n with st := .halted }
  | i => match s.writesOf n h i with
    | [] => s
    | ws => s.threadWrites f n ws

/-- After an instruction has retired at the end of instruction memory the thread faults in place of a fetch (R303); a wait faults at its completion. -/
def Dev.runsOff (s : Dev) (n : Fin 8) (i : Tq) : Dev :=
  match i with
  | .wait _ _ _ _ => s
  | .waitM _ _ _ => s
  | _ => if (s.th n).st = .running ∧ (s.th n).pastEnd = true then s.threadFault n 2 else s

/-- One instruction of thread `n`, issued at this tick (R301, R304, R305): it faults without effect, or it goes on, computes, has its
effect, and counts. A control-space read comes before the thread goes on. -/
def Dev.retire (s : Dev) (f : Fuses) (n : Fin 8) (i : Tq) : Dev :=
  let h := s.th n
  let issued := s.setTh n { h with lastPc := h.pc, after := some s.tick, lost := none }
  match s.faultOf n h i with
  | some cause => issued.threadFault n cause
  | none =>
    let h' := issued.th n
    let t := h.compute (s.imem (h.pc + 1)) i (h'.goOn i)
    let s : Dev := match i with
      | .wait d base mask timeout => issued.setTh n (t.issueWait (waitSet base mask) d timeout s.tick)
      | .waitM d a timeout => issued.setTh n (t.issueWait (h.pairSet a) d timeout s.tick)
      | _ => issued.setTh n t
    ((s.effect f n h i).bump (R.SEQ_THn_ISSUED n)).runsOff n i

/-- What thread `n` fetches next (R278, R303): the tick of its slot, and the word at its PC, or none past the end. -/
def Dev.fetch (s : Dev) (n : Fin 8) : Option (Nat × Option Word) :=
  (s.issueAt n).map (fun t => (t, if (s.th n).pastEnd then none else some (s.imem (s.th n).pc)))

/-- An instruction issues when it is the one that row `c` of the opcode table names, for the thread whose slot comes; control fields that waited for the
thread's retirement have taken effect (R272). -/
def Dev.taquin (s : Dev) (f : Fuses) (n : Fin 8) (c : Instr) : Dev :=
  let u := s.catchUp n
  match u.fetch n with
  | some (t, some w) =>
    match tqDecode w with
    | some i => if i.row n = c then (u.to t).retire f n i else s
    | none => s
  | _ => s

/-- A word that is no defined encoding faults the thread with cause 1, and a fetch past the end with cause 2 (R302, R303). -/
def Dev.undefinedFetch (s : Dev) (n : Fin 8) : Dev :=
  let u := s.catchUp n
  match u.fetch n with
  | some (t, none) => (u.to t).threadFault n 2
  | some (t, some w) =>
    match tqDecode w with
    | some _ => s
    | none =>
      let s := u.to t
      (s.setTh n { s.th n with lastPc := (s.th n).pc }).threadFault n 1
  | none => s

/-! ### Meanings -/

/-- The meaning of a Taquin row. -/
def State.taquin (s : State) (n : Fin 8) (c : Instr) : Host.Outcome State Fault Refusal :=
  s.onRun (fun d => d.taquin s.fuses n c)

/-- ADD (R310). -/
def execAdd (t : Fin 8) (s : State) : Host.Outcome State Fault Refusal := s.taquin t (.add t)

/-- ADC (R310). -/
def execAdc (t : Fin 8) (s : State) : Host.Outcome State Fault Refusal := s.taquin t (.adc t)

/-- SUB (R310). -/
def execSub (t : Fin 8) (s : State) : Host.Outcome State Fault Refusal := s.taquin t (.sub t)

/-- SBC (R310). -/
def execSbc (t : Fin 8) (s : State) : Host.Outcome State Fault Refusal := s.taquin t (.sbc t)

/-- AND (R310). -/
def execAnd (t : Fin 8) (s : State) : Host.Outcome State Fault Refusal := s.taquin t (.and_ t)

/-- OR (R310). -/
def execOr (t : Fin 8) (s : State) : Host.Outcome State Fault Refusal := s.taquin t (.or_ t)

/-- XOR (R310). -/
def execXor (t : Fin 8) (s : State) : Host.Outcome State Fault Refusal := s.taquin t (.xor_ t)

/-- BIC (R310). -/
def execBic (t : Fin 8) (s : State) : Host.Outcome State Fault Refusal := s.taquin t (.bic t)

/-- SHL (R311). -/
def execShl (t : Fin 8) (s : State) : Host.Outcome State Fault Refusal := s.taquin t (.shl t)

/-- SHR (R311). -/
def execShr (t : Fin 8) (s : State) : Host.Outcome State Fault Refusal := s.taquin t (.shr t)

/-- SAR (R311). -/
def execSar (t : Fin 8) (s : State) : Host.Outcome State Fault Refusal := s.taquin t (.sar t)

/-- MUL (R310). -/
def execMul (t : Fin 8) (s : State) : Host.Outcome State Fault Refusal := s.taquin t (.mul t)

/-- MULHU (R310). -/
def execMulhu (t : Fin 8) (s : State) : Host.Outcome State Fault Refusal := s.taquin t (.mulhu t)

/-- CMP (R310). -/
def execCmp (t : Fin 8) (s : State) : Host.Outcome State Fault Refusal := s.taquin t (.cmp t)

/-- ADDI (R310). -/
def execAddi (t : Fin 8) (s : State) : Host.Outcome State Fault Refusal := s.taquin t (.addi t)

/-- ANDI (R310). -/
def execAndi (t : Fin 8) (s : State) : Host.Outcome State Fault Refusal := s.taquin t (.andi t)

/-- ORI (R310). -/
def execOri (t : Fin 8) (s : State) : Host.Outcome State Fault Refusal := s.taquin t (.ori t)

/-- XORI (R310). -/
def execXori (t : Fin 8) (s : State) : Host.Outcome State Fault Refusal := s.taquin t (.xori t)

/-- SHLI (R311). -/
def execShli (t : Fin 8) (s : State) : Host.Outcome State Fault Refusal := s.taquin t (.shli t)

/-- SHRI (R311). -/
def execShri (t : Fin 8) (s : State) : Host.Outcome State Fault Refusal := s.taquin t (.shri t)

/-- SARI (R311). -/
def execSari (t : Fin 8) (s : State) : Host.Outcome State Fault Refusal := s.taquin t (.sari t)

/-- LI_SHORT (R312). -/
def execLiShort (t : Fin 8) (s : State) : Host.Outcome State Fault Refusal := s.taquin t (.liShort t)

/-- LI_LONG (R312). -/
def execLiLong (t : Fin 8) (s : State) : Host.Outcome State Fault Refusal := s.taquin t (.liLong t)

/-- CMPI (R310). -/
def execCmpi (t : Fin 8) (s : State) : Host.Outcome State Fault Refusal := s.taquin t (.cmpi t)

/-- B_CC (R314). -/
def execBCc (t : Fin 8) (s : State) : Host.Outcome State Fault Refusal := s.taquin t (.bCc t)

/-- BCC_REGISTER (R314). -/
def execBccRegister (t : Fin 8) (s : State) : Host.Outcome State Fault Refusal := s.taquin t (.bccRegister t)

/-- BCC_IMMEDIATE (R314). -/
def execBccImmediate (t : Fin 8) (s : State) : Host.Outcome State Fault Refusal := s.taquin t (.bccImmediate t)

/-- LOOP (R315). -/
def execLoop (t : Fin 8) (s : State) : Host.Outcome State Fault Refusal := s.taquin t (.loop t)

/-- JAL (R315). -/
def execJal (t : Fin 8) (s : State) : Host.Outcome State Fault Refusal := s.taquin t (.jal t)

/-- JR (R315). -/
def execJr (t : Fin 8) (s : State) : Host.Outcome State Fault Refusal := s.taquin t (.jr t)

/-- LD_C_ABSOLUTE (R316). -/
def execLdCAbsolute (t : Fin 8) (s : State) : Host.Outcome State Fault Refusal := s.taquin t (.ldCAbsolute t)

/-- ST_C_ABSOLUTE (R316). -/
def execStCAbsolute (t : Fin 8) (s : State) : Host.Outcome State Fault Refusal := s.taquin t (.stCAbsolute t)

/-- LD_C_INDEXED (R316). -/
def execLdCIndexed (t : Fin 8) (s : State) : Host.Outcome State Fault Refusal := s.taquin t (.ldCIndexed t)

/-- ST_C_INDEXED (R316). -/
def execStCIndexed (t : Fin 8) (s : State) : Host.Outcome State Fault Refusal := s.taquin t (.stCIndexed t)

/-- WAIT (R320). -/
def execWait (t : Fin 8) (s : State) : Host.Outcome State Fault Refusal := s.taquin t (.wait t)

/-- WAIT_M (R320). -/
def execWaitM (t : Fin 8) (s : State) : Host.Outcome State Fault Refusal := s.taquin t (.waitM t)

/-- STAMP (R321). -/
def execStamp (t : Fin 8) (s : State) : Host.Outcome State Fault Refusal := s.taquin t (.stamp t)

/-- TIME (R321). -/
def execTime (t : Fin 8) (s : State) : Host.Outcome State Fault Refusal := s.taquin t (.time t)

/-- SIGNAL (R322). -/
def execSignal (t : Fin 8) (s : State) : Host.Outcome State Fault Refusal := s.taquin t (.signal t)

/-- ARM (R323). -/
def execArm (t : Fin 8) (s : State) : Host.Outcome State Fault Refusal := s.taquin t (.arm t)

/-- DISARM (R324). -/
def execDisarm (t : Fin 8) (s : State) : Host.Outcome State Fault Refusal := s.taquin t (.disarm t)

/-- FIRE (R324). -/
def execFire (t : Fin 8) (s : State) : Host.Outcome State Fault Refusal := s.taquin t (.fire t)

/-- POUR (R324). -/
def execPour (t : Fin 8) (s : State) : Host.Outcome State Fault Refusal := s.taquin t (.pour t)

/-- WIN (R325). -/
def execWin (t : Fin 8) (s : State) : Host.Outcome State Fault Refusal := s.taquin t (.win t)

/-- ZRECT (R326). -/
def execZrect (t : Fin 8) (s : State) : Host.Outcome State Fault Refusal := s.taquin t (.zrect t)

/-- ZGAIN (R325). -/
def execZgain (t : Fin 8) (s : State) : Host.Outcome State Fault Refusal := s.taquin t (.zgain t)

/-- TMR (R328). -/
def execTmr (t : Fin 8) (s : State) : Host.Outcome State Fault Refusal := s.taquin t (.tmr t)

/-- TMR_GO (R328). -/
def execTmrGo (t : Fin 8) (s : State) : Host.Outcome State Fault Refusal := s.taquin t (.tmrGo t)

/-- FAB_SEND (R330). -/
def execFabSend (t : Fin 8) (s : State) : Host.Outcome State Fault Refusal := s.taquin t (.fabSend t)

/-- FAB_SCHED (R331). -/
def execFabSched (t : Fin 8) (s : State) : Host.Outcome State Fault Refusal := s.taquin t (.fabSched t)

/-- TX_BEGIN (R332). -/
def execTxBegin (t : Fin 8) (s : State) : Host.Outcome State Fault Refusal := s.taquin t (.txBegin t)

/-- TX_COMMIT (R333). -/
def execTxCommit (t : Fin 8) (s : State) : Host.Outcome State Fault Refusal := s.taquin t (.txCommit t)

/-- TX_ABORT (R332). -/
def execTxAbort (t : Fin 8) (s : State) : Host.Outcome State Fault Refusal := s.taquin t (.txAbort t)

/-- LOCK (R332). -/
def execLock (t : Fin 8) (s : State) : Host.Outcome State Fault Refusal := s.taquin t (.lock t)

/-- UNLOCK (R332). -/
def execUnlock (t : Fin 8) (s : State) : Host.Outcome State Fault Refusal := s.taquin t (.unlock t)

/-- HALT (R332). -/
def execHalt (t : Fin 8) (s : State) : Host.Outcome State Fault Refusal := s.taquin t (.halt t)

/-- NOP (R332). -/
def execNop (t : Fin 8) (s : State) : Host.Outcome State Fault Refusal := s.taquin t (.nop t)

/-- UNDEFINED_ENCODING_FETCH (R302). -/
def execUndefinedEncodingFetch (t : Fin 8) (s : State) : Host.Outcome State Fault Refusal :=
  s.onRun (fun d => d.undefinedFetch t)

end Sys2Proof.Machine
end

