-- ==== Sys2Proof/Machine/Relay.lean ====
section
/-! DEFINITION. The control relay of the fabric: this device as the target of a gateway (R391, R392, R394) and as the gateway itself (R390,
R392, R412). -/

namespace Sys2Proof.Machine

/-- Reads of consecutive control words by a path, one decision each (R405); the address wraps at 24 bits (DEDUCED, log entry 172). -/
def Dev.ctlReadRun (s : Dev) (p : Owner) (a : Nat) : Nat → List Word × Dev
  | 0 => ([], s)
  | n + 1 =>
    let (w, d) := s.hold.readEff p a
    let s := d.decided s
    let (ws, s) := s.ctlReadRun p ((a + 1) % 2 ^ 24) n
    (w :: ws, s)

/-- Writes of consecutive control words by a path, one decision each (R405); a reset that one of them causes ends the rest. -/
def Dev.ctlWriteRun (s : Dev) (f : Fuses) (p : Owner) (a : Nat) : List Word → Dev
  | [] => s
  | w :: ws =>
    let s := s.inDecision (fun d => d.anyWrite f p a w)
    if s.boot.step = some 0 then s else s.ctlWriteRun f p ((a + 1) % 2 ^ 24) ws

/-- The status of a data-port run: 0 done, 1 uncorrectable, 2 refused (R393, R401); of a run that is both the spec does not say which one is
reported. -/
def Dev.runStatus (s : Dev) (ue no : Bool) : Nat × Dev :=
  if ue && no then
    let (n, s) := s.drawNat 2
    (1 + n, s)
  else (if ue then 1 else if no then 2 else 0, s)

/-- What a relayed request does at the target (R391): its status and its read data. -/
def Dev.relayCarryOut (s : Dev) (f : Fuses) (op count addr : Nat) (words : List Word) : Nat × List Word × Dev :=
  let n := count + 1
  let a := addr % 2 ^ 29
  let space := addr / 2 ^ 29
  if op = 0 then
    let (ws, s) := s.ctlReadRun .relay a n
    (0, ws, s)
  else if op = 1 then (0, [], s.ctlWriteRun f .relay a (words.take n))
  else if !s.bt R.HST_CTRL 0 then (2, [], s)
  else if op = 2 then
    let (ws, ue, no, s) := s.dpReadRun space a n
    let (st, s) := s.runStatus ue no
    (st, ws, s)
  else
    let (no, s) := s.dpWriteAll .relay space a (words.take n)
    (if no then 2 else 0, [], s)

/-- The session ends: an owner reset of the control relay (R394). Its last request and response stay kept (R392). -/
def Dev.sessionEnd (s : Dev) : Dev :=
  match s.fab.session with
  | some x => ((s.onFab (fun b => { b with session := none, ended := some x })).wr R.FAB_RELAY_SESSION (place 21 14 x.rseq ||| place 13 0 x.gateway)).ownerReset .relay
  | none => s

/-- A RELAY_REQ for this device (R391, R392, R394). A repeat is answered with the kept response, also after the end of its session, which it opens again
(DESIGN CHOICE, log entry 127); a request that resets the device is not answered. -/
def Dev.relayRequest (s : Dev) (f : Fuses) (src rseq op count addr : Nat) (words : List Word) : Dev :=
  let answer := fun (s : Dev) (status : Nat) (ws : List Word) => s.sendTo src (relayRspPacket src s.ownId rseq status count ws)
  let other := match s.fab.session with
    | some x => x.gateway != src
    | none => false
  if !s.bt R.FAB_CTRL 1 then answer s 3 []
  else if other then answer s 4 []
  else match (s.fab.session.orElse (fun _ => s.fab.ended)).filter (fun x => x.gateway == src && x.rseq == rseq) with
    | some x =>
      let opens := s.fab.session.isNone && op != 4
      answer (if opens then (s.onFab (fun b => { b with session := some { x with lostAt := none } })).sessionRoute else s) x.status x.words
    | none =>
      let open_ := fun (s : Dev) (status : Nat) (ws : List Word) => s.onFab (fun b => { b with
        session := some { gateway := src, rseq := rseq, status := status, words := ws, lostAt := b.session.bind (·.lostAt) } })
      if op = 4 then answer (open_ s 0 []).sessionEnd 0 []
      else
        let (status, ws, s) := s.relayCarryOut f op count addr words
        if s.boot.step = some 0 then s else answer (open_ s status ws).sessionRoute status ws

/-- A RELAY_REQ arrives: for another device it goes on along its route. -/
def Dev.relayReqRx (s : Dev) (fu : Fuses) (f : Fin 4) (dst src rseq op count addr : Nat) (words : List Word) : Dev :=
  if !s.up f then s
  else if dst = s.ownId then s.relayRequest fu src rseq op count addr words
  else s.sendTo dst (relayReqPacket dst src
    { bytes := [], slot := 0, target := dst, rseq := rseq, op := op, count := count, addr := addr, words := words, packed := false, sentAt := 0 })

/-- A RELAY_RSP for this device (R390, R412): it is held for the host's repeat; the answer to a session end starts the next one (R415). -/
def Dev.relayResponse (s : Dev) (src rseq status : Nat) (words : List Word) : Dev :=
  match s.hst.relay with
  | some r =>
    if r.resp.isNone && r.target == src && r.rseq == rseq then
      if r.op = 4 then s.nextEnd s.hst.ends else s.onHst (fun h => { h with relay := some { r with resp := some (status, words) } })
    else s
  | none => s

/-- A RELAY_RSP arrives: for another device it goes on along its route. -/
def Dev.relayRspRx (s : Dev) (f : Fin 4) (dst src rseq status count : Nat) (words : List Word) : Dev :=
  if !s.up f then s
  else if dst = s.ownId then s.relayResponse src rseq status words
  else s.sendTo dst (relayRspPacket dst src rseq status count words)

/-- FAB.RELAY_TIMEOUT expires without a response (R392, R415). -/
def Dev.relayTimeout (s : Dev) : Dev :=
  match s.hst.relay with
  | some r =>
    if r.resp.isNone && !r.late then
      let s := s.to (r.sentAt + (s.rd R.FAB_RELAY_TIMEOUT).toNat)
      if r.op = 4 then s.nextEnd s.hst.ends else s.onHst (fun h => { h with relay := some { r with late := true } })
    else s
  | none => s

/-- The gateway of the session has had no route for 1 ms (R394). -/
def Dev.sessionExpiry (s : Dev) : Dev :=
  match s.fab.session.bind (·.lostAt) with
  | some t => (s.to (t + 4000000)).sessionEnd
  | none => s

/-- RELAY_REQUEST_RECEIVED (R391, R392): on a CRC error the packet is discarded. -/
def execRelayRequestReceived (f : Fin 4) (dst src : BitVec 14) (rseq : BitVec 8) (op : Fin 5) (count : Fin 16) (addr : BitVec 32) (words : List Word)
    (ok : Bool) (s : State) : Host.Outcome State Fault Refusal :=
  s.onRun (fun d =>
    if ok then d.relayReqRx s.fuses f dst.toNat src.toNat rseq.toNat op.val count.val addr.toNat words else d.fabBad f)

/-- RELAY_RESPONSE_RECEIVED (R390): on a CRC error the packet is discarded. -/
def execRelayResponseReceived (f : Fin 4) (dst src : BitVec 14) (rseq : BitVec 8) (status : Fin 5) (count : Fin 16) (words : List Word) (ok : Bool)
    (s : State) : Host.Outcome State Fault Refusal :=
  s.onRun (fun d => if ok then d.relayRspRx f dst.toNat src.toNat rseq.toNat status.val count.val words else d.fabBad f)

/-- RELAY_TIMEOUT (R392). -/
def execRelayTimeout (s : State) : Host.Outcome State Fault Refusal := s.onDev (·.relayTimeout)

/-- RELAY_SESSION_EXPIRY (R394). -/
def execRelaySessionExpiry (s : State) : Host.Outcome State Fault Refusal := s.onRun (·.sessionExpiry)

end Sys2Proof.Machine
end

