-- ==== Sys2Proof/Machine/Hst.lean ====
section
/-! DEFINITION. The commands of the host port (R395 to R417): frames, status bytes, kept results, the data port and relayed commands. -/

namespace Sys2Proof

/-! ### Frames -/

/-- The command byte of a frame (R398). -/
def HostFrame.cmd (h : HostFrame) (op : Nat) : Byte := BitVec.ofNat 8 (64 * h.width.toNat + 32 * Machine.b2n h.relay + op)

/-- The bytes that R404 compares: from the command byte through the header and the write data. -/
def HostFrame.bytes (h : HostFrame) (op : Nat) : List Byte :=
  h.cmd op :: ((if h.relay then [h.slot] else []) ++ h.header ++ h.data)

/-- The relay slot, zero for the device itself (R399). -/
def HostFrame.target (h : HostFrame) : Nat := if h.relay then h.slot.toNat % 64 else 0

/-- Is the slot byte one that R399 allows? -/
def HostFrame.slotOk (h : HostFrame) : Bool := !h.relay || decide (h.slot.toNat < 64)

/-- The number of words of a command: the count field carries one less. -/
def HostFrame.words (h : HostFrame) (addrBytes : Nat) : Nat := Machine.beNat (h.header.drop addrBytes) + 1

/-- The address of a header (R398): 3 bytes for the control space, 4 for the data port. -/
def HostFrame.addr (h : HostFrame) (addrBytes : Nat) : Nat := Machine.beNat (h.header.take addrBytes)

end Sys2Proof

namespace Sys2Proof.Machine

/-! ### Status bytes -/

/-- HST.DP_NEXT names a word (R408 to R410). -/
def Dev.dpNext (s : Dev) (space a : Nat) : Dev :=
  s.wr R.HST_DP_NEXT (place 35 35 1 ||| place 31 29 space ||| place 28 0 a)

/-- HCS_N rises: a data-port transfer that was cut names its next word (R410). -/
def Dev.csRise (s : Dev) : Dev :=
  match s.hst.frame with
  | some (space, a) => (s.dpNext space a).onHst (fun h => { h with frame := none })
  | none => s

/-- The status byte of R401, for a CODE and a RESULT. -/
def Dev.statusByte (s : Dev) (code result : Nat) : Byte :=
  BitVec.ofNat 8 (0x40 + 32 * b2n (s.bt R.EVT_HST_ALERT 0) + 4 * code + result)

/-- The device drives bytes in the present frame. -/
def Dev.drive (s : Dev) (l : List Byte) : Dev := s.onHst (fun h => { h with out := h.out ++ l })

/-- Answer DONE with data. -/
def Dev.answerDone (s : Dev) (l : List Byte) : Dev := s.drive (s.statusByte 0 0 :: l)

/-- Answer NOT_READY; `n` read data bytes follow, all ones (R402). -/
def Dev.answerWait (s : Dev) (n : Nat) : Dev :=
  (s.drive (s.statusByte 0 1 :: List.replicate n 0xFF)).bump R.HST_NOT_READY_COUNT

/-- Answer ERROR with a CODE. -/
def Dev.answerError (s : Dev) (code : Nat) (l : List Byte) : Dev := (s.drive (s.statusByte code 2 :: l)).bump R.HST_ERROR_COUNT

/-- Answer DONE for CODE zero, ERROR otherwise. -/
def Dev.answerCode (s : Dev) (code : Nat) (l : List Byte) : Dev := if code = 0 then s.answerDone l else s.answerError code l

/-- An undefined command (R416). -/
def Dev.hostBad (s : Dev) (cmd : Byte) : Dev :=
  ((s.wb R.HST_STATUS 35 true).bump R.HST_ERROR_COUNT).log Ev.HST_BAD_CMD cmd.toNat 0

/-- The whole words of write data in register mode: five bytes each (R409). -/
def registerWords (l : List Byte) : List Word :=
  ((chunks 5 l.length l).filter (fun c => c.length == 5)).map bytesWord

/-- The words of write data in packed mode: the first word of a pair is complete with byte 4, the second with byte 8 (R8, R409). -/
def packedWords (l : List Byte) : List Word :=
  ((chunks 9 l.length l).map (fun c =>
    let n := bytesNat c
    if c.length = 9 then [BitVec.ofNat 36 n, BitVec.ofNat 36 (n / 2 ^ 36)]
    else if 5 ≤ c.length then [BitVec.ofNat 36 n] else [])).flatten

/-- Words as they travel to the host: five bytes each, or pairs packed in nine. -/
def wordsOut (packed : Bool) (ws : List Word) : List Byte := if packed then packWords ws else (ws.map wordBytes).flatten

/-- Start a frame (R395): the frame before it has ended, and the frame counts. -/
def Dev.frameStart (s : Dev) : Dev := (s.csRise.onHst (fun h => { h with out := [] })).bump R.HST_CMD_COUNT

/-- A frame of a defined command with its whole header: an undefined width is refused (R416), a header that is cut has no effect. -/
def Dev.hostFrame (s : Dev) (h : HostFrame) (op hdr : Nat) (f : Dev → Dev) : Dev :=
  if s.hstAlive then
    let s := s.frameStart
    if h.width = 3 then s.hostBad (h.cmd op)
    else if h.header.length = hdr then f s
    else s
  else s

/-! ### Kept local results (R404) -/

/-- Set READ_LOST. -/
def Dev.readLost (s : Dev) : Dev := s.wb R.HST_STATUS 34 true

/-- Carry out a local read: the status code and the data bytes. -/
def Dev.hostRead (s : Dev) (r : HostRead) : Nat × List Byte × Dev :=
  match r with
  | .control a n =>
    let (ws, s) := s.ctlReadRun .host a n
    (0, wordsOut false ws, s)
  | .data space a n packed =>
    let (ws, ue, no, s) := s.dpReadRun space a n
    let (code, s) := s.runStatus ue no
    (code, wordsOut packed ws, s)

/-- The kept read completes; its answer starts with its code (R404). -/
def Dev.completeRead (s : Dev) : Dev :=
  match s.hst.kept with
  | some k =>
    if k.answer.isNone then
      let (code, l, s) := s.hostRead k.read
      s.onHst (fun h => { h with kept := some { k with answer := some (BitVec.ofNat 8 code :: l) } })
    else s
  | none => s

/-- A local command that is not a repeat discards the kept result: the read it belongs to is finished all the same. -/
def Dev.dropKept (s : Dev) : Dev :=
  if s.hst.kept.isSome then (s.completeRead.onHst (fun h => { h with kept := none })).readLost else s

/-- Is the command a repeat of the read whose result is kept? -/
def Dev.keptFor (s : Dev) (bytes : List Byte) : Option Kept := s.hst.kept.filter (fun k => k.bytes == bytes)

/-- Keep a read that answered NOT_READY. -/
def Dev.keep (s : Dev) (bytes : List Byte) (r : HostRead) : Dev :=
  s.onHst (fun h => { h with kept := some { bytes := bytes, read := r, answer := none } })

/-! ### Relayed commands (R411 to R413) -/

/-- A relayed command: its operation, COUNT, address and words; `n` read data bytes of its answer. -/
def Dev.relayAnswer (s : Dev) (h : HostFrame) (code op count addr : Nat) (words : List Word) (packed : Bool) (n : Nat) : Dev :=
  let bytes := h.bytes code
  let request := fun (s : Dev) (t : Nat) =>
    (((s.onHst (fun x => { x with used := if x.used.contains h.target then x.used else h.target :: x.used })).sendRelay
      { bytes := bytes, slot := h.target, target := t, rseq := (s.hst.rseq + 1) % 256, op := op, count := count, addr := addr, words := words,
        packed := packed, sentAt := 0 })).answerWait n
  match s.slotTarget h.target with
  | none => s.answerError 2 []
  | some t =>
    match s.hst.relay with
    | none => request s t
    | some r =>
      if r.op = 4 then s.answerWait n
      else if r.bytes = bytes then
        match r.resp with
        | some (st, ws) => (s.onHst (fun x => { x with relay := none })).answerCode st (if op = 0 ∨ op = 2 then wordsOut r.packed ws else [])
        | none =>
          if r.late then ((s.bump R.HST_RELAY_TIMEOUTS).sendRelay { r with reported := true }).answerError 5 []
          else s.answerWait n
      else if r.resp.isNone && !r.late && !r.reported then s.answerError 7 []
      else request s.readLost t

/-! ### Control space -/

/-- CREAD (R403 to R405). -/
def Dev.hostCread (s : Dev) (h : HostFrame) (ready : Bool) : Dev :=
  s.hostFrame h 0x01 4 (fun s =>
    let n := h.words 3
    let a := h.addr 3
    if !h.slotOk || decide (16 < n) then s.answerError 6 []
    else if h.target ≠ 0 then s.relayAnswer h 0x01 0 (n - 1) a [] false (5 * n)
    else match s.keptFor (h.bytes 0x01) with
      | some k =>
        match k.answer with
        | some (c :: l) => (s.onHst (fun x => { x with kept := none })).answerCode c.toNat l
        | _ => s.answerWait (5 * n)
      | none =>
        let s := s.dropKept
        if ready || decide (n ≤ if h.width = 2 then 4 else 3) then
          let (code, l, s) := s.hostRead (.control a n)
          s.answerCode code l
        else (s.keep (h.bytes 0x01) (.control a n)).answerWait (5 * n))

/-- The oldest `n` control writes in progress are applied, a decision each (R405); a reset that one of them causes ends the rest. -/
def Dev.applyHostWrites (s : Dev) (f : Fuses) : Nat → Dev
  | 0 => s
  | n + 1 =>
    match s.hst.writes with
    | [] => s
    | x :: rest =>
      Dev.applyHostWrites ((s.onHst (fun h => { h with writes := rest })).inDecision (fun d => d.anyWrite f .host x.1 x.2)) f n

/-- The words of a CWRITE with their addresses, which wrap at 24 bits (DEDUCED, log entry 172). -/
def addressed (a : Nat) (ws : List Word) : List (Nat × Word) := ws.zipIdx.map (fun x => ((a + x.2) % 2 ^ 24, x.1))

/-- CWRITE (R405): the words complete when HCS_N rises are taken when none of an earlier CWRITE is in progress; of a frame that was cut no status is sent
(R410). The words that the host clocks are those of bits 3:0 of the count byte. `applied` writes are applied: those in progress before the frame arrives, then its
own. -/
def Dev.hostCwrite (s : Dev) (f : Fuses) (h : HostFrame) (applied : Nat) : Dev :=
  s.hostFrame h 0x02 4 (fun s =>
    let n := h.words 3
    let a := h.addr 3
    let ws := (registerWords h.data).take n
    if !h.slotOk || decide (16 < n) then (if (n - 1) % 16 < ws.length then s.answerError 6 [] else s)
    else if h.target ≠ 0 then (if ws.length = n then s.relayAnswer h 0x02 1 (n - 1) a ws false 0 else s)
    else
      let s := s.dropKept
      let own := applied - s.hst.writes.length
      let s := s.applyHostWrites f applied
      if s.hst.writes.isEmpty then
        let s := (s.onHst (fun h => { h with writes := addressed a ws })).applyHostWrites f own
        if s.hstAlive && ws.length = n then s.answerDone [] else s
      else if ws.length = n then s.answerWait 0 else s)

/-! ### The data port -/

/-- The words of the group that starts at an address: to the end of its aligned block of 32, at most `n` (R408). -/
def groupWords (a n : Nat) : Nat := min (32 - a % 32) n

/-- Deliver the groups of a data-port read from word `a` on (R408): `n` words are left, `ready` groups are ready, and the host clocks `taken` words
(structural in `fuel`). -/
def Dev.readGroups (s : Dev) (space : Nat) (packed : Bool) : Nat → Nat → Nat → Nat → Nat → Dev
  | 0, a, _, _, _ => s.dpNext space a
  | fuel + 1, a, n, ready, taken =>
    if n = 0 then s.dpNext space a
    else if taken = 0 then s.onHst (fun h => { h with frame := some (space, a) })
    else if ready = 0 then (s.answerWait (wordsOut packed (List.replicate (min taken n) 0)).length).dpNext space a
    else
      let m := groupWords a n
      let (code, l, s) := s.hostRead (.data space a m packed)
      if taken < m then
        (s.answerCode code (l.take (wordsOut packed (List.replicate taken 0)).length)).onHst (fun h => { h with frame := some (space, a + taken) })
      else (s.answerCode code l).readGroups space packed fuel (a + m) (n - m) (ready - 1) (taken - m)

/-- DREAD and DREAD_P (R406 to R408). -/
def Dev.hostDread (s : Dev) (h : HostFrame) (packed : Bool) (ready taken : Nat) : Dev :=
  let op := if packed then 0x05 else 0x03
  s.hostFrame h op 6 (fun s =>
    let n := h.words 4
    let space := h.addr 4 / 2 ^ 29
    let a := h.addr 4 % 2 ^ 29
    let m := groupWords a n
    let bytes := (wordsOut packed (List.replicate m 0)).length
    if !h.slotOk || (packed && (a % 2 == 1 || n % 2 == 1)) then s.answerError 6 []
    else if h.target ≠ 0 then
      (if 16 < n then s.answerError 6 []
       else s.relayAnswer h op 2 (n - 1) (h.addr 4) [] packed (wordsOut packed (List.replicate n 0)).length)
    else
      let kept := s.keptFor (h.bytes op)
      let s := if kept.isSome then s else s.dropKept
      if !s.bt R.HST_CTRL 0 then s.answerError 2 []
      else match kept with
        | some k =>
          match k.answer with
          | some (c :: l) =>
            let s := (s.onHst (fun x => { x with kept := none })).answerCode c.toNat l
            if taken < m then s.onHst (fun x => { x with frame := some (space, a + taken) })
            else s.readGroups space packed (n / 32 + 1) (a + m) (n - m) ready (taken - m)
          | _ => (s.answerWait bytes).dpNext space a
        | none =>
          if ready = 0 then ((s.keep (h.bytes op) (.data space a m packed)).answerWait bytes).dpNext space a
          else if taken = 0 then
            let (code, _, s) := s.hostRead (.data space a m packed)
            (s.answerCode code []).onHst (fun x => { x with frame := some (space, a) })
          else s.readGroups space packed (n / 32 + 2) a n ready taken)

/-- The words of a data-port write that the write buffer of 64 words takes (R409), when `drained` words have left it since the write before and until the
first word that is not taken. -/
def Hst.takes (h : Hst) (drained n : Nat) : Nat := min n (64 + drained - h.buffer)

/-- DWRITE and DWRITE_P (R406, R407, R409, R410): the words that complete while the write buffer has room are committed; of a frame that was cut no
status is sent. -/
def Dev.hostDwrite (s : Dev) (h : HostFrame) (packed : Bool) (drained : Nat) : Dev :=
  let op := if packed then 0x06 else 0x04
  s.hostFrame h op 6 (fun s =>
    let n := h.words 4
    let space := h.addr 4 / 2 ^ 29
    let a := h.addr 4 % 2 ^ 29
    let ws := (if packed then packedWords h.data else registerWords h.data).take n
    if !h.slotOk || (packed && (a % 2 == 1 || n % 2 == 1)) then (if ws.length = n then s.answerError 6 [] else s)
    else if h.target ≠ 0 then
      (if ws.length < n then s
       else if 16 < n then s.answerError 6 []
       else s.relayAnswer h op 3 (n - 1) (h.addr 4) ws packed 0)
    else
      let s := s.dropKept
      if !s.bt R.HST_CTRL 0 then (if ws.length = n then s.answerError 2 [] else s)
      else
        let taken := ws.take (s.hst.takes drained ws.length)
        let s := s.onHst (fun x => { x with buffer := x.buffer + taken.length - drained })
        let (no, s) := s.dpWriteAll .host space a taken
        let next := a + taken.length
        if ws.length < n then s.onHst (fun x => { x with frame := some (space, next) })
        else if taken.length < n then (s.answerWait 0).dpNext space next
        else (s.answerCode (if no then 2 else 0) []).dpNext space next)

/-! ### Transactions, locks and port reset -/

/-- Would R290 make the device ignore this action? -/
def Tx.misuses (t : Tx) (action : Nat) : Bool :=
  if action = 0 then false else if action = 1 then t.live else t.st ≠ .opened

/-- TX (R414). -/
def Dev.hostTx (s : Dev) (f : Fuses) (h : HostFrame) : Dev :=
  s.hostFrame h 0x08 1 (fun s =>
    let b := beNat h.header
    if !h.slotOk || fieldN b 5 2 ≠ 0 || h.target ≠ 0 then s.answerError 6 []
    else
      let s := s.dropKept
      let bad := (s.tx .host).misuses (fieldN b 7 6)
      (s.anyWrite f .host R.SEQ_TX_CMD (place 35 34 (fieldN b 7 6) ||| place 1 0 (fieldN b 1 0))).answerCode (if bad then 7 else 0) [])

/-- LOCK (R414). -/
def Dev.hostLock (s : Dev) (f : Fuses) (h : HostFrame) : Dev :=
  s.hostFrame h 0x09 1 (fun s =>
    let b := beNat h.header
    if !h.slotOk || fieldN b 6 5 ≠ 0 || h.target ≠ 0 then s.answerError 6 []
    else
      let s := s.dropKept
      let k : Fin 32 := ⟨b % 32, Nat.mod_lt _ (by decide)⟩
      let release := fieldN b 7 7 == 1
      let bad := release && s.lock k != some .host
      let s := s.anyWrite f .host (R.SEQ_LOCKk k) (if release then place 34 34 1 else place 35 35 1)
      let owner := match s.lock k with
        | some o => o.code
        | none => 0
      s.answerCode (if bad then 7 else 0) [BitVec.ofNat 8 owner])

/-- PORT_RESET (R411, R415). -/
def Dev.hostPortReset (s : Dev) (h : HostFrame) : Dev :=
  s.hostFrame h 0x1F 0 (fun s =>
    if !h.slotOk || h.target ≠ 0 then s.answerError 6 [] else s.hostReset.answerDone [])

/-- Is the command byte one that R416 calls bad? -/
def badCommand (cmd : Byte) : Bool :=
  cmd.toNat / 64 == 3 || !([1, 2, 3, 4, 5, 6, 8, 9, 0x1F].contains (cmd.toNat % 32))

/-! ### From bytes to commands -/

/-- The frame that bytes on the lines spell (R397 to R399): WIDTH and RELAY of the command byte, the slot byte of a command with RELAY set, a header of
`hdr` bytes, and the write data. -/
def hostFrameOf (cmd : Byte) (rest : List Byte) (hdr : Nat) : HostFrame :=
  let relay := cmd.getLsbD 5
  let body := if relay then rest.drop 1 else rest
  { width := BitVec.ofNat 2 (cmd.toNat / 64), relay := relay, slot := if relay then (rest.head?.getD 0) else 0,
    header := body.take hdr, data := body.drop hdr }

/-- The command that the bytes of a frame spell (R398): the command byte picks it. `ready`, `groups`, `taken` and `drained` are what the bytes do not carry:
whether the data are present, the groups ready and the words clocked of a read, the words that leave the write buffer, or the control writes applied. -/
def hostCommand (cmd : Byte) (rest : List Byte) (ready : Bool) (groups taken drained : Nat) : Instr :=
  let h := hostFrameOf cmd rest
  if badCommand cmd then .hostBadCommand cmd
  else match cmd.toNat % 32 with
    | 0x01 => .cread (h 4) ready
    | 0x02 => .cwrite (h 4) drained
    | 0x03 => .dread (h 6) groups taken
    | 0x04 => .dwrite (h 6) drained
    | 0x05 => .dreadP (h 6) groups taken
    | 0x06 => .dwriteP (h 6) drained
    | 0x08 => .txCommand (h 1)
    | 0x09 => .lockCommand (h 1)
    | _ => .portReset (h 0)

/-! ### Rows -/

/-- A frame other than a CWRITE finds the control writes before it applied (DEDUCED, log entry 229). -/
def State.onHost (s : State) (g : Dev → Dev) : Host.Outcome State Fault Refusal := s.onDev (fun d => g (d.applyHostWrites s.fuses 16))

/-- A tick of 250 ps in which no command comes: one control write in progress is applied (DESIGN CHOICE, log entry 229). -/
def Dev.idleTick (s : Dev) (f : Fuses) : Dev := (s.to (s.tick + 1)).applyHostWrites f 1

/-- CREAD (R405): `ready` says whether the data are present at the status byte, where R403 leaves that open. -/
def execCread (h : HostFrame) (ready : Bool) (s : State) : Host.Outcome State Fault Refusal := s.onHost (fun d => d.hostCread h ready)

/-- CWRITE (R405): `applied` control writes are applied by the end of the frame. -/
def execCwrite (h : HostFrame) (applied : Nat) (s : State) : Host.Outcome State Fault Refusal := s.onDev (fun d => d.hostCwrite s.fuses h applied)

/-- DREAD (R408). -/
def execDread (h : HostFrame) (ready taken : Nat) (s : State) : Host.Outcome State Fault Refusal := s.onHost (fun d => d.hostDread h false ready taken)

/-- DWRITE (R409). -/
def execDwrite (h : HostFrame) (drained : Nat) (s : State) : Host.Outcome State Fault Refusal := s.onHost (fun d => d.hostDwrite h false drained)

/-- DREAD_P (R407, R408). -/
def execDreadP (h : HostFrame) (ready taken : Nat) (s : State) : Host.Outcome State Fault Refusal := s.onHost (fun d => d.hostDread h true ready taken)

/-- DWRITE_P (R407, R409). -/
def execDwriteP (h : HostFrame) (drained : Nat) (s : State) : Host.Outcome State Fault Refusal := s.onHost (fun d => d.hostDwrite h true drained)

/-- TX_COMMAND (R414). -/
def execTxCommand (h : HostFrame) (s : State) : Host.Outcome State Fault Refusal := s.onHost (fun d => d.hostTx s.fuses h)

/-- LOCK_COMMAND (R414). -/
def execLockCommand (h : HostFrame) (s : State) : Host.Outcome State Fault Refusal := s.onHost (fun d => d.hostLock s.fuses h)

/-- PORT_RESET (R415). -/
def execPortReset (h : HostFrame) (s : State) : Host.Outcome State Fault Refusal := s.onHost (fun d => d.hostPortReset h)

/-- HST_CTRL_PORT_RESET (R415): the write of HST.CTRL with PORT_RESET one. -/
def execHstCtrlPortReset (p : Owner) (v : Word) (s : State) : Host.Outcome State Fault Refusal := s.write p R.HST_CTRL (v ||| place 35 35 1)

/-- HOST_BAD_COMMAND (R416). -/
def execHostBadCommand (cmd : Byte) (s : State) : Host.Outcome State Fault Refusal :=
  s.onDev (fun d => if d.hstAlive && badCommand cmd then d.frameStart.hostBad cmd else d)

/-- LOCAL_READ_COMPLETE (R404). -/
def execLocalReadComplete (s : State) : Host.Outcome State Fault Refusal := s.onDev (·.completeRead)

/-- HOST_CS_RISE (R410). -/
def execHostCsRise (s : State) : Host.Outcome State Fault Refusal := s.onDev (fun d => if d.hstAlive then d.csRise else d)

end Sys2Proof.Machine
end

