-- ==== Sys2Proof/Machine/Mgt.lean ====
section
/-! DEFINITION. The management bus (R418 to R438): addresses, the page, indirect access, bus errors and alerts. -/

namespace Sys2Proof.Machine

/-- Change the management bus. -/
def Dev.onMgt (s : Dev) (f : Mgt → Mgt) : Dev := { s with mgt := f s.mgt }

/-! ### Addresses -/

/-- Address A0 to A3 of MGT.ADDR in force. -/
def Mgt.prog (m : Mgt) (i : Nat) : Nat := field m.addr (8 * i + 6) (8 * i)

/-- Is A0 to A3 enabled? -/
def Mgt.enabled (m : Mgt) (i : Nat) : Bool := bit m.addr (8 * i + 7)

/-- The address of NATIVE mode (R421). -/
def Mgt.native (m : Mgt) : Nat := if bit m.ctrl 8 then m.prog 0 else 0x40 + m.strap.toNat

/-- Does an address match (R421)? -/
def Mgt.answers (m : Mgt) (a : Nat) : Bool :=
  !mgtReserved a &&
  (match field m.ctrl 1 0 with
   | 0 => a == m.native
   | 1 => [0, 1, 2, 3].any (fun i => m.enabled i && a == m.prog i)
   | _ => (a ^^^ m.prog 0) &&& (127 - m.prog 1) == 0)

/-! ### Indirect access (R429, R430) -/

/-- The access in progress completes. -/
def Dev.indDone (s : Dev) (f : Fuses) : Dev :=
  match s.mgt.ind with
  | none => s
  | some op =>
    let bad := (regAt op.addr).isNone
    if op.write then
      let staged := !bad && (s.tx .mgt).st = .opened && !neverStaged op.addr
      let s := (s.onMgt (fun m => { m with ind := none, done := true, badAddr := bad, staged := staged }))
      s.anyWrite f .mgt op.addr op.word
    else
      let (w, s) := s.readEff .mgt op.addr
      s.onMgt (fun m => { m with ind := none, done := true, badAddr := bad, indData := w })

/-- An access starts; one still in progress has completed by then. -/
def Dev.indStart (s : Dev) (f : Fuses) (op : IndOp) : Dev :=
  (s.indDone f).onMgt (fun m => { m with ind := some op, done := false, badAddr := false, staged := false })

/-- Byte 4 of IND_DATA has been read or written: the advance of AUTO_INC and PREFETCH. -/
def Dev.indAdvance (s : Dev) (f : Fuses) : Dev :=
  if s.mgt.indCtrl.getLsbD 0 then
    let s := s.onMgt (fun m => { m with indAddr := m.indAddr + 1 })
    if s.mgt.indCtrl.getLsbD 1 then s.indStart f ⟨false, s.mgt.indAddr.toNat, 0⟩ else s
  else s

/-- Held IND_DATA bytes are discarded (R430). -/
def Dev.dropHeld (s : Dev) : Dev :=
  if s.mgt.held.isEmpty then s else (s.onMgt (fun m => { m with held := [] })).wb R.MGT_STATUS 33 true

/-- Byte i of the indirect address is written. -/
def setAddrByte (a : BitVec 24) (i : Nat) (b : Byte) : BitVec 24 :=
  BitVec.ofNat 24 (a.toNat - (a.toNat / 256 ^ i % 256) * 256 ^ i + b.toNat * 256 ^ i)

/-- A data byte is written at the pointer (R424, R425). -/
def Dev.pageWrite (s : Dev) (f : Fuses) (b : Byte) : Dev :=
  let s := s.indDone f
  let p := s.mgt.ptr.toNat
  let s : Dev := if p = 0xE8 + s.mgt.held.length then s else s.dropHeld
  if 0xE0 ≤ p ∧ p ≤ 0xE2 then s.onMgt (fun m => { m with indAddr := setAddrByte m.indAddr (p - 0xE0) b })
  else if p = 0xE3 then
    let s := s.onMgt (fun m => { m with indCtrl := b &&& 0x83 })
    if b.getLsbD 7 then s.indStart f ⟨false, s.mgt.indAddr.toNat, 0⟩ else s
  else if p = 0xEC then
    if s.mgt.held.length = 4 then
      let w := bytesWord (s.mgt.held ++ [b])
      let s := (s.onMgt (fun m => { m with held := [], indData := w })).indStart f ⟨true, s.mgt.indAddr.toNat, w⟩
      s.indAdvance f
    else s
  else if 0xE8 ≤ p ∧ p ≤ 0xEB then
    if p = 0xE8 + s.mgt.held.length then s.onMgt (fun m => { m with held := m.held ++ [b] }) else s
  else if p = 0xF0 then s.wr R.MGT_ALERT (s.rd R.MGT_ALERT &&& ~~~ (b.setWidth 36))
  else s

/-- The data bytes of a write transfer after the first: each is written, a decision of its own, and the pointer advances (R424); a reset caused by one ends them. -/
def Dev.pageWrites (s : Dev) (f : Fuses) : List Byte → Dev
  | [] => s
  | b :: bs =>
    let s := s.inDecision (fun d => d.pageWrite f b)
    if s.hstAlive then (s.onMgt (fun m => { m with ptr := m.ptr + 1 })).pageWrites f bs else s

/-! ### Reads of the page (R425 to R428) -/

/-- Take a group's word at its byte 0 (R426, R427). -/
def Dev.groupTake (s : Dev) (base : Nat) (g : GroupSource) : Dev :=
  let (w, s) : Word × Dev := match g with
    | .reg a => s.readEff .mgt a
    | _ => (s.groupNow g, s)
  let put := fun (s : Dev) (x : MgtGroup) => s.onMgt (fun m => { m with groups := x :: m.groups.filter (fun y => y.base != x.base) })
  let s := put s { base := base, word := w, after := s.groupNow g }
  if g = .reg R.TIM_TB_LO then
    let hi := s.latched .mgt R.TIM_TB_HI
    put s { base := 0x2D, word := hi, after := hi }
  else s

/-- The byte at the pointer is loaded for sending: a group's word is taken with its byte 0 (R425 to R428). -/
def Dev.pageLoad (s : Dev) (f : Fuses) : Byte × Dev :=
  let s := s.indDone f
  let p := s.mgt.ptr.toNat
  match s.pageGroup p with
  | some (base, g) =>
    let s : Dev := if p = base then s.groupTake base g else s
    (match s.mgt.groups.find? (fun x => x.base == base) with
      | some x => BitVec.ofNat 8 (x.word.toNat / 256 ^ (p - base))
      | none => 0, s)
  | none =>
    let m := s.mgt
    let b : Byte :=
      if 0xE0 ≤ p ∧ p ≤ 0xE2 then BitVec.ofNat 8 (m.indAddr.toNat / 256 ^ (p - 0xE0))
      else if p = 0xE3 then m.indCtrl
      else if p = 0xE4 then BitVec.ofNat 8 (8 * b2n m.badAddr + 4 * b2n m.staged + 2 * b2n m.done + b2n m.ind.isSome)
      else if p = 0xF0 then BitVec.ofNat 8 (s.fd R.MGT_ALERT 7 0)
      else if p = 0xF1 then BitVec.ofNat 8 (s.fd R.MGT_ALERT 15 8)
      else if p = 0xF4 then BitVec.ofNat 8 m.lastGroup
      else if p = 0xF5 then BitVec.ofNat 8 (b2n m.lastStale)
      else 0
    (b, s)

/-- The byte at the pointer has been sent: byte 4 of a group shows whether the word is stale, and advances an indirect access (R426, R429). -/
def Dev.pageSent (s : Dev) (f : Fuses) : Dev :=
  let s := s.watchGroups
  let p := s.mgt.ptr.toNat
  match s.pageGroup p with
  | some (base, g) =>
    if p = base + 4 then
      let stale := match s.mgt.groups.find? (fun x => x.base == base) with
        | some x => x.stale
        | none => false
      let s := s.onMgt (fun m => { m with
        lastGroup := base, lastStale := stale, groups := m.groups.map (fun x => if x.base = base then { x with fresh := false } else x) })
      if g = .ind then s.indAdvance f else s
    else s
  | none => s

/-- The byte at the pointer is begun: it is loaded at the end of the acknowledge before it (R427). -/
def Dev.beginByte (s : Dev) (f : Fuses) : Dev :=
  let (b, d) := s.hold.pageLoad f
  let s := d.decided s
  s.onMgt (fun m => { m with cur := some b })

/-- The byte begun has been sent whole. -/
def Dev.endByte (s : Dev) (f : Fuses) : Dev :=
  (s.onMgt (fun m => { m with sent := m.sent ++ m.cur.toList, cur := none })).inDecision (fun d => d.pageSent f)

/-- `n` more bytes of a read transfer are sent (R424, R427): the pointer advances after each that the controller acknowledges, which it does but for the last
one before a STOP or a START, and the byte after it is begun unless SCL stands still in the acknowledge. -/
def Dev.pageReads (s : Dev) (f : Fuses) (ending : MgtEnd) : Nat → Dev
  | 0 => s
  | n + 1 =>
    let s := s.endByte f
    if n = 0 ∧ (ending = .stop ∨ ending = .restart) then s
    else
      let s := s.onMgt (fun m => { m with ptr := m.ptr + 1 })
      if n = 0 ∧ ending = .pause .ack then s else (s.beginByte f).pageReads f ending n

/-- A read transfer goes on from the acknowledge before a byte, or from within one. -/
def Dev.readOn (s : Dev) (f : Fuses) (n : Nat) (ending : MgtEnd) : Dev :=
  if n = 0 ∧ ending = .pause .ack then s
  else (if s.mgt.cur.isNone then s.beginByte f else s).pageReads f ending n

/-! ### Transfers -/

/-- A transfer has ended: with a STOP held bytes are dropped, the bus is idle and MGT.CTRL and MGT.ADDR come into force (R422). -/
def Dev.transferEnd (s : Dev) (ending : MgtEnd) : Dev :=
  let ended := fun (s : Dev) => s.onMgt (fun m => { m with phase := .quiet, cur := none, alert := none })
  match ending with
  | .stop => ((ended s).dropHeld.onMgt (fun m => { m with transfer := false })).mgtFollow
  | .restart => ended s
  | .pause _ => s

/-- A START and an address: acknowledged, and the transfer goes on, when it matches and no indirect access is in progress (R421, R423). -/
def Dev.transferStart (s : Dev) (a : Nat) (phase : MgtPhase) (body : Dev → Dev) : Dev :=
  let s := s.dropHeld.onMgt (fun m => { m with
    transfer := true, sent := [], acked := false, lowSince := none, phase := .quiet, cur := none, alert := none })
  if !s.mgt.answers a then s
  else if s.mgt.ind.isSome then s.bump R.MGT_NACK_BUSY
  else body ((s.onMgt (fun m => { m with acked := true, phase := phase })).wf R.MGT_STATUS 22 16 a)

/-- SCL stands still: in an acknowledge of the device, when `acks`, or in a bit of the byte it sends that is zero, the device keeps MSDA low (R434). -/
def Dev.standsLow (s : Dev) (ending : MgtEnd) (acks : Bool) : Dev :=
  let low : Bool := match ending with
    | .pause .ack => acks
    | .pause (.bit k) => s.mgt.cur.any (fun b => !b.getLsbD k.val)
    | _ => false
  if low then s.onMgt (fun m => { m with lowSince := some s.tick }) else s

/-- The bytes of a write transfer: the first one is the page pointer (R424). -/
def Dev.writeOn (s : Dev) (f : Fuses) (bytes : List Byte) : Dev :=
  match s.mgt.phase, bytes with
  | .pointer, b :: bs => (s.onMgt (fun m => { m with ptr := b, phase := .writing })).pageWrites f bs
  | .writing, bs => s.pageWrites f bs
  | _, _ => s

/-- A write transfer, or its rest after SCL stood still (R424). -/
def Dev.mgtWrite (s : Dev) (f : Fuses) (from_ : MgtFrom) (bytes : List Byte) (ending : MgtEnd) : Dev :=
  if s.hstAlive then
    let s : Dev := match from_ with
      | .start a => s.transferStart a.toNat .pointer (fun s => s.writeOn f bytes)
      | .resume => (s.onMgt (fun m => { m with lowSince := none })).writeOn f bytes
    if s.hstAlive then (s.standsLow ending (s.mgt.phase == .pointer || s.mgt.phase == .writing)).transferEnd ending else s
  else s

/-- A read transfer, or its rest after SCL stood still (R424). -/
def Dev.mgtRead (s : Dev) (f : Fuses) (from_ : MgtFrom) (n : Nat) (ending : MgtEnd) : Dev :=
  if s.hstAlive then
    let s : Dev := match from_ with
      | .start a => s.transferStart a.toNat .reading (fun s => s.readOn f n ending)
      | .resume =>
        let s := s.onMgt (fun m => { m with lowSince := none })
        if s.mgt.phase = .reading then s.readOn f n ending else s
    (s.standsLow ending (n == 0 && s.mgt.phase == .reading && from_ != .resume)).transferEnd ending
  else s

/-! ### Bus errors and alerts -/

/-- A bus error (R431, R433): by a START or a STOP, with the device driving MSDA in that byte or not. -/
def Dev.busError (s : Dev) (start driven : Bool) : Dev :=
  let s := (((s.dropHeld.onMgt (fun m => { m with lowSince := none, phase := .quiet, cur := none, alert := none })).wb R.MGT_STATUS 35 true).bump R.MGT_BUS_ERRORS).log Ev.MGT_BUS_ERROR 0 0
  if start then s.onMgt (fun m => { m with transfer := true })
  else
    let s : Dev := if driven then s.ownerReset .mgt else s
    s.transferEnd .stop

/-- MSDA driven low without interruption for 35 ms (R434). A transfer decided before has moved SCL, and no timeout follows (R15). -/
def Dev.stuckTimeout (s : Dev) : Dev :=
  match s.mgt.lowSince with
  | none => s
  | some t =>
    let s := ((s.to (t + 140000000)).dropHeld.onMgt (fun m => { m with lowSince := none })).ownerReset .mgt
    ((s.wb R.MGT_STATUS 34 true).bump R.MGT_STUCK_COUNT).log Ev.MGT_STUCK 0 0 |>.transferEnd .stop

/-- The classes that are pending and enabled, highest rank first (R435, R436); until boot step 1 the device does not drive MALERT_N (R420). -/
def Dev.alerts (s : Dev) : List Nat := (List.range 8).filter (fun c => s.hstAlive && s.bt R.MGT_ALERT c && s.bt R.MGT_ALERT (8 + c))

/-- The address a class supplies (R437); with no address enabled in FORERUNNER_LIST mode the spec gives none. -/
def Dev.alertAddr (s : Dev) (c : Nat) : Nat × Dev :=
  let m := s.mgt
  match field m.ctrl 1 0 with
  | 0 => (m.native, s)
  | 1 =>
    let k := s.fd R.MGT_ALERT_MAP (2 * c + 1) (2 * c)
    if m.enabled k then (m.prog k, s)
    else match [0, 1, 2, 3].find? (fun i => m.enabled i) with
      | some i => (m.prog i, s)
      | none => s.drawNat 128
  | _ => (m.prog 0, s)

/-- The answer of a read transfer to the Alert Response Address goes on (R437, R438), ended by a STOP unless SCL stands still in it. -/
def Dev.alertAnswer (s : Dev) (c answer : Nat) (course : AlertCourse) : Dev :=
  match course with
  | .pause stand =>
    (s.onMgt (fun m => { m with alert := some (c, answer), cur := some (BitVec.ofNat 8 answer) })).standsLow (.pause stand) true
  | .lost i =>
    if answer.testBit i.val then (s.onMgt (fun m => { m with sent := [BitVec.ofNat 8 (answer ||| (2 ^ (i.val + 1) - 1))] })).transferEnd .stop
    else ((s.onMgt (fun m => { m with sent := [BitVec.ofNat 8 answer] })).wb R.MGT_ALERT c false).transferEnd .stop
  | .sent => ((s.onMgt (fun m => { m with sent := [BitVec.ofNat 8 answer] })).wb R.MGT_ALERT c false).transferEnd .stop

/-- A read transfer to the Alert Response Address, or its rest after SCL stood still in the answer (R437, R438): the highest-ranked class that is pending and
enabled answers. -/
def Dev.alertResponse (s : Dev) (course : AlertCourse) : Dev :=
  match s.mgt.alert with
  | some (c, answer) => (s.onMgt (fun m => { m with lowSince := none })).alertAnswer c answer course
  | none =>
    let s := s.dropHeld.onMgt (fun m => { m with
      transfer := true, sent := [], acked := false, lowSince := none, phase := .quiet, cur := none })
    match s.alerts with
    | [] => (match course with
      | .pause _ => s
      | _ => s.transferEnd .stop)
    | c :: more =>
      let (a, s) := s.alertAddr c
      let s := (s.onMgt (fun m => { m with acked := true })).wf R.MGT_STATUS 22 16 0x0C
      s.alertAnswer c (2 * a + b2n (!more.isEmpty)) course

/-! ### Rows -/

/-- MGT_WRITE_TRANSFER (R424): START and the address with write, or the transfer goes on; then data bytes; then a STOP, or a START follows, or SCL stands
still. -/
def execMgtWriteTransfer (addr : MgtFrom) (bytes : List Byte) (ending : MgtEnd) (s : State) : Host.Outcome State Fault Refusal :=
  s.onDev (fun d => d.mgtWrite s.fuses addr bytes ending)

/-- MGT_READ_TRANSFER (R424): START and the address with read, or the transfer goes on; then `n` bytes are sent whole; then a STOP, or a START follows, or SCL
stands still. -/
def execMgtReadTransfer (addr : MgtFrom) (n : Nat) (ending : MgtEnd) (s : State) : Host.Outcome State Fault Refusal :=
  s.onDev (fun d => d.mgtRead s.fuses addr n ending)

/-- IND_ACCESS_DONE (R429). -/
def execIndAccessDone (s : State) : Host.Outcome State Fault Refusal := s.onDev (fun d => d.indDone s.fuses)

/-- BUS_ERROR (R431, R433). -/
def execBusError (start driven : Bool) (s : State) : Host.Outcome State Fault Refusal :=
  s.onDev (fun d => if d.hstAlive then d.busError start driven else d)

/-- STUCK_TIMEOUT (R434). -/
def execStuckTimeout (s : State) : Host.Outcome State Fault Refusal := s.onDev (fun d => if d.hstAlive then d.stuckTimeout else d)

/-- ALERT_RESPONSE (R437, R438). -/
def execAlertResponse (lost : AlertCourse) (s : State) : Host.Outcome State Fault Refusal :=
  s.onDev (fun d => if d.hstAlive then d.alertResponse lost else d)

end Sys2Proof.Machine
end

