-- ==== Sys2Proof/Machine/Dispatch.lean ====
section
/-! DEFINITION. One arm per command of spec/opcode_table.json: a direct call of its meaning. -/

namespace Sys2Proof.Machine

def exec (i : Instr) (s : State) : Host.Outcome State Fault Refusal :=
  match i with
  | .controlSpaceWrite p a v => Sys2Proof.Machine.execControlSpaceWrite p a v s
  | .badAddressAccess p a write => Sys2Proof.Machine.execBadAddressAccess p a write s
  | .claimHandover res => Sys2Proof.Machine.execClaimHandover res s
  | .profileApply p v => Sys2Proof.Machine.execProfileApply p v s
  | .nodeClear p v => Sys2Proof.Machine.execNodeClear p v s
  | .nodeClearComplete => Sys2Proof.Machine.execNodeClearComplete s
  | .entryArm p n v => Sys2Proof.Machine.execEntryArm p n v s
  | .zoneSegmentsLoaded n => Sys2Proof.Machine.execZoneSegmentsLoaded n s
  | .entryDisarm p n v => Sys2Proof.Machine.execEntryDisarm p n v s
  | .softGo p v => Sys2Proof.Machine.execSoftGo p v s
  | .trigEdge rising lat width => Sys2Proof.Machine.execTrigEdge rising lat width s
  | .steepStart n => Sys2Proof.Machine.execSteepStart n s
  | .steepEnd n => Sys2Proof.Machine.execSteepEnd n s
  | .pumpStart p v => Sys2Proof.Machine.execPumpStart p v s
  | .pumpReady => Sys2Proof.Machine.execPumpReady s
  | .pumpStop p v => Sys2Proof.Machine.execPumpStop p v s
  | .pumpLow pump => Sys2Proof.Machine.execPumpLow pump s
  | .strobeActWrite p v => Sys2Proof.Machine.execStrobeActWrite p v s
  | .frameGo p v => Sys2Proof.Machine.execFrameGo p v s
  | .frameStop p v => Sys2Proof.Machine.execFrameStop p v s
  | .frameNodesFree => Sys2Proof.Machine.execFrameNodesFree s
  | .frameArmed => Sys2Proof.Machine.execFrameArmed s
  | .frameFire => Sys2Proof.Machine.execFrameFire s
  | .memberStart n => Sys2Proof.Machine.execMemberStart n s
  | .levelSteepEnd lat width => Sys2Proof.Machine.execLevelSteepEnd lat width s
  | .trainFrameOrigin => Sys2Proof.Machine.execTrainFrameOrigin s
  | .idleClose => Sys2Proof.Machine.execIdleClose s
  | .frmNumberWrite p v stored => Sys2Proof.Machine.execFrmNumberWrite p v stored s
  | .spareEnable p v => Sys2Proof.Machine.execSpareEnable p v s
  | .bankFaultResume p v => Sys2Proof.Machine.execBankFaultResume p v s
  | .cnvForce p v => Sys2Proof.Machine.execCnvForce p v s
  | .cnvRelease p v => Sys2Proof.Machine.execCnvRelease p v s
  | .manPourGo p v => Sys2Proof.Machine.execManPourGo p v s
  | .pourStart => Sys2Proof.Machine.execPourStart s
  | .emptyRecordTake => Sys2Proof.Machine.execEmptyRecordTake s
  | .rowStart => Sys2Proof.Machine.execRowStart s
  | .rowHandover bank x => Sys2Proof.Machine.execRowHandover bank x s
  | .rowWriteDone bank => Sys2Proof.Machine.execRowWriteDone bank s
  | .pourNodeClear => Sys2Proof.Machine.execPourNodeClear s
  | .pourEnd => Sys2Proof.Machine.execPourEnd s
  | .linePeriodBoundary reading => Sys2Proof.Machine.execLinePeriodBoundary reading s
  | .pipFrameStart => Sys2Proof.Machine.execPipFrameStart s
  | .pipFrameEnd => Sys2Proof.Machine.execPipFrameEnd s
  | .dmapSwap p v => Sys2Proof.Machine.execDmapSwap p v s
  | .dmapExtEnable p v => Sys2Proof.Machine.execDmapExtEnable p v s
  | .previewEnable p v => Sys2Proof.Machine.execPreviewEnable p v s
  | .arbiterDecision c posts upsets => Sys2Proof.Machine.execArbiterDecision c posts upsets s
  | .requesterMask n on => Sys2Proof.Machine.execRequesterMask n on s
  | .scrubRead c => Sys2Proof.Machine.execScrubRead c s
  | .scrubWriteback c => Sys2Proof.Machine.execScrubWriteback c s
  | .rowRemapDone c => Sys2Proof.Machine.execRowRemapDone c s
  | .ringApply p v => Sys2Proof.Machine.execRingApply p v s
  | .pourRelease p v => Sys2Proof.Machine.execPourRelease p v s
  | .outRelease p v => Sys2Proof.Machine.execOutRelease p v s
  | .linkPacketBoundary pvLane idle stall => Sys2Proof.Machine.execLinkPacketBoundary pvLane idle stall s
  | .linkPayloadReady pvLane idle stall => Sys2Proof.Machine.execLinkPayloadReady pvLane idle stall s
  | .alignmentMarker pvLane ok => Sys2Proof.Machine.execAlignmentMarker pvLane ok s
  | .tagReady => Sys2Proof.Machine.execTagReady s
  | .previewFrameStart => Sys2Proof.Machine.execPreviewFrameStart s
  | .previewCopyEnable p v => Sys2Proof.Machine.execPreviewCopyEnable p v s
  | .laneSpareEnable p v => Sys2Proof.Machine.execLaneSpareEnable p v s
  | .linkRetrain p v => Sys2Proof.Machine.execLinkRetrain p v s
  | .linkTrainVerdict ok => Sys2Proof.Machine.execLinkTrainVerdict ok s
  | .trainAck p v => Sys2Proof.Machine.execTrainAck p v s
  | .trainAckTimeout => Sys2Proof.Machine.execTrainAckTimeout s
  | .laneForceFail p v => Sys2Proof.Machine.execLaneForceFail p v s
  | .laneReturn p v => Sys2Proof.Machine.execLaneReturn p v s
  | .linkHoldoverExpiry => Sys2Proof.Machine.execLinkHoldoverExpiry s
  | .linkCoastLimit => Sys2Proof.Machine.execLinkCoastLimit s
  | .threadStart p n v => Sys2Proof.Machine.execThreadStart p n v s
  | .threadStop p n v => Sys2Proof.Machine.execThreadStop p n v s
  | .threadReset p n v => Sys2Proof.Machine.execThreadReset p n v s
  | .slotOverrun t extra => Sys2Proof.Machine.execSlotOverrun t extra s
  | .waitTimeout t => Sys2Proof.Machine.execWaitTimeout t s
  | .signalWrite p v => Sys2Proof.Machine.execSignalWrite p v s
  | .doorbell p v => Sys2Proof.Machine.execDoorbell p v s
  | .pinoutWrite p k v => Sys2Proof.Machine.execPinoutWrite p k v s
  | .pinoutPulseEnd k => Sys2Proof.Machine.execPinoutPulseEnd k s
  | .txCmdBegin p v => Sys2Proof.Machine.execTxCmdBegin p v s
  | .txCmdCommit p v => Sys2Proof.Machine.execTxCmdCommit p v s
  | .txCmdAbort p v => Sys2Proof.Machine.execTxCmdAbort p v s
  | .txApply o => Sys2Proof.Machine.execTxApply o s
  | .lockAcquire p k v => Sys2Proof.Machine.execLockAcquire p k v s
  | .lockRelease p k v => Sys2Proof.Machine.execLockRelease p k v s
  | .add t => Sys2Proof.Machine.execAdd t s
  | .adc t => Sys2Proof.Machine.execAdc t s
  | .sub t => Sys2Proof.Machine.execSub t s
  | .sbc t => Sys2Proof.Machine.execSbc t s
  | .and_ t => Sys2Proof.Machine.execAnd t s
  | .or_ t => Sys2Proof.Machine.execOr t s
  | .xor_ t => Sys2Proof.Machine.execXor t s
  | .bic t => Sys2Proof.Machine.execBic t s
  | .shl t => Sys2Proof.Machine.execShl t s
  | .shr t => Sys2Proof.Machine.execShr t s
  | .sar t => Sys2Proof.Machine.execSar t s
  | .mul t => Sys2Proof.Machine.execMul t s
  | .mulhu t => Sys2Proof.Machine.execMulhu t s
  | .cmp t => Sys2Proof.Machine.execCmp t s
  | .addi t => Sys2Proof.Machine.execAddi t s
  | .andi t => Sys2Proof.Machine.execAndi t s
  | .ori t => Sys2Proof.Machine.execOri t s
  | .xori t => Sys2Proof.Machine.execXori t s
  | .shli t => Sys2Proof.Machine.execShli t s
  | .shri t => Sys2Proof.Machine.execShri t s
  | .sari t => Sys2Proof.Machine.execSari t s
  | .liShort t => Sys2Proof.Machine.execLiShort t s
  | .liLong t => Sys2Proof.Machine.execLiLong t s
  | .cmpi t => Sys2Proof.Machine.execCmpi t s
  | .bCc t => Sys2Proof.Machine.execBCc t s
  | .bccRegister t => Sys2Proof.Machine.execBccRegister t s
  | .bccImmediate t => Sys2Proof.Machine.execBccImmediate t s
  | .loop t => Sys2Proof.Machine.execLoop t s
  | .jal t => Sys2Proof.Machine.execJal t s
  | .jr t => Sys2Proof.Machine.execJr t s
  | .ldCAbsolute t => Sys2Proof.Machine.execLdCAbsolute t s
  | .stCAbsolute t => Sys2Proof.Machine.execStCAbsolute t s
  | .ldCIndexed t => Sys2Proof.Machine.execLdCIndexed t s
  | .stCIndexed t => Sys2Proof.Machine.execStCIndexed t s
  | .wait t => Sys2Proof.Machine.execWait t s
  | .waitM t => Sys2Proof.Machine.execWaitM t s
  | .stamp t => Sys2Proof.Machine.execStamp t s
  | .time t => Sys2Proof.Machine.execTime t s
  | .signal t => Sys2Proof.Machine.execSignal t s
  | .arm t => Sys2Proof.Machine.execArm t s
  | .disarm t => Sys2Proof.Machine.execDisarm t s
  | .fire t => Sys2Proof.Machine.execFire t s
  | .pour t => Sys2Proof.Machine.execPour t s
  | .win t => Sys2Proof.Machine.execWin t s
  | .zrect t => Sys2Proof.Machine.execZrect t s
  | .zgain t => Sys2Proof.Machine.execZgain t s
  | .tmr t => Sys2Proof.Machine.execTmr t s
  | .tmrGo t => Sys2Proof.Machine.execTmrGo t s
  | .fabSend t => Sys2Proof.Machine.execFabSend t s
  | .fabSched t => Sys2Proof.Machine.execFabSched t s
  | .txBegin t => Sys2Proof.Machine.execTxBegin t s
  | .txCommit t => Sys2Proof.Machine.execTxCommit t s
  | .txAbort t => Sys2Proof.Machine.execTxAbort t s
  | .lock t => Sys2Proof.Machine.execLock t s
  | .unlock t => Sys2Proof.Machine.execUnlock t s
  | .halt t => Sys2Proof.Machine.execHalt t s
  | .nop t => Sys2Proof.Machine.execNop t s
  | .tbLoad p v => Sys2Proof.Machine.execTbLoad p v s
  | .tbStep => Sys2Proof.Machine.execTbStep s
  | .channelCfgWrite p c v => Sys2Proof.Machine.execChannelCfgWrite p c v s
  | .cmpWrite p c v => Sys2Proof.Machine.execCmpWrite p c v s
  | .cntWrite p c v => Sys2Proof.Machine.execCntWrite p c v s
  | .channelStep c reading => Sys2Proof.Machine.execChannelStep c reading s
  | .strainedEdge c level reading => Sys2Proof.Machine.execStrainedEdge c level reading s
  | .capLoRead p c => Sys2Proof.Machine.execCapLoRead p c s
  | .groupStartWrite p v => Sys2Proof.Machine.execGroupStartWrite p v s
  | .groupStart => Sys2Proof.Machine.execGroupStart s
  | .portSignalDetect f => Sys2Proof.Machine.execPortSignalDetect f s
  | .trainReceived f src tstate ok => Sys2Proof.Machine.execTrainReceived f src tstate ok s
  | .portTrainTimeout f => Sys2Proof.Machine.execPortTrainTimeout f s
  | .portRetrain p f v => Sys2Proof.Machine.execPortRetrain p f v s
  | .heartbeatSend f frac => Sys2Proof.Machine.execHeartbeatSend f frac s
  | .heartbeatReceived f h frac ok => Sys2Proof.Machine.execHeartbeatReceived f h frac ok s
  | .heartbeatTimeout f => Sys2Proof.Machine.execHeartbeatTimeout f s
  | .masterSeqAdvance => Sys2Proof.Machine.execMasterSeqAdvance s
  | .masterLost => Sys2Proof.Machine.execMasterLost s
  | .presenceFlood => Sys2Proof.Machine.execPresenceFlood s
  | .presenceReceived f src seq hops ok => Sys2Proof.Machine.execPresenceReceived f src seq hops ok s
  | .routeExpiry id => Sys2Proof.Machine.execRouteExpiry id s
  | .schedIssue p v => Sys2Proof.Machine.execSchedIssue p v s
  | .schedReceived f issuer seq id T ok => Sys2Proof.Machine.execSchedReceived f issuer seq id T ok s
  | .schedTriggerFire => Sys2Proof.Machine.execSchedTriggerFire s
  | .trigoutWrite p k v => Sys2Proof.Machine.execTrigoutWrite p k v s
  | .trigoutPulseEnd k => Sys2Proof.Machine.execTrigoutPulseEnd k s
  | .messageReceived f dst src words dup ok => Sys2Proof.Machine.execMessageReceived f dst src words dup ok s
  | .rxPop p v => Sys2Proof.Machine.execRxPop p v s
  | .relayRequestReceived f dst src rseq op count addr words ok => Sys2Proof.Machine.execRelayRequestReceived f dst src rseq op count addr words ok s
  | .relayResponseReceived f dst src rseq status count words ok => Sys2Proof.Machine.execRelayResponseReceived f dst src rseq status count words ok s
  | .relayTimeout => Sys2Proof.Machine.execRelayTimeout s
  | .relaySessionExpiry => Sys2Proof.Machine.execRelaySessionExpiry s
  | .cread h ready => Sys2Proof.Machine.execCread h ready s
  | .cwrite h applied => Sys2Proof.Machine.execCwrite h applied s
  | .dread h ready taken => Sys2Proof.Machine.execDread h ready taken s
  | .dwrite h drained => Sys2Proof.Machine.execDwrite h drained s
  | .dreadP h ready taken => Sys2Proof.Machine.execDreadP h ready taken s
  | .dwriteP h drained => Sys2Proof.Machine.execDwriteP h drained s
  | .txCommand h => Sys2Proof.Machine.execTxCommand h s
  | .lockCommand h => Sys2Proof.Machine.execLockCommand h s
  | .portReset h => Sys2Proof.Machine.execPortReset h s
  | .hstCtrlPortReset p v => Sys2Proof.Machine.execHstCtrlPortReset p v s
  | .hostBadCommand cmd => Sys2Proof.Machine.execHostBadCommand cmd s
  | .localReadComplete => Sys2Proof.Machine.execLocalReadComplete s
  | .hostCsRise => Sys2Proof.Machine.execHostCsRise s
  | .mgtWriteTransfer addr bytes ending => Sys2Proof.Machine.execMgtWriteTransfer addr bytes ending s
  | .mgtReadTransfer addr n ending => Sys2Proof.Machine.execMgtReadTransfer addr n ending s
  | .indAccessDone => Sys2Proof.Machine.execIndAccessDone s
  | .busError start driven => Sys2Proof.Machine.execBusError start driven s
  | .stuckTimeout => Sys2Proof.Machine.execStuckTimeout s
  | .alertResponse lost => Sys2Proof.Machine.execAlertResponse lost s
  | .refLost => Sys2Proof.Machine.execRefLost s
  | .pllUnlock link => Sys2Proof.Machine.execPllUnlock link s
  | .refReturn => Sys2Proof.Machine.execRefReturn s
  | .pllRelock link band => Sys2Proof.Machine.execPllRelock link band s
  | .pllLockTimeout link => Sys2Proof.Machine.execPllLockTimeout link s
  | .monCtrlWrite p v => Sys2Proof.Machine.execMonCtrlWrite p v s
  | .monStartWrite p v => Sys2Proof.Machine.execMonStartWrite p v s
  | .monStartTimeout => Sys2Proof.Machine.execMonStartTimeout s
  | .monConversionBegin => Sys2Proof.Machine.execMonConversionBegin s
  | .monEntryResult ma mb => Sys2Proof.Machine.execMonEntryResult ma mb s
  | .monEntryEnd => Sys2Proof.Machine.execMonEntryEnd s
  | .kettleStaleEvaluation => Sys2Proof.Machine.execKettleStaleEvaluation s
  | .kettleGraceExpiry => Sys2Proof.Machine.execKettleGraceExpiry s
  | .kettlePhaseWrite p v => Sys2Proof.Machine.execKettlePhaseWrite p v s
  | .calRun p v => Sys2Proof.Machine.execCalRun p v s
  | .calItemDue item => Sys2Proof.Machine.execCalItemDue item s
  | .calItemStart item => Sys2Proof.Machine.execCalItemStart item s
  | .calItemComplete item m => Sys2Proof.Machine.execCalItemComplete item m s
  | .calItemOverdue item => Sys2Proof.Machine.execCalItemOverdue item s
  | .calSlewTick => Sys2Proof.Machine.execCalSlewTick s
  | .calStore p v => Sys2Proof.Machine.execCalStore p v s
  | .calStoreComplete ok => Sys2Proof.Machine.execCalStoreComplete ok s
  | .fuseProgram p v => Sys2Proof.Machine.execFuseProgram p v s
  | .fuseProgramDone ok => Sys2Proof.Machine.execFuseProgramDone ok s
  | .rekey p v stored => Sys2Proof.Machine.execRekey p v stored s
  | .tagEnWrite p v => Sys2Proof.Machine.execTagEnWrite p v s
  | .attest p v => Sys2Proof.Machine.execAttest p v s
  | .attestAbort p v => Sys2Proof.Machine.execAttestAbort p v s
  | .attestComplete => Sys2Proof.Machine.execAttestComplete s
  | .powerOnReset strap => Sys2Proof.Machine.execPowerOnReset strap s
  | .supplyFault uv ov => Sys2Proof.Machine.execSupplyFault uv ov s
  | .brownOutReset recorded => Sys2Proof.Machine.execBrownOutReset recorded s
  | .nrstReset strap => Sys2Proof.Machine.execNrstReset strap s
  | .softReset p v => Sys2Proof.Machine.execSoftReset p v s
  | .bootStepComplete x => Sys2Proof.Machine.execBootStepComplete x s
  | .fallbackClear p v => Sys2Proof.Machine.execFallbackClear p v s
  | .nvmLoad p v => Sys2Proof.Machine.execNvmLoad p v s
  | .nvmCommit p v => Sys2Proof.Machine.execNvmCommit p v s
  | .nvmCommitDone ok => Sys2Proof.Machine.execNvmCommitDone ok s
  | .logClear p v => Sys2Proof.Machine.execLogClear p v s
  | .logPop p v => Sys2Proof.Machine.execLogPop p v s
  | .undefinedEncodingFetch t => Sys2Proof.Machine.execUndefinedEncodingFetch t s
  | .messageSent f => Sys2Proof.Machine.execMessageSent f s
  | .codeGroupLock f => Sys2Proof.Machine.execCodeGroupLock f s

end Sys2Proof.Machine
end

