-- ==== Sys2Proof/Machine/Step.lean ====
section
/-! DEFINITION. One step of the block: the command at the front of the queue takes effect. -/

namespace Sys2Proof.Machine

/-- The state with one tick passed (notes/assumptions/1.md, 229.md). -/
def State.idle (s : State) : State := { s with dev := s.dev.inDecision (fun d => d.idleTick s.fuses) }

/-- Take the command at the front of the queue and carry it out; with no command waiting one tick of 250 ps passes. -/
def step (s : State) : Host.Outcome State Fault Refusal :=
  match s.pending with
  | [] => .next s.idle
  | c :: rest => exec c { s with pending := rest }

/-- The command that a word of the opcode table spells, put in front of the queue; the table spells none. -/
def State.withFetchWord (s : State) (nbits w : Nat) : State :=
  match decodeTableWord nbits w with
  | some c => { s with pending := c :: s.pending }
  | none => s

/-- The bytes that a host clocks in one frame put the command they spell in front of the queue (R397 to R399): the command byte picks it. -/
def State.withHostFrame (s : State) (cmd : Byte) (rest : List Byte) (ready : Bool) (groups taken drained : Nat) : State :=
  { s with pending := hostCommand cmd rest ready groups taken drained :: s.pending }

end Sys2Proof.Machine
end

