-- ==== Sys2Proof/Safety.lean ====
section
/-! DEFINITION. What counts as a safe step, and the words the statements are written in. -/

namespace Sys2Proof

/-- Is the owner a path: the host port, the management bus or the relay (R22)? -/
def Owner.isPath : Owner → Bool
  | .host => true
  | .mgt => true
  | .relay => true
  | .thread _ => false
  | .boot => false

/-- Is the command a happening of an engine, and no access through a port, no reset, no supply fault and no boot step? -/
def Instr.engine : Instr → Bool
  | .claimHandover _ | .nodeClearComplete | .zoneSegmentsLoaded _ | .trigEdge _ _ _ | .steepStart _ | .steepEnd _ | .pumpReady | .pumpLow _
  | .frameNodesFree | .frameArmed | .frameFire | .memberStart _ | .levelSteepEnd _ _ | .trainFrameOrigin | .idleClose | .pourStart
  | .emptyRecordTake | .rowStart | .rowHandover _ _ | .rowWriteDone _ | .pourNodeClear | .pourEnd | .linePeriodBoundary _ | .pipFrameStart
  | .pipFrameEnd | .arbiterDecision _ _ _ | .requesterMask _ _ | .scrubRead _ | .scrubWriteback _ | .rowRemapDone _
  | .linkPacketBoundary _ _ _ | .linkPayloadReady _ _ _ | .alignmentMarker _ _ | .tagReady | .previewFrameStart | .linkTrainVerdict _
  | .trainAckTimeout | .linkHoldoverExpiry | .linkCoastLimit | .slotOverrun _ _ | .waitTimeout _ | .pinoutPulseEnd _ | .txApply _ | .add _
  | .adc _ | .sub _ | .sbc _ | .and_ _ | .or_ _ | .xor_ _ | .bic _ | .shl _ | .shr _ | .sar _ | .mul _ | .mulhu _ | .cmp _ | .addi _
  | .andi _ | .ori _ | .xori _ | .shli _ | .shri _ | .sari _ | .liShort _ | .liLong _ | .cmpi _ | .bCc _ | .bccRegister _ | .bccImmediate _
  | .loop _ | .jal _ | .jr _ | .ldCAbsolute _ | .stCAbsolute _ | .ldCIndexed _ | .stCIndexed _ | .wait _ | .waitM _ | .stamp _ | .time _
  | .signal _ | .arm _ | .disarm _ | .fire _ | .pour _ | .win _ | .zrect _ | .zgain _ | .tmr _ | .tmrGo _ | .fabSend _ | .fabSched _
  | .txBegin _ | .txCommit _ | .txAbort _ | .lock _ | .unlock _ | .halt _ | .nop _ | .tbStep | .channelStep _ _ | .strainedEdge _ _ _
  | .groupStart | .portSignalDetect _ | .trainReceived _ _ _ _ | .portTrainTimeout _ | .heartbeatSend _ _ | .heartbeatReceived _ _ _ _
  | .heartbeatTimeout _ | .masterSeqAdvance | .masterLost | .presenceFlood | .presenceReceived _ _ _ _ _ | .routeExpiry _
  | .schedReceived _ _ _ _ _ _ | .schedTriggerFire | .trigoutPulseEnd _ | .messageReceived _ _ _ _ _ _
  | .relayRequestReceived _ _ _ _ _ _ _ _ _ | .relayResponseReceived _ _ _ _ _ _ _ _ | .relaySessionExpiry | .monStartTimeout
  | .monConversionBegin | .monEntryResult _ _ | .monEntryEnd | .kettleStaleEvaluation | .kettleGraceExpiry | .calItemDue _
  | .calItemStart _ | .calItemComplete _ _ | .calItemOverdue _ | .calSlewTick | .calStoreComplete _ | .attestComplete
  | .undefinedEncodingFetch _ | .messageSent _ | .codeGroupLock _ => true
  | .controlSpaceWrite _ _ _ | .badAddressAccess _ _ _ | .profileApply _ _ | .nodeClear _ _ | .entryArm _ _ _ | .entryDisarm _ _ _
  | .softGo _ _ | .pumpStart _ _ | .pumpStop _ _ | .strobeActWrite _ _ | .frameGo _ _ | .frameStop _ _ | .frmNumberWrite _ _ _
  | .spareEnable _ _ | .bankFaultResume _ _ | .cnvForce _ _ | .cnvRelease _ _ | .manPourGo _ _ | .dmapSwap _ _ | .dmapExtEnable _ _
  | .previewEnable _ _ | .ringApply _ _ | .pourRelease _ _ | .outRelease _ _ | .previewCopyEnable _ _ | .laneSpareEnable _ _
  | .linkRetrain _ _ | .trainAck _ _ | .laneForceFail _ _ | .laneReturn _ _ | .threadStart _ _ _ | .threadStop _ _ _ | .threadReset _ _ _
  | .signalWrite _ _ | .doorbell _ _ | .pinoutWrite _ _ _ | .txCmdBegin _ _ | .txCmdCommit _ _ | .txCmdAbort _ _ | .lockAcquire _ _ _
  | .lockRelease _ _ _ | .tbLoad _ _ | .channelCfgWrite _ _ _ | .cmpWrite _ _ _ | .cntWrite _ _ _ | .capLoRead _ _ | .groupStartWrite _ _
  | .portRetrain _ _ _ | .schedIssue _ _ | .trigoutWrite _ _ _ | .rxPop _ _ | .relayTimeout | .cread _ _ | .cwrite _ _ | .dread _ _ _
  | .dwrite _ _ | .dreadP _ _ _ | .dwriteP _ _ | .txCommand _ | .lockCommand _ | .portReset _ | .hstCtrlPortReset _ _ | .hostBadCommand _
  | .localReadComplete | .hostCsRise | .mgtWriteTransfer _ _ _ | .mgtReadTransfer _ _ _ | .indAccessDone | .busError _ _ | .stuckTimeout
  | .alertResponse _ | .refLost | .pllUnlock _ | .refReturn | .pllRelock _ _ | .pllLockTimeout _ | .monCtrlWrite _ _ | .monStartWrite _ _
  | .kettlePhaseWrite _ _ | .calRun _ _ | .calStore _ _ | .fuseProgram _ _ | .fuseProgramDone _ | .rekey _ _ _ | .tagEnWrite _ _
  | .attest _ _ | .attestAbort _ _ | .powerOnReset _ | .supplyFault _ _ | .brownOutReset _ | .nrstReset _ | .softReset _ _
  | .bootStepComplete _ | .fallbackClear _ _ | .nvmLoad _ _ | .nvmCommit _ _ | .nvmCommitDone _ | .logClear _ _ | .logPop _ _ => false

end Sys2Proof

namespace Sys2Proof.Machine

/-- A step is safe when it answers a next state: the block has no fault and no refusal of its own. -/
def State.Safe (s : State) : Prop := ∃ t, step s = .next t

/-- A write by path `p` takes effect now: the device answers its ports, as it does from boot step 1 on (R417, R420), and the path's transaction is not
OPEN (R291). -/
abbrev Now (d : Dev) (p : Owner) : Prop := p.isPath = true ∧ (d.tx p).st ≠ .opened ∧ d.boot.step ≠ some 0

/-- What follows the effect of a write of word `a` by `p`: the claims it asked for are resolved (R25), and every other owner that staged
the word aborts (R296). -/
def Dev.written (d : Dev) (p : Owner) (a : Nat) : Dev := d.settle.abortStagers p a

/-- A word that only holds its fields: no rule gives its write another effect, and nothing but a write changes it (instruction and scratch memory,
event masks and entry points of the threads, zone masks, DURATION and DELAY of the entries, the frame shape, windows, knees, zone
gains, event routes). -/
def plainWord (a : Nat) : Bool :=
  (0x14000 ≤ a && a < 0x19000) || (0x10100 ≤ a && a < 0x10200 && (a % 32 == 2 || a % 32 == 3 || a % 32 == 10)) ||
  (0x1C040 ≤ a && a < 0x1C0C0 && 1 ≤ a % 16 && a % 16 ≤ 4) || (0x1C101 ≤ a && a < 0x1C109) || (0xD010 ≤ a && a < 0xD030) ||
  (0xE008 ≤ a && a < 0xE010) || (0xE040 ≤ a && a < 0xE080) || (0x20400 ≤ a && a < 0x204D0)

/-- The block with nothing left to resolve, in the decision of a write: what the write finds. -/
def State.ready (s : State) : Dev := s.dev.hold.settle

/-- The machine with another block. -/
def State.withDev (s : State) (d : Dev) : State := { s with dev := d }

/-- The outcome of a command, one decision, whose effect makes the block `d`: the decision then ends (R523, R272, R426). -/
def State.goes (s : State) (d : Dev) : Host.Outcome State Fault Refusal := .next (s.withDev (d.decided s.dev))

/-- The outcome of a write of word `a` by `p` whose effect makes the block `d`. -/
def State.wrote (s : State) (p : Owner) (a : Nat) (d : Dev) : Host.Outcome State Fault Refusal := s.goes (d.written p a)

/-- No control field of a thread waits for retirement (R272) and no group of the management page is being read (R426): the end of a decision has nothing of
its own to do. -/
def Dev.Quiet (d : Dev) : Prop := (∀ n, (d.th n).ctl = []) ∧ ∀ g ∈ d.mgt.groups, g.fresh = false

/-- The outcome of a decision, events handled in the order of the list `l` (R523). -/
def State.handles (s : State) (l : List LogEntry) (d : Dev) : State :=
  let x := l.foldl Dev.happen { d with evt := { d.evt with held := none } }
  s.withDev { x with evt := { x.evt with held := s.dev.evt.held } }

/-- The outcome of a command that finds nothing to do. -/
def State.stays (s : State) : Host.Outcome State Fault Refusal := s.goes s.dev.hold

/-- The bits of the mask `rw` of a word take their value from `v`, every other bit stays (R13). -/
def Dev.store (d : Dev) (a rw : Nat) (v : Word) : Dev :=
  d.wr a ((d.rd a &&& ~~~ BitVec.ofNat 36 rw) ||| (v &&& BitVec.ofNat 36 rw))

/-- The bits of the mask `rw` of a word take their value from `v`, those of the mask `w1c` that are written as one clear (R13). -/
def Dev.storeClear (d : Dev) (a rw w1c : Nat) (v : Word) : Dev :=
  d.wr a (((d.rd a &&& ~~~ BitVec.ofNat 36 rw) ||| (v &&& BitVec.ofNat 36 rw)) &&& ~~~ (v &&& BitVec.ofNat 36 w1c))

/-- What is programmed in one set of fuses is programmed in the other: a fuse never goes back (R494). -/
abbrev Fuses.le (a b : Fuses) : Prop :=
  (a.secure = true → b.secure = true) ∧ (a.kd.isSome = true → b.kd.isSome = true) ∧ (a.vk0.isSome = true → b.vk0.isSome = true) ∧
  (a.vk1.isSome = true → b.vk1.isSome = true) ∧ (a.rev0 = true → b.rev0 = true) ∧ (a.rev1 = true → b.rev1 = true) ∧ a.svn ≤ b.svn

/-- Thread `n` fetches the first word of the instruction `i` at tick `t`, in a slot it owns (R278, R301); no control field waits for its instruction
before (R272). -/
abbrev Issues (d : Dev) (n : Fin 8) (t : Nat) (i : Tq) : Prop :=
  d.dark = false ∧ i.wf = true ∧ (d.th n).ctl = [] ∧ d.fetch n = some (t, some (tqEncode i))

/-- The instruction and its literal words lie in instruction memory, and another word follows (R303). -/
abbrev Inside (h : Thread) (i : Tq) : Prop := h.pc + 1 + i.literals < 16384

/-- The block at tick `t` with thread `n` past its instruction: its context is `h`, marked as issued at `t` from the PC it had (R301). -/
def Dev.past (d : Dev) (n : Fin 8) (t : Nat) (h : Thread) : Dev :=
  (d.to t).setTh n { h with lastPc := (d.th n).pc, after := some t, lost := none }

/-- The same with the instruction counted (R305). -/
def Dev.issued (d : Dev) (n : Fin 8) (t : Nat) (h : Thread) : Dev := (d.past n t h).bump (R.SEQ_THn_ISSUED n)

/-- An instruction that has had its effect is counted; at the end of instruction memory the thread then faults in place of a fetch (R303, R305). -/
def Dev.counted (d : Dev) (n : Fin 8) (i : Tq) : Dev := (d.bump (R.SEQ_THn_ISSUED n)).runsOff n i

/-- A context with the flags of a result (R308): Z and N from the result, C and V as given. -/
def Thread.flags (h : Thread) (r : Word) (c v : Bool) : Thread := { h with fz := r == 0, fn := r.getLsbD 35, fc := c, fv := v }

/-- Thread `n` faults at the instruction at `pc`: FAULTED with the cause, the fault logged, event 46 posted, and the thread reset as an owner
(R274, R297). -/
def Dev.faulted (d : Dev) (n : Fin 8) (h : Thread) (pc cause : Nat) : Dev :=
  (((d.setTh n { h with st := .faulted, cause := cause, faultPc := pc, lastPc := pc, wait := none }).log Ev.SEQ_FAULT
    (8 + n.val) cause).post 46 d.tb).ownerReset (.thread n)

end Sys2Proof.Machine
end

