-- ==== Sys2Proof/WellFormed.lean ====
section
/-! DEFINITION. The well-formed commands: operands that the spec lets the command have. What a command does on others is said by its meaning all
the same. -/

namespace Sys2Proof

/-- A party that sends writes: every owner but the boot controller, which acts inside BOOT_STEP_COMPLETE (R517). -/
def Owner.named (p : Owner) : Bool := p != .boot

/-- The widths of a row: 14,336 active columns and 48 columns on each side (R551). -/
def RowInput.wf (x : RowInput) : Bool := x.active.length == 14336 && x.left.length == 48 && x.right.length == 48

/-- The calibration item that a measurement belongs to. -/
def CalMeas.item (m : CalMeas) : Fin 6 :=
  match m with
  | .mon .. => 0
  | .bias .. => 1
  | .taps .. => 2
  | .ramp .. => 3
  | .colofs .. => 4
  | .spares .. => 5

/-- A frame of a defined command: a width that R398 defines, a slot byte only with RELAY, no more header bytes than the command has (a frame that is cut has
fewer), and data only behind the whole header. -/
def HostFrame.wf (h : HostFrame) (hdr : Nat) : Bool :=
  h.width != 3 && (h.relay || h.slot == 0) && decide (h.header.length ≤ hdr) && (h.header.length == hdr || h.data.isEmpty)

/-- A command byte that names no command (R416). -/
def undefinedCommand (cmd : Byte) : Bool :=
  cmd.toNat / 64 == 3 || !([1, 2, 3, 4, 5, 6, 8, 9, 31].contains (cmd.toNat % 32))

/-- The well-formed commands. -/
def Instr.wf (i : Instr) : Bool :=
  match i with
  | .controlSpaceWrite p _ _ => p.named
  | .badAddressAccess p _ _ => p.named
  | .claimHandover _ => true
  | .profileApply p _ => p.named
  | .nodeClear p _ => p.named
  | .nodeClearComplete => true
  | .entryArm p _ _ => p.named
  | .zoneSegmentsLoaded _ => true
  | .entryDisarm p _ _ => p.named
  | .softGo p _ => p.named
  | .trigEdge _ _ _ => true
  | .steepStart _ => true
  | .steepEnd _ => true
  | .pumpStart p _ => p.named
  | .pumpReady => true
  | .pumpStop p _ => p.named
  | .pumpLow _ => true
  | .strobeActWrite p _ => p.named
  | .frameGo p _ => p.named
  | .frameStop p _ => p.named
  | .frameNodesFree => true
  | .frameArmed => true
  | .frameFire => true
  | .memberStart _ => true
  | .levelSteepEnd _ _ => true
  | .trainFrameOrigin => true
  | .idleClose => true
  | .frmNumberWrite p _ _ => p.named
  | .spareEnable p _ => p.named
  | .bankFaultResume p _ => p.named
  | .cnvForce p _ => p.named
  | .cnvRelease p _ => p.named
  | .manPourGo p _ => p.named
  | .pourStart => true
  | .emptyRecordTake => true
  | .rowStart => true
  | .rowHandover _ x => x.wf
  | .rowWriteDone _ => true
  | .pourNodeClear => true
  | .pourEnd => true
  | .linePeriodBoundary _ => true
  | .pipFrameStart => true
  | .pipFrameEnd => true
  | .dmapSwap p _ => p.named
  | .dmapExtEnable p _ => p.named
  | .previewEnable p _ => p.named
  | .arbiterDecision _ _ _ => true
  | .requesterMask _ _ => true
  | .scrubRead _ => true
  | .scrubWriteback _ => true
  | .rowRemapDone _ => true
  | .ringApply p _ => p.named
  | .pourRelease p _ => p.named
  | .outRelease p _ => p.named
  | .linkPacketBoundary _ _ _ => true
  | .linkPayloadReady _ _ _ => true
  | .alignmentMarker _ _ => true
  | .tagReady => true
  | .previewFrameStart => true
  | .previewCopyEnable p _ => p.named
  | .laneSpareEnable p _ => p.named
  | .linkRetrain p _ => p.named
  | .linkTrainVerdict _ => true
  | .trainAck p _ => p.named
  | .trainAckTimeout => true
  | .laneForceFail p _ => p.named
  | .laneReturn p _ => p.named
  | .linkHoldoverExpiry => true
  | .linkCoastLimit => true
  | .threadStart p _ _ => p.named
  | .threadStop p _ _ => p.named
  | .threadReset p _ _ => p.named
  | .slotOverrun _ _ => true
  | .waitTimeout _ => true
  | .signalWrite p _ => p.named
  | .doorbell p _ => p.named
  | .pinoutWrite p _ _ => p.named
  | .pinoutPulseEnd _ => true
  | .txCmdBegin p _ => p.named
  | .txCmdCommit p _ => p.named
  | .txCmdAbort p _ => p.named
  | .txApply o => o.named
  | .lockAcquire p _ _ => p.named
  | .lockRelease p _ _ => p.named
  | .add _ => true
  | .adc _ => true
  | .sub _ => true
  | .sbc _ => true
  | .and_ _ => true
  | .or_ _ => true
  | .xor_ _ => true
  | .bic _ => true
  | .shl _ => true
  | .shr _ => true
  | .sar _ => true
  | .mul _ => true
  | .mulhu _ => true
  | .cmp _ => true
  | .addi _ => true
  | .andi _ => true
  | .ori _ => true
  | .xori _ => true
  | .shli _ => true
  | .shri _ => true
  | .sari _ => true
  | .liShort _ => true
  | .liLong _ => true
  | .cmpi _ => true
  | .bCc _ => true
  | .bccRegister _ => true
  | .bccImmediate _ => true
  | .loop _ => true
  | .jal _ => true
  | .jr _ => true
  | .ldCAbsolute _ => true
  | .stCAbsolute _ => true
  | .ldCIndexed _ => true
  | .stCIndexed _ => true
  | .wait _ => true
  | .waitM _ => true
  | .stamp _ => true
  | .time _ => true
  | .signal _ => true
  | .arm _ => true
  | .disarm _ => true
  | .fire _ => true
  | .pour _ => true
  | .win _ => true
  | .zrect _ => true
  | .zgain _ => true
  | .tmr _ => true
  | .tmrGo _ => true
  | .fabSend _ => true
  | .fabSched _ => true
  | .txBegin _ => true
  | .txCommit _ => true
  | .txAbort _ => true
  | .lock _ => true
  | .unlock _ => true
  | .halt _ => true
  | .nop _ => true
  | .tbLoad p _ => p.named
  | .tbStep => true
  | .channelCfgWrite p _ _ => p.named
  | .cmpWrite p _ _ => p.named
  | .cntWrite p _ _ => p.named
  | .channelStep _ _ => true
  | .strainedEdge _ _ _ => true
  | .capLoRead p _ => p.named
  | .groupStartWrite p _ => p.named
  | .groupStart => true
  | .portSignalDetect _ => true
  | .trainReceived _ _ _ _ => true
  | .portTrainTimeout _ => true
  | .portRetrain p _ _ => p.named
  | .heartbeatSend _ _ => true
  | .heartbeatReceived _ _ _ _ => true
  | .heartbeatTimeout _ => true
  | .masterSeqAdvance => true
  | .masterLost => true
  | .presenceFlood => true
  | .presenceReceived _ _ _ _ _ => true
  | .routeExpiry _ => true
  | .schedIssue p _ => p.named
  | .schedReceived _ _ _ _ _ _ => true
  | .schedTriggerFire => true
  | .trigoutWrite p _ _ => p.named
  | .trigoutPulseEnd _ => true
  | .messageReceived _ _ _ words _ _ => decide (1 ≤ words.length ∧ words.length ≤ 16)
  | .rxPop p _ => p.named
  | .relayRequestReceived _ _ _ _ op count _ words _ => words.length == (if op.val = 1 ∨ op.val = 3 then count.val + 1 else 0)
  | .relayResponseReceived _ _ _ _ _ count words _ => words.isEmpty || words.length == count.val + 1
  | .relayTimeout => true
  | .relaySessionExpiry => true
  | .cread h _ => h.wf 4 && h.data.isEmpty
  | .cwrite h _ => h.wf 4
  | .dread h _ _ => h.wf 6 && h.data.isEmpty
  | .dwrite h _ => h.wf 6
  | .dreadP h _ _ => h.wf 6 && h.data.isEmpty
  | .dwriteP h _ => h.wf 6
  | .txCommand h => h.wf 1 && h.data.isEmpty
  | .lockCommand h => h.wf 1 && h.data.isEmpty
  | .portReset h => h.wf 0 && h.data.isEmpty
  | .hstCtrlPortReset p _ => p.named
  | .hostBadCommand cmd => undefinedCommand cmd
  | .localReadComplete => true
  | .hostCsRise => true
  | .mgtWriteTransfer addr _ _ => addr != .start 0x0C
  | .mgtReadTransfer addr _ _ => addr != .start 0x0C
  | .indAccessDone => true
  | .busError _ _ => true
  | .stuckTimeout => true
  | .alertResponse _ => true
  | .refLost => true
  | .pllUnlock _ => true
  | .refReturn => true
  | .pllRelock _ _ => true
  | .pllLockTimeout _ => true
  | .monCtrlWrite p _ => p.named
  | .monStartWrite p _ => p.named
  | .monStartTimeout => true
  | .monConversionBegin => true
  | .monEntryResult _ _ => true
  | .monEntryEnd => true
  | .kettleStaleEvaluation => true
  | .kettleGraceExpiry => true
  | .kettlePhaseWrite p _ => p.named
  | .calRun p _ => p.named
  | .calItemDue _ => true
  | .calItemStart _ => true
  | .calItemComplete item m => m.item == item
  | .calItemOverdue _ => true
  | .calSlewTick => true
  | .calStore p _ => p.named
  | .calStoreComplete _ => true
  | .fuseProgram p _ => p.named
  | .fuseProgramDone _ => true
  | .rekey p _ _ => p.named
  | .tagEnWrite p _ => p.named
  | .attest p _ => p.named
  | .attestAbort p _ => p.named
  | .attestComplete => true
  | .powerOnReset _ => true
  | .supplyFault _ _ => true
  | .brownOutReset _ => true
  | .nrstReset _ => true
  | .softReset p _ => p.named
  | .bootStepComplete _ => true
  | .fallbackClear p _ => p.named
  | .nvmLoad p _ => p.named
  | .nvmCommit p _ => p.named
  | .nvmCommitDone _ => true
  | .logClear p _ => p.named
  | .logPop p _ => p.named
  | .undefinedEncodingFetch _ => true
  | .messageSent _ => true
  | .codeGroupLock _ => true

end Sys2Proof
end

