-- ==== Sys2Proof/Certificates/Slice0/Obligations.lean ====
section
/-! DEFINITION. The statements for the provers: what the commands do, family by family, and what holds of every step. -/

open Sys2Proof Sys2Proof.Machine

/-! ### The machine: its queue, reset, the fuses and the modes in which nothing runs -/

/-- A step takes the command at the front of the queue and is its meaning on the rest. With no command waiting one tick passes, and the timebase counts it while it runs; the oldest control write that
a CWRITE left unapplied is applied, as one decision of the host port, and with none nothing else changes (notes/assumptions/1.md, 229.md). -/
def Obligations.StepRunsFrontCommand : Prop :=
  (∀ (s : State) (c : Instr) (rest : List Instr), s.pending = c :: rest → step s = exec c { s with pending := rest }) ∧
  ∀ s : State, s.pending = [] →
    let d := s.dev.hold
    let ticked := { d with tick := d.tick + 1, tb := if d.tbRun then d.tb + 1 else d.tb }
    (d.hst.writes = [] → step s = s.goes ticked) ∧
    (∀ a v rest, d.hst.writes = (a, v) :: rest →
      step s = s.goes (({ ticked with hst := { ticked.hst with writes := rest } }).inDecision (fun x => x.anyWrite s.fuses .host a v)))

/-- Every command completes, whatever the state, and commands complete in the order in which they wait: a step leaves the queue
without its first command. -/
def Obligations.CommandsCompleteInOrder : Prop :=
  ∀ s : State, ∃ t, step s = .next t ∧ t.pending = s.pending.tail

/-- No step takes back a programmed fuse, and only a completed programming or boot step 1 changes any. -/
def Obligations.FusesNeverGoBack : Prop :=
  ∀ s t : State, step s = .next t → Fuses.le s.fuses t.fuses ∧
    (t.fuses ≠ s.fuses →
      (∃ ok rest, s.pending = .fuseProgramDone ok :: rest) ∨
      (∃ x rest, s.pending = .bootStepComplete x :: rest ∧ s.dev.boot.step = some 1))

/-- In RESET, in MAINTENANCE and in SHUTDOWN no engine runs: none of its happenings occurs, and the machine stays as it is, but for what the end of a decision does to
the control fields of threads that wait for retirement and to the page groups being read. -/
def Obligations.DarkDeviceRunsNoEngine : Prop :=
  ∀ (c : Instr) (s : State), s.dev.dark = true → c.engine = true → exec c s = s.stays ∧ (s.dev.Quiet → exec c s = .next s)

/-- The machine after a power-on reset: boot at step 0 with one start counted, no thread, entry, frame, transaction, lock, claim, held control write or log entry, the timebase
zero and stopped, every register at the reset value of the index (instruction, scratch and frame memory read zero, notes/assumptions/160.md), and no command waiting. -/
def Obligations.ResetState : Prop :=
  State.reset.pending = [] ∧ State.reset.dev.tick = 0 ∧ State.reset.dev.tb = 0 ∧ State.reset.dev.tbRun = false ∧
  State.reset.dev.boot.step = some 0 ∧ State.reset.dev.rd R.PWR_STATE = 0x200000001 ∧
  (∀ a, a ≠ R.PWR_STATE → State.reset.dev.rd a = resetOf a) ∧
  (∀ n, (State.reset.dev.th n).st = .halted ∧ (State.reset.dev.th n).pend = []) ∧
  (∀ n, (State.reset.dev.en n).st = .idle) ∧ State.reset.dev.frm.st = .idle ∧
  (∀ p, (State.reset.dev.tx p).st = .none) ∧ (∀ k, State.reset.dev.lock k = none) ∧
  State.reset.dev.claims = [] ∧ State.reset.dev.latches = [] ∧ State.reset.dev.evt.entries = [] ∧ State.reset.dev.evt.held = none ∧
  State.reset.dev.hst.writes = [] ∧ State.reset.dev.lnk.state = 0 ∧ State.reset.dev.mem.words = [] ∧ State.reset.dev.rdo.queue = []

/-! ### The control space, transactions and locks -/

/-- A word written to the store of registers reads back and every other word stays. A write by a path of a register that only holds its fields (instruction and scratch memory, event masks and entry points of threads,
zone masks, DURATION and DELAY of entries, zone gains, windows, routes) takes effect at once: RW bits take the value and every other bit and register stays. -/
def Obligations.DirectWriteStoresFields : Prop :=
  (∀ (d : Dev) (a b : Nat) (v : Word), (d.wr a v).rd a = v ∧ (b ≠ a → (d.wr a v).rd b = d.rd b)) ∧
  ∀ (s : State) (p : Owner) (a : BitVec 24) (v : Word) (r : RegRow), Now s.dev p → regAt a.toNat = some r → plainWord a.toNat = true →
    exec (.controlSpaceWrite p a v) s =
      (s.goes ((s.ready.wr a.toNat ((s.ready.rd a.toNat &&& ~~~ BitVec.ofNat 36 r.rw) ||| (v &&& BitVec.ofNat 36 r.rw))).written p a.toNat))

/-- A write by a path whose transaction is OPEN is staged: no register changes, a word staged before keeps its place and takes the new value, another goes
to the end; a 257th word aborts the transaction with cause 2 instead. Later writes of the path act as writes outside a transaction, and its COMMIT is one without an OPEN transaction. -/
def Obligations.OpenTransactionStagesWrites : Prop :=
  ∀ (s : State) (p : Owner) (a : BitVec 24) (v : Word), s.dev.boot.step ≠ some 0 →
    let d := s.dev.hold
    let l := if (d.tx p).staged.any (fun x => x.1 == a.toNat)
      then (d.tx p).staged.map (fun x => if x.1 = a.toNat then (a.toNat, v) else x) else (d.tx p).staged ++ [(a.toNat, v)]
    ((d.tx p).st = .opened → neverStaged a.toNat = false → (regAt a.toNat).isSome = true → a.toNat ≠ R.ID_PROFILE_APPLY →
      ((d.tx p).staged.map (·.1)).Nodup →
      (l.length ≤ 256 → exec (.controlSpaceWrite p a v) s = s.goes (d.setTx p { d.tx p with staged := l })) ∧
      (256 < l.length → exec (.controlSpaceWrite p a v) s = s.goes (d.abortTx p 2))) ∧
    (d.abortTx p 2).tx p = { d.tx p with st := .aborted, cause := 2, staged := [] } ∧
    ((d.tx p).st = .aborted → p.isPath = true →
      (∀ r, regAt a.toNat = some r → plainWord a.toNat = true →
        exec (.controlSpaceWrite p a v) s = s.wrote p a.toNat (s.ready.store a.toNat r.rw v)) ∧
      ∃ source detail, exec (.txCmdCommit p v) s = s.wrote p R.SEQ_TX_CMD (s.ready.log Ev.TX_MISUSE source detail))

/-- A read of an address that no register occupies returns zero, a write to it is ignored, and either logs EV_BAD_ADDRESS with the owner code of the path. -/
def Obligations.BadAddresses : Prop :=
  ∀ (s : State) (d : Dev) (p : Owner) (a : BitVec 24) (v : Word) (write : Bool), regAt a.toNat = none →
    ((d.readEff p a.toNat).1 = 0 ∧ ∃ detail, (d.readEff p a.toNat).2 = d.log Ev.BAD_ADDRESS p.code detail) ∧
    (s.dev.boot.step ≠ some 0 → exec (.controlSpaceWrite p a v) s = exec (.badAddressAccess p a true) s ∧
      ∃ detail, exec (.badAddressAccess p a write) s = s.goes (s.dev.hold.log Ev.BAD_ADDRESS p.code detail))

/-- An event counts in EVT.COUNTc; when its route sends it to the log it counts as a repeat of the latest entry with its code and source, is the newest entry when fewer than 64 stand there, and else is dropped with OVERFLOW.
The events of one decision are handled at its end, in ascending code, and those of one code in the order in which they happened; a decision that logs nothing, while no thread's control field waits and no page group is read, ends with nothing of its own.
An access to an address that no register occupies logs EV_BAD_ADDRESS with the path's code, the address and, for a write, bit 24. POP removes the oldest entry, CLEAR all of them with OVERFLOW and the dropped count. -/
def Obligations.EventsAreLogged : Prop :=
  ∀ (s : State) (d : Dev) (p : Owner) (a : BitVec 24) (v : Word) (w : Bool) (code source detail : Nat) (entry l : LogEntry) (old held : List LogEntry),
    let e := s.ready
    let routed := bit (d.rd (R.EVT_ROUTEc entry.code)) 0
    let u := (d.happen entry).evt
    (d.evt.held = some held → d.log code source detail =
      { d with evt := { d.evt with held := some (held ++ [⟨code, source % 2 ^ 16, BitVec.ofNat 36 detail, d.tb, 0⟩]) } }) ∧
    (d.Quiet → d.evt.held = some held → ∃ m : List LogEntry, m.Pairwise (fun x y => x.code ≤ y.code) ∧
      (∀ c, m.filter (fun x => x.code == c) = held.filter (fun x => x.code == c)) ∧ s.goes d = .next (s.handles m d)) ∧
    (d.Quiet → d.evt.held = some [] → s.goes d = .next (s.withDev { d with evt := { d.evt with held := s.dev.evt.held } })) ∧
    (entry.code < 208 →
      (d.happen entry).rd (R.EVT_COUNTc entry.code) = satInc (d.rd (R.EVT_COUNTc entry.code)) ∧
      (routed = false → u = d.evt) ∧
      (routed = true → d.evt.entries = old ++ [l] → l.code = entry.code → l.source = entry.source →
        u = { d.evt with entries := old ++ [{ l with rep := min (l.rep + 1) 4095 }] }) ∧
      (routed = true → d.evt.entries.length < 64 →
        (∀ x, d.evt.entries.getLast? = some x → ¬ (x.code = entry.code ∧ x.source = entry.source)) →
        u = { d.evt with entries := d.evt.entries ++ [entry] }) ∧
      (routed = true → 64 ≤ d.evt.entries.length →
        (∀ x, d.evt.entries.getLast? = some x → ¬ (x.code = entry.code ∧ x.source = entry.source)) →
        u = { d.evt with overflow := true, dropped := min (d.evt.dropped + 1) 4095 })) ∧
    (regAt a.toNat = none → s.dev.boot.step ≠ some 0 →
      exec (.badAddressAccess p a w) s = s.goes (s.dev.hold.log Ev.BAD_ADDRESS p.code (a.toNat + (if w then 2 ^ 24 else 0)))) ∧
    (Now s.dev p → exec (.logPop p v) s = s.wrote p R.EVT_POP { e with evt := { e.evt with entries := e.evt.entries.drop 1 } }) ∧
    (Now s.dev p → exec (.logClear p v) s =
      s.wrote p R.EVT_CTRL { e with evt := { e.evt with entries := [], overflow := false, dropped := 0 } })

/-- Claims asked for at one moment on one resource: the feature of the lower number gets it, and the other is suppressed; a feature of a lower number takes a resource from one that has it, by a handover at a tick of its own, at which a pin is low and before which, also for a sample taken later, the loser still drives it. A GPIO pin that no feature holds is not driven, a STROBE pin driven low.
ID.PROFILE_APPLY.ARRAY stages the five array enables in the path's open transaction, or in one that it commits for the next frame start. -/
def Obligations.ClaimsAndProfile : Prop :=
  ∀ (s : State) (p : Owner) (v : Word) (f i g j r t u : Nat) (h : Handover) (res : BitVec 12),
    let d := s.dev.hold
    let x := d.tx p
    let handed := { (d.to t).keepDrive t with
      handovers := [], pinLow := if isPin h.res then d.pinLow.filter (fun z => z.1 != h.res) ++ [(h.res, t + 1)] else d.pinLow }
    let or_ := fun (a m : Nat) => (a, d.rd a ||| BitVec.ofNat 36 m)
    let staged := [or_ R.CNV_CTRL (2 ^ 12), or_ R.LNK_CTRL (2 ^ 10), or_ R.MEM_CTRL 3, or_ R.FAB_CTRL 4, or_ R.CAL_CTRL 1]
    (d.claims = [] → d.asks = [⟨f, i, [r]⟩, ⟨g, j, [r]⟩] → f < g → (d.resolve).claims = [⟨f, i, [r]⟩] ∧ (g, j) ∈ d.resolve.suppressed ∧
      d.resolve.asks = []) ∧
    (d.claims = [⟨g, j, [r]⟩] → d.handovers = [] → d.asks = [⟨f, i, [r]⟩] → f < g → (d.resolve).claims = [⟨f, i, [r]⟩] ∧
      (⟨r, f, i, g, j, if isPin r || isChannel r then some (d.tick + 1) else none⟩ : Handover) ∈ d.resolve.handovers) ∧
    (d.claims = [⟨f, i, [r]⟩] → d.asks = [⟨g, j, [r]⟩] → f < g → (d.resolve).claims = [⟨f, i, [r]⟩] ∧ (g, j) ∈ d.resolve.suppressed) ∧
    (d.handovers = [] → exec (.claimHandover res) s = s.stays) ∧
    (d.dark = false → d.handovers = [h] → h.res = res.toNat → h.due = some t → exec (.claimHandover res) s = s.goes handed) ∧
    (isPin h.res = true → (∀ x ∈ d.drives, x.1 ≤ t) → handed.pinLevel h.res t = some false) ∧
    (d.handovers = [h] → d.tick ≤ t → u < t → t ≤ u + 16 → handed.pinLevel h.res u = (d.to t).pinLevel h.res u) ∧
    (isPin r = true → d.claims = [] → d.handovers = [] → d.pinLow = [] → d.drives = [] → d.pinLevel r u = if r < 12 then none else some false) ∧
    (d.boot.step ≠ some 0 → x.st = .opened → x.staged = [] → exec (.profileApply p v) s = s.goes (d.setTx p { x with staged := staged })) ∧
    (d.boot.step ≠ some 0 → x.st = .pending → exec (.profileApply p v) s = s.goes (d.log Ev.TX_MISUSE 0 0)) ∧
    (d.boot.step ≠ some 0 → x.st ≠ .opened → x.st ≠ .pending → exec (.profileApply p v) s = s.goes (
      let y := d.setTx p { x with
        st := .pending, cause := 0, staged := staged, boundary := 2, order := d.seq.commits,
        seen := d.frm.frameOpens, commitTime := joinWords x.timeLo x.timeHi }
      { y with seq := { y.seq with commits := y.seq.commits + 1 } }))
/-- Words that are never staged take effect while the path's transaction is OPEN too: BEGIN opens a transaction with nothing staged; COMMIT with a boundary makes it
PENDING, with its place in the order of commits; ABORT of the owner ends it with cause 4. Every other use of the three logs EV_TX_MISUSE. -/
def Obligations.TransactionCommandsOfPaths : Prop :=
  ∀ (s : State) (p : Owner) (v : Word), p.isPath = true → s.dev.boot.step ≠ some 0 →
    let d := s.ready
    let t := d.tx p
    let done := fun (x : Dev) => s.wrote p R.SEQ_TX_CMD x
    let misuse := done (d.log Ev.TX_MISUSE 0 0)
    (t.st ≠ .opened → t.st ≠ .pending →
      exec (.txCmdBegin p v) s = done (d.setTx p { t with st := .opened, cause := 0, staged := [] })) ∧
    (t.st = .opened ∨ t.st = .pending → exec (.txCmdBegin p v) s = misuse) ∧
    (t.st = .opened → exec (.txCmdCommit p v) s =
      done (let d1 := d.setTx p { t with st := .pending, boundary := v.toNat % 4, order := d.seq.commits,
                                         seen := d.boundaryCount (v.toNat % 4), commitTime := joinWords t.timeLo t.timeHi }
            { d1 with seq := { d1.seq with commits := d1.seq.commits + 1 } })) ∧
    (t.st ≠ .opened → exec (.txCmdCommit p v) s = misuse) ∧
    (t.st = .opened → exec (.txCmdAbort p v) s =
      done ((d.setTx p { t with st := .aborted, cause := 4, staged := [] }).log Ev.TX_ABORT p.code 4)) ∧
    (t.st ≠ .opened → exec (.txCmdAbort p v) s = misuse)

/-- A path's immediate commit applies in one step: the transaction becomes APPLIED with nothing staged, every staged word, of those that only hold their
fields, is stored, in the order of staging, and nothing else changes before the claims of the moment are resolved. That APPLIED holds no staged word is the model's choice (notes/assumptions/121.md). -/
def Obligations.ImmediateCommitAppliesAll : Prop :=
  ∀ (s : State) (p : Owner),
    let d := s.dev.hold
    p.isPath = true → d.dark = false → (d.tx p).st = .pending → (d.tx p).boundary = 0 →
    (∀ x ∈ (d.tx p).staged, plainWord x.1 = true ∧ (regAt x.1).isSome = true) →
    (∀ o, o ≠ p → (d.tx o).live = false) →
    (∀ o, (d.tx o).st = .applied → (d.tx o).order ≤ (d.tx p).order) →
    let t := { d.tx p with st := .applied, late := false, staged := [], appliedAt := some d.tick }
    let stored := (d.tx p).staged.foldl (fun (d : Dev) x =>
      match regAt x.1 with
      | some r => d.store x.1 r.rw x.2
      | none => d) (d.setTx p t)
    exec (.txApply p) s = s.goes stored.settle ∧ (stored.settle).tx p = t

/-- START runs a halted thread from its PC, in an owned slot after this tick; STOP halts a running thread, and a waiting one at its wait, and leaves other threads; RESET halts the thread with registers
and flags zero, PC at its entry point and no event pending, and resets it as an owner. While an instruction that overran its slots has not retired, each of the three
waits for it. -/
def Obligations.ThreadControl : Prop :=
  ∀ (s : State) (p : Owner) (n : Fin 8) (v : Word), p.isPath = true → s.dev.boot.step ≠ some 0 →
    let d := s.ready
    let t := d.th n
    let free := t.ctl = [] ∧ ∀ b, t.lost = some b → b ≤ d.tick
    let busy := ∃ b, t.lost = some b ∧ d.tick < b
    let done := fun (x : Dev) => s.wrote p (R.SEQ_THn_CTRL n) x
    (free → t.st = .halted → t.pastEnd = false → exec (.threadStart p n v) s = done (d.setTh n { t with st := .running, after := some d.tick })) ∧
    (free → t.st ≠ .halted → exec (.threadStart p n v) s = done d) ∧
    (free → t.st = .running → exec (.threadStop p n v) s = done (d.setTh n { t with st := .halted })) ∧
    (free → t.st = .waiting → exec (.threadStop p n v) s = done (d.setTh n { t with st := .halted, wait := none })) ∧
    (free → t.st = .halted ∨ t.st = .faulted → exec (.threadStop p n v) s = done d) ∧
    (free → exec (.threadReset p n v) s = done ((d.setTh n { t with
      st := .halted, cause := 0, q := Vector.replicate 16 0, fz := false, fn := false, fc := false, fv := false,
      pc := (d.rd (R.SEQ_THn_ENTRY n)).toNat % 2 ^ 14, pastEnd := false, pend := if t.cut then t.pend else [],
      delivered := 0, wait := none, cut := false }).ownerReset (.thread n))) ∧
    (busy → exec (.threadStart p n v) s = done (d.setTh n { t with ctl := t.ctl ++ [.start] }) ∧
      exec (.threadStop p n v) s = done (d.setTh n { t with ctl := t.ctl ++ [.stop] }) ∧
      exec (.threadReset p n v) s = done (d.setTh n { t with ctl := t.ctl ++ [.reset] }))

/-- An event reaches a thread that its mask enables: it becomes pending with its stamp unless it is pending already, which counts it lost (event 0 is not counted); a
thread that waits for it resumes past the wait with its number, unless a STOP or RESET that waited for retirement has ended the wait. A masked event changes nothing. -/
def Obligations.EventPosting : Prop :=
  ∀ (d : Dev) (n : Fin 8) (e : Nat) (st : Stamp), e < 64 →
    let t := (d.th n).cutPend d.tick
    let on := if e < 36 then (d.rd (R.SEQ_THn_EVMASK_LO n)).getLsbD e else (d.rd (R.SEQ_THn_EVMASK_HI n)).getLsbD (e - 36)
    let u := d.postTo n e st
    (on = false → u = d) ∧
    (on = true → (∃ x ∈ t.pend, x.1 = e) → e ≠ 0 → u = d.bump (R.SEQ_THn_EVLOST n)) ∧
    (on = true → (∃ x ∈ t.pend, x.1 = e) → e = 0 → u = d) ∧
    (on = true → (∀ x ∈ t.pend, x.1 ≠ e) → (t.st ≠ .waiting ∨ t.wait = none ∨ t.leftWait d.tick = true) →
      (u.th n).st = t.st ∧ (u.th n).q = t.q ∧ (u.th n).pc = t.pc ∧ (∀ x, x ∈ (u.th n).pend ↔ x = (e, st) ∨ x ∈ t.pend)) ∧
    (∀ w, on = true → t.st = .waiting → t.wait = some w → t.leftWait d.tick = false → w.set.getLsbD e = true → (∀ x ∈ t.pend, w.set.getLsbD x.1 = false) →
      (u.th n).st = .running ∧ (u.th n).reg w.dst = BitVec.ofNat 36 e ∧ (u.th n).delivered = st ∧ (u.th n).wait = none ∧
        (∀ x, x ∈ (u.th n).pend ↔ x ∈ t.pend) ∧ (t.pc + 1 < 16384 → (u.th n).pc = t.pc + 1)) ∧
    (∀ m, m ≠ n → u.th m = d.th m) ∧ u.seq.txs = d.seq.txs ∧ u.seq.locks = d.seq.locks ∧
    (∀ a, a ≠ R.SEQ_THn_EVLOST n → u.rd a = d.rd a)

/-- A lock that is free goes to the path that writes ACQUIRE, a held lock stays with its holder; RELEASE by the holder frees it and posts event 44 to every thread,
RELEASE by another path logs EV_LOCK_MISUSE. A write of SEQ.SIGNAL posts software events 48 + e for its set bits, lowest first, and shows each on its event outputs; DOORBELL
posts event 40 from the host port and the relay and event 41 from the management bus. A write of SEQ.PINOUTk enables an event output on a GPIO or STROBE pin, asking for its claim, disables it and gives the
claim up with its pulse, or, naming another resource with EN one, is ignored as a whole; the pulse of an output ends at its tick. -/
def Obligations.LocksAndSoftwareEvents : Prop :=
  ∀ (s : State) (p : Owner) (k : Fin 32) (v : Word), p.isPath = true → s.dev.boot.step ≠ some 0 →
    let d := s.ready
    let e := d.threadsDue
    let done := fun (x : Dev) => s.wrote p (R.SEQ_LOCKk k) x
    (e.lock k = none → exec (.lockAcquire p k v) s = done (e.setLock k (some p))) ∧
    (e.lock k ≠ none → exec (.lockAcquire p k v) s = done e) ∧
    (e.lock k = some p → exec (.lockRelease p k v) s = done ((e.setLock k none).post 44 e.tb)) ∧
    (e.lock k ≠ some p → exec (.lockRelease p k v) s = done (e.log Ev.LOCK_MISUSE 0 0)) ∧
    (Now s.dev p → exec (.signalWrite p v) s = s.wrote p R.SEQ_SIGNAL (((List.range 16).filter (fun e => v.getLsbD e)).foldl
      (fun (d : Dev) e => (d.post (48 + e) d.tb).pinoutPulse e) d)) ∧
    (Now s.dev p → exec (.doorbell p v) s = s.wrote p R.SEQ_DOORBELL (d.post (if p = .mgt then 41 else 40) d.tb)) ∧
    ∀ o : Fin 4,
      let pin := v.toNat % 2 ^ 12
      let stored := fun (x : Dev) => x.store (R.SEQ_PINOUTk o) 0xFFFFF1FFF v
      let pinEnds := fun (x : Dev) => s.wrote p (R.SEQ_PINOUTk o) x
      (Now s.dev p → bit v 12 = true → pin < 0x00C ∨ (0x010 ≤ pin ∧ pin < 0x014) →
        exec (.pinoutWrite p o v) s = pinEnds ((stored (if d.granted 6 o then d else d.pinoutQuiet o)).askClaim 6 o.val [pin])) ∧
      (Now s.dev p → bit v 12 = true → ¬(pin < 0x00C ∨ (0x010 ≤ pin ∧ pin < 0x014)) → exec (.pinoutWrite p o v) s = pinEnds d) ∧
      (Now s.dev p → bit v 12 = false → exec (.pinoutWrite p o v) s = pinEnds (((stored d).releaseClaim 6 o.val).pinoutQuiet o)) ∧
      (∀ t, s.dev.dark = false → s.dev.seq.pulseEnd[o] = some t → s.dev.tick ≤ t →
        ∃ y : Dev, exec (.pinoutPulseEnd o) s = s.goes y ∧ y.tick = t ∧ y.seq.pulseEnd[o] = none ∧
          (∀ j : Fin 4, j ≠ o → y.seq.pulseEnd[j] = s.dev.seq.pulseEnd[j]) ∧ y.ctl = s.dev.ctl ∧ y.seq.threads = s.dev.seq.threads ∧
          y.evt = s.dev.hold.evt)

/-- A line-period boundary: the next period is SEQ.LINE_PERIOD held to 400 to 400,000 ticks, a staged slot table becomes the active one, event 0 is posted with the boundary's
stamp. A wait's timeout completes the wait with 64 and delivers no stamp. A slot overrun is logged with the thread's code and the instruction's address and counted, and the thread loses its next slot. -/
def Obligations.LinePeriodAndSlots : Prop :=
  ∀ (s : State) (n : Fin 8) (reading : BitVec 16),
    let d := s.dev.hold
    let h := d.th n
    d.dark = false →
    (∀ t, d.seq.lpNext = some t → d.tick ≤ t → (∀ m, (d.th m).lost = none) →
      let P := min (max ((d.rd R.SEQ_LINE_PERIOD).toNat % 2 ^ 19) 400) 400000
      let swap := fun (d : Dev) => (List.range 4).foldl (fun (d : Dev) j => d.wr (R.SEQ_SLOT_ACTIVEj j) (d.rd (R.SEQ_SLOT_SHADOWj j))) d
      let x := if d.seq.slotPending then swap (d.to t) else d.to t
      exec (.linePeriodBoundary reading) s = s.goes (({ x with seq := { x.seq with
        lpStart := some t, lpP := P, lpNext := some (t + P), lpCount := x.seq.lpCount + 1, slotPending := false } }.post 0
          (d.stampOf t)).internalPulse reading 48 t)) ∧
    (∀ w t, h.st = .waiting → h.wait = some w → w.deadline = some t → d.tick ≤ t → h.leftWait t = false →
      (∀ x ∈ h.pend, w.set.getLsbD x.1 = false) → h.pc + 1 < 16384 →
      exec (.waitTimeout n) s = s.goes ((d.to t).setTh n { h.setReg w.dst 64 with
        pc := h.pc + 1, pastEnd := false, st := .running, wait := none, after := some t })) ∧
    (∀ e extra, d.runEnd n = some e → d.tick ≤ e →
      exec (.slotOverrun n extra) s = s.goes ((((d.to e).setTh n { h with lost := some (e + extra), after := some (e + extra) }).bump
        (R.SEQ_THn_OVERRUNS n)).log Ev.SLOT_OVERRUN (8 + n.val) h.lastPc)) ∧
    (∀ x, d.lostSlot n = some x → d.issueAt n ≠ some x)

/-! ### Taquin instructions -/

/-- Every instruction with fields of a defined encoding decodes from its word to itself: no bit of an operand is dropped. -/
def Obligations.TaquinDecodeOfEncode : Prop :=
  ∀ i : Tq, i.wf = true → tqDecode (tqEncode i) = some i

/-- The words of the spec's own worked examples, and words written out field by field, decode to the instructions they stand for; words of an undefined encoding to none. -/
def Obligations.TaquinExampleWords : Prop :=
  tqDecode 0x512C00015 = some (.wait 4 44 1 5) ∧
  tqDecode 0b000001_0011_0001_0010_000010_000000000000 = some (.alu .sub 3 1 2) ∧
  tqDecode 0b000010_0100_0101_1111111111111111111110 = some (.addi 4 5 0x3FFFFE) ∧
  tqDecode 0b000110_0001_0010_10_00000000000000_100100 = some (.shift .sar 1 2 36) ∧
  tqDecode 0b001010_1011_000000000000_00000001000000 = some (.bCc 11 64) ∧
  tqDecode 0b010000_0111_00_000000000111000000000000 = some (.ldAbs 7 0x7000) ∧
  tqDecode 0b100111_0010_000000000000000000000_01001 = some (.lock 2 9) ∧
  tqDecode 0b101001_000000000000000000000000000000 = some .halt ∧
  tqDecode 0 = none ∧ tqDecode 0b101001_000000000000000000000000000001 = none ∧ tqDecode 0b001010_1111_000000000000_00000001000000 = none

/-- Additions, subtractions and comparisons: the result wraps to 36 bits, Z and N come from it, C is the unsigned carry or borrow, V the signed overflow; ADC and SBC take C
in; a comparison writes flags alone. The thread goes on to the next word, and nothing else changes but the count of issued instructions. -/
def Obligations.TaquinAddSubtractCompare : Prop :=
  ∀ (s : State) (n : Fin 8) (t : Nat) (d a b : BitVec 4) (imm : BitVec 22),
    let dev := s.dev.hold
    let h := dev.th n
    let x := h.rg a
    let y := h.rg b
    let z : Word := imm.signExtend 36
    let k : Nat := if h.fc then 1 else 0
    let ok := fun (i : Tq) => Issues dev n t i ∧ Inside h i
    let out := fun (h' : Thread) => (s.goes (dev.issued n t (h'.advance 1)))
    let sum := fun (x y : Word) (k : Nat) => (h.setReg d.toNat (x + y + BitVec.ofNat 36 k)).flags (x + y + BitVec.ofNat 36 k)
      (decide (2 ^ 36 ≤ x.toNat + y.toNat + k)) (decide ((x + y + BitVec.ofNat 36 k).toInt ≠ x.toInt + y.toInt + k))
    let diff := fun (h : Thread) (x y : Word) (k : Nat) => h.flags (x - y - BitVec.ofNat 36 k)
      (decide (x.toNat < y.toNat + k)) (decide ((x - y - BitVec.ofNat 36 k).toInt ≠ x.toInt - y.toInt - k))
    (ok (.alu .add d a b) → exec (.add n) s = out (sum x y 0)) ∧
    (ok (.alu .adc d a b) → exec (.adc n) s = out (sum x y k)) ∧
    (ok (.addi d a imm) → exec (.addi n) s = out (sum x z 0)) ∧
    (ok (.alu .sub d a b) → exec (.sub n) s = out (diff (h.setReg d.toNat (x - y)) x y 0)) ∧
    (ok (.alu .sbc d a b) → exec (.sbc n) s = out (diff (h.setReg d.toNat (x - y - BitVec.ofNat 36 k)) x y k)) ∧
    (ok (.alu .cmp 0 a b) → exec (.cmp n) s = out (diff h x y 0)) ∧
    (ok (.cmpi a imm) → exec (.cmpi n) s = out (diff h x z 0))

/-- Logic, shifts and products: bit operations clear C and V, with a zero-extended immediate in the immediate forms; a shift by 1 to 36 sets C to the last bit shifted out, by zero clears it, by
more leaves zeros (or signs) and C as the rule gives it; MUL gives the low word and C when the product passes 36 bits, MULHU the high word. -/
def Obligations.TaquinLogicShiftMultiply : Prop :=
  ∀ (s : State) (n : Fin 8) (t : Nat) (d a b : BitVec 4) (imm : BitVec 22) (sh : BitVec 6),
    let dev := s.dev.hold
    let h := dev.th n
    let x := h.rg a
    let y := h.rg b
    let z : Word := imm.setWidth 36
    let ok := fun (i : Tq) => Issues dev n t i ∧ Inside h i
    let out := fun (r : Word) (c : Bool) => (s.goes (dev.issued n t (((h.setReg d.toNat r).flags r c false).advance 1)))
    let shl := fun (m : Nat) => out (x <<< m) (decide (1 ≤ m) && decide (m ≤ 36) && x.getLsbD (36 - m))
    let shr := fun (m : Nat) => out (x >>> m) (decide (1 ≤ m) && x.getLsbD (m - 1))
    let sar := fun (m : Nat) => out (x.sshiftRight m) (decide (1 ≤ m) && x.getLsbD (min (m - 1) 35))
    (ok (.alu .and d a b) → exec (.and_ n) s = out (x &&& y) false) ∧
    (ok (.alu .or d a b) → exec (.or_ n) s = out (x ||| y) false) ∧
    (ok (.alu .xor d a b) → exec (.xor_ n) s = out (x ^^^ y) false) ∧
    (ok (.alu .bic d a b) → exec (.bic n) s = out (x &&& ~~~ y) false) ∧
    (ok (.logic .and d a imm) → exec (.andi n) s = out (x &&& z) false) ∧
    (ok (.logic .or d a imm) → exec (.ori n) s = out (x ||| z) false) ∧
    (ok (.logic .xor d a imm) → exec (.xori n) s = out (x ^^^ z) false) ∧
    (ok (.alu .shl d a b) → exec (.shl n) s = shl (y.toNat % 64)) ∧
    (ok (.alu .shr d a b) → exec (.shr n) s = shr (y.toNat % 64)) ∧
    (ok (.alu .sar d a b) → exec (.sar n) s = sar (y.toNat % 64)) ∧
    (sh.toNat ≤ 36 → ok (.shift .shl d a sh) → exec (.shli n) s = shl sh.toNat) ∧
    (sh.toNat ≤ 36 → ok (.shift .shr d a sh) → exec (.shri n) s = shr sh.toNat) ∧
    (sh.toNat ≤ 36 → ok (.shift .sar d a sh) → exec (.sari n) s = sar sh.toNat) ∧
    (ok (.alu .mul d a b) → exec (.mul n) s = out (x * y) (decide (2 ^ 36 ≤ x.toNat * y.toNat))) ∧
    (ok (.alu .mulhu d a b) → exec (.mulhu n) s = out (BitVec.ofNat 36 (x.toNat * y.toNat / 2 ^ 36)) false)

/-- Loads of constants, stamps, zone rectangles and NOP: LI takes a sign-extended immediate or the literal word that follows; STAMP takes the delivered stamp, low word first; ZRECT the mask of the zones inside its rectangle, with
Z set when there is none; no other register or flag changes. -/
def Obligations.TaquinConstantsAndMasks : Prop :=
  ∀ (s : State) (n : Fin 8) (t : Nat) (d e : BitVec 4) (imm : BitVec 26) (zx0 zy0 zx1 zy1 : BitVec 3),
    let dev := s.dev.hold
    let h := dev.th n
    let ok := fun (i : Tq) => Issues dev n t i ∧ Inside h i
    let out := fun (h' : Thread) => (s.goes (dev.issued n t h'))
    (ok (.liShort d imm) → exec (.liShort n) s = out ((h.setReg d.toNat (imm.signExtend 36)).advance 1)) ∧
    (ok (.liLong d) → exec (.liLong n) s = out ((h.setReg d.toNat (dev.rd (R.SEQ_IMEM (h.pc + 1)))).advance 2)) ∧
    (d ≠ e → ok (.stamp d e) → exec (.stamp n) s =
      out (((h.setReg d.toNat (h.delivered.setWidth 36)).setReg e.toNat ((h.delivered >>> 36).setWidth 36)).advance 1)) ∧
    (d ≠ 15 → ok (.zrect d zx0 zy0 zx1 zy1) → ∃ m : BitVec 64,
      (∀ z, z < 64 → (m.getLsbD z = true ↔ zx0.toNat ≤ z % 8 ∧ z % 8 ≤ zx1.toNat ∧ zy0.toNat ≤ z / 8 ∧ z / 8 ≤ zy1.toNat)) ∧
      exec (.zrect n) s = out ({ (h.setReg d.toNat (m.setWidth 36)).setReg (d.toNat + 1) ((m >>> 36).setWidth 36) with
        fz := m == 0, fn := false, fc := false, fv := false }.advance 1)) ∧
    (ok .nop → exec (.nop n) s = out (h.advance 1))

/-- Branches go to their target when their condition holds (of the flags, or of a comparison of two registers or of a register and a zero-extended immediate, which sets no flag) and on to the next
word otherwise; LOOP counts its register down and goes on at zero; JAL keeps the address of the next word; JR takes the low 14 bits of its register. -/
def Obligations.TaquinBranches : Prop :=
  ∀ (s : State) (n : Fin 8) (t : Nat) (cond a b d : BitVec 4) (imm : BitVec 8) (target : BitVec 14),
    let dev := s.dev.hold
    let h := dev.th n
    let ok := fun (i : Tq) => Issues dev n t i ∧ Inside h i
    let out := fun (h' : Thread) (taken : Bool) (where_ : BitVec 14) => (s.goes (dev.issued n t (if taken then { h' with pc := where_.toNat, pastEnd := false } else h'.advance 1)))
    let holds := fun (z n c v : Bool) => match cond.toNat with
      | 0 => true | 1 => z | 2 => !z | 3 => n != v | 4 => n == v | 5 => c | 6 => !c | 7 => n | 8 => !n | 9 => v | 10 => !v
      | 11 => !z && n == v | 12 => z || n != v | 13 => !c && !z | _ => c || z
    let compared := fun (x y : Word) => holds (x - y == 0) (x - y).msb (decide (x.toNat < y.toNat)) (decide ((x - y).toInt ≠ x.toInt - y.toInt))
    (ok (.bCc cond target) → exec (.bCc n) s = out h (holds h.fz h.fn h.fc h.fv) target) ∧
    (ok (.bccReg cond a b target) → exec (.bccRegister n) s = out h (compared (h.rg a) (h.rg b)) target) ∧
    (ok (.bccImm cond a imm target) → exec (.bccImmediate n) s = out h (compared (h.rg a) (imm.setWidth 36)) target) ∧
    (ok (.loop a target) → exec (.loop n) s = out (h.setReg a.toNat (h.rg a - 1)) (h.rg a - 1 != 0) target) ∧
    (ok (.jal d target) → exec (.jal n) s = out (h.setReg d.toNat (BitVec.ofNat 36 (h.pc + 1))) true target) ∧
    (ok (.jr a) → exec (.jr n) s = out h true ((h.rg a).setWidth 14))

/-- A load takes the word a control-space read by the thread returns, with what the read does; the address of an indexed form is the low 24 bits of the register plus the sign-extended offset. A store that is no misuse of a lock or of the transaction commands is the write of the word by the thread. TIME takes the timebase of its tick.
A control-space read of a register that a read clears answers the count and leaves zero there, and no other register changes. An upper part of a multi-part value reads as the copy that the path's most recent read of the lower part latched: that read latches it, one by another path leaves it, and while there is no copy since reset it is zero; a new result sets the STALE flag of a copy that has not been read since, and of no other. -/
def Obligations.TaquinControlSpaceAccess : Prop :=
  ∀ (s : State) (n : Fin 8) (t : Nat) (d a e : BitVec 4) (addr : BitVec 24) (off : BitVec 22),
    let dev := s.dev.hold
    let h := dev.th n
    let at_ : BitVec 24 := (h.rg a).setWidth 24 + off.signExtend 24
    let gone := dev.past n t (h.advance 1)
    let ok := fun (i : Tq) => Issues dev n t i ∧ Inside h i
    let out := fun (x : Dev) (i : Tq) => (s.goes (x.counted n i))
    let load := fun (A : BitVec 24) => (gone.readEff (.thread n) A.toNat).2.setReg n d ((dev.to t).readEff (.thread n) A.toNat).1
    let store := fun (A : BitVec 24) (v : Word) => gone.threadWrites s.fuses n [(A.toNat, v)]
    let may := fun (A : BitVec 24) (v : Word) => dev.storeFault n A.toNat v = none
    (ok (.ldAbs d addr) → exec (.ldCAbsolute n) s = out (load addr) (.ldAbs d addr)) ∧
    (ok (.ldIdx d a off) → exec (.ldCIndexed n) s = out (load at_) (.ldIdx d a off)) ∧
    (ok (.stAbs d addr) → may addr (h.rg d) → exec (.stCAbsolute n) s = out (store addr (h.rg d)) (.stAbs d addr)) ∧
    (ok (.stIdx d a off) → may at_ (h.rg d) → exec (.stCIndexed n) s = out (store at_ (h.rg d)) (.stIdx d a off)) ∧
    (d ≠ e → ok (.time d e) → exec (.time n) s = (s.goes (dev.issued n t
      (((h.advance 1).setReg d.toNat ((dev.stampOf t).setWidth 36)).setReg e.toNat ((dev.stampOf t >>> 36).setWidth 36))))) ∧
    (∀ (x : Dev) (p : Owner) (A : Nat) (r : RegRow), regAt A = some r → foreign p A = false → r.rc = true → latchedPart A = false →
      (x.readEff p A).1 = x.readReg p A ∧ (x.readEff p A).2.rd A = 0 ∧ ∀ B, B ≠ A → (x.readEff p A).2.rd B = x.rd B) ∧
    (∀ (x : Dev) (p : Owner) (A bit_ : Nat) (w : Word), x.latches = [⟨p, A, w, true⟩] →
      (x.stale A bit_).latched p A = setField w bit_ bit_ 1 ∧ ((x.latchRead p A).stale A bit_).latched p A = w) ∧
    (∀ (x : Dev) (p q : Owner) (A u : Nat) (upper : Word),
      ((regAt u).isSome = true → latchedPart u = true → (x.readEff p u).1 = x.latched p u) ∧
      ((u, upper) ∈ x.upperParts p A → (regAt A).isSome = true → foreign p A = false → x.rdo.pour = none →
        (A % 8 = 5 → A < 0x7100 ∨ 0x7180 ≤ A) → (x.readEff p A).2.latched p u = upper) ∧
      (p ≠ q → (regAt A).isSome = true → x.rdo.pour = none → (A % 8 = 5 → A < 0x7100 ∨ 0x7180 ≤ A) →
        (x.readEff q A).2.latched p u = x.latched p u) ∧
      (x.latches = [] → x.latched p u = 0)) ∧ State.reset.dev.latches = []

/-- The instructions that stand for control-space writes are those writes by the thread, in order, with the values their fields and registers give; inside the thread's OPEN transaction all of them are staged or, past
256 words, none and the transaction aborts with cause 2. -/
def Obligations.TaquinWriteInstructions : Prop :=
  ∀ (s : State) (n : Fin 8) (t : Nat) (z r k p a ch mode : BitVec 4) (e f : BitVec 3) (node src : BitVec 2) (acc disc : BitVec 1) (id mask : BitVec 8)
    (win ms : BitVec 16) (zn : BitVec 6),
    let dev := s.dev.hold
    let h := dev.th n
    let q := fun (r : BitVec 4) => h.reg r.toNat
    let q1 := fun (r : BitVec 4) => h.reg (r.toNat + 1)
    let fields := fun (A : Nat) => if (dev.tx (.thread n)).st = .opened
      then (((dev.tx (.thread n)).staged.find? (fun x => x.1 == A)).map (·.2)).getD (dev.rd A) else dev.rd A
    let writes := fun (i : Tq) (ws : List (Nat × Word)) (o : Host.Outcome State Fault Refusal) => Issues dev n t i → Inside h i →
      o = (s.goes (((dev.past n t (h.advance 1)).threadWrites s.fuses n ws).counted n i))
    writes (.arm e z r node src mode acc disc id)
      ((if z = 15 then [] else [(R.STP_ENn_ZMASK_LO e.toNat, q z), (R.STP_ENn_ZMASK_HI e.toNat, q1 z)]) ++
        [(R.STP_ENn_DURATION e.toNat, q r), (R.STP_ENn_CTRL e.toNat, (1 : BitVec 1) ++ (0 : BitVec 11) ++ id ++ mode ++ acc ++ disc ++ node ++
          (0 : BitVec 3) ++ src ++ (0 : BitVec 3))]) (exec (.arm n) s) ∧
    writes (.disarm e) [(R.STP_ENn_CTRL e.toNat, (fields (R.STP_ENn_CTRL e.toNat) &&& 0xFFFF38) ||| 0x400000000)] (exec (.disarm n) s) ∧
    writes (.fire mask) [(R.STP_SOFT_GO, mask.setWidth 36)] (exec (.fire n) s) ∧
    writes (.pour node win) [(R.RDO_MAN_POUR, (1 : BitVec 1) ++ (0 : BitVec 9) ++ node ++ (0 : BitVec 8) ++ win)] (exec (.pour n) s) ∧
    writes (.pourR node a) [(R.RDO_MAN_POUR, (1 : BitVec 1) ++ (0 : BitVec 9) ++ node ++ (0 : BitVec 8) ++ (q a).setWidth 16)] (exec (.pour n) s) ∧
    writes (.win k p r) [(R.RDO_WINk_POS k.toNat, q p), (R.RDO_WINk_SIZE k.toNat, q r)] (exec (.win n) s) ∧
    writes (.zgain r zn) [(R.PIP_ZGAINz zn.toNat, q r)] (exec (.zgain n) s) ∧
    writes (.tmr ch f a) [(R.TIM_CHc_CFG ch.toNat + f.toNat, q a)] (exec (.tmr n) s) ∧
    writes (.tmrGo ms) [(R.TIM_GSTART, ms.setWidth 36)] (exec (.tmrGo n) s) ∧
    (∀ (d : Dev) (ws : List (Nat × Word)), (d.tx (.thread n)).st ≠ .opened →
      d.threadWrites s.fuses n ws = ws.foldl (fun (d : Dev) x => d.anyWrite s.fuses (.thread n) x.1 x.2) d) ∧
    (∀ (d : Dev) (ws : List (Nat × Word)), (d.tx (.thread n)).st = .opened →
      (∀ x ∈ ws, (regAt x.1).isSome = true ∧ neverStaged x.1 = false ∧ x.1 ≠ R.ID_PROFILE_APPLY) → newWords (d.tx (.thread n)).staged ws ≤ 256 →
      d.threadWrites s.fuses n ws =
        d.setTx (.thread n) { d.tx (.thread n) with staged := ws.foldl (fun l x => stageInto x.1 x.2 l) (d.tx (.thread n)).staged }) ∧
    (∀ (d : Dev) (ws : List (Nat × Word)), (d.tx (.thread n)).st = .opened →
      256 < newWords (d.tx (.thread n)).staged (ws.filter (fun x => (regAt x.1).isSome && !neverStaged x.1 && x.1 != R.ID_PROFILE_APPLY)) →
      d.threadWrites s.fuses n ws = d.abortTx (.thread n) 2)

/-- Waits: on a pending event of the set the instruction completes at once with the lowest such event, its stamp delivered and its bit clear; with a timeout of zero and none pending it completes with 64;
otherwise the thread waits, for ever when the timeout is all ones. SIGNAL posts its software event. -/
def Obligations.TaquinWaitsAndSignal : Prop :=
  ∀ (s : State) (n : Fin 8) (t : Nat) (d a r k : BitVec 4) (base : BitVec 6) (mask : BitVec 16),
    let dev := s.dev.hold
    let h := dev.th n
    let set1 : BitVec 64 := mask.setWidth 64 <<< base.toNat
    let set2 : BitVec 64 := BitVec.ofNat 64 ((h.rg a).toNat + 2 ^ 36 * ((h.reg (a.toNat + 1)).toNat % 2 ^ 28))
    let T := (h.rg r).toNat
    let waits := fun (set : BitVec 64) (o : Host.Outcome State Fault Refusal) =>
      ((∀ x ∈ h.pend, set.getLsbD x.1 = false) → T ≠ 0 → o = (s.goes (dev.issued n t { h with
        st := .waiting, wait := some ⟨set, if T = 2 ^ 36 - 1 then none else some (t + T), d.toNat⟩ }))) ∧
      ((∀ x ∈ h.pend, set.getLsbD x.1 = false) → T = 0 → o = (s.goes (dev.issued n t { (h.setReg d.toNat 64).advance 1 with
        st := .running, wait := none }))) ∧
      (∀ pre e st post, h.pend = pre ++ (e, st) :: post → (∀ x ∈ pre, set.getLsbD x.1 = false) → set.getLsbD e = true →
        o = (s.goes (dev.issued n t { (h.setReg d.toNat (BitVec.ofNat 36 e)).advance 1 with
          st := .running, wait := none, delivered := st, pend := h.pend.filter (fun x => x.1 != e) })))
    ((∀ j, j < 16 → mask.getLsbD j = true → base.toNat + j < 64) →
      Issues dev n t (.wait d base mask r) → Inside h (.wait d base mask r) → waits set1 (exec (.wait n) s)) ∧
    (a ≠ 15 → Issues dev n t (.waitM d a r) → Inside h (.waitM d a r) → waits set2 (exec (.waitM n) s)) ∧
    (Issues dev n t (.signal k) → Inside h (.signal k) →
      exec (.signal n) s = (s.goes (((dev.past n t (h.advance 1)).postSoft k.toNat).counted n (.signal k))))

/-- Transactions and locks of a thread: BEGIN opens one when none is OPEN or PENDING, COMMIT and ABORT act on an OPEN one, a TIME commit also takes T from a pair or from two literal words; LOCK takes a free lock and writes whether it did; UNLOCK frees a held one and posts event 44;
HALT halts a thread that holds no lock and no live transaction. -/
def Obligations.TaquinTransactionsAndLocks : Prop :=
  ∀ (s : State) (n : Fin 8) (t : Nat) (d a : BitVec 4) (k : BitVec 5) (kind : BitVec 2),
    let dev := s.dev.hold
    let p := Owner.thread n
    let h := dev.th n
    let ok := fun (i : Tq) => Issues dev n t i ∧ Inside h i
    let gone := fun (m : Nat) => dev.past n t (h.advance m)
    let out := fun (x : Dev) (i : Tq) => (s.goes (x.counted n i))
    let tx := dev.tx p
    let l : Fin 32 := ⟨k.toNat, k.isLt⟩
    let due := (gone 1).threadsDue
    let commitAt := fun (x : Dev) (T : Stamp) => (x.setTx p { tx with timeLo := T.setWidth 36, timeHi := (T >>> 36).setWidth 36 }).txCommit p 3
    (ok .txBegin → tx.live = false → exec (.txBegin n) s =
      out ((gone 1).setTx p { tx with st := .opened, cause := 0, staged := [] }) .txBegin) ∧
    (ok (.txCommit kind) → tx.st = .opened → exec (.txCommit n) s = out ((gone 1).txCommit p kind.toNat) (.txCommit kind)) ∧
    (ok (.txTime (some a)) → a ≠ 15 → tx.st = .opened → exec (.txCommit n) s =
      out (commitAt (gone 1) (h.reg (a.toNat + 1) ++ h.reg a.toNat)) (.txTime (some a))) ∧
    (ok (.txTime none) → tx.st = .opened → exec (.txCommit n) s =
      out (commitAt (gone 3) (dev.rd (R.SEQ_IMEM (h.pc + 2)) ++ dev.rd (R.SEQ_IMEM (h.pc + 1)))) (.txTime none)) ∧
    (ok .txAbort → tx.st = .opened → exec (.txAbort n) s = out ((gone 1).abortTx p 4) .txAbort) ∧
    (ok (.lock d k) → due.lock l = none → exec (.lock n) s = out ((due.setLock l (some p)).setReg n d 1) (.lock d k)) ∧
    (ok (.lock d k) → due.lock l ≠ none → exec (.lock n) s = out (due.setReg n d 0) (.lock d k)) ∧
    (ok (.unlock k) → dev.lock l = some p → exec (.unlock n) s = out (((gone 1).setLock l none).post 44 (dev.stampOf t)) (.unlock k)) ∧
    (ok .halt → tx.live = false → (∀ j, dev.lock j ≠ some p) →
      exec (.halt n) s = (s.goes (dev.issued n t { h.advance 1 with st := .halted })))

/-- Faults of instructions come before any effect: a word of no defined encoding faults the thread with cause 1, a fetch past instruction memory, at the last instruction, with cause 2, UNLOCK of a lock the thread does not hold with 3, a misuse of the transaction instructions with 4, HALT with a lock or a live transaction
with 5, an operand the instruction does not take with 6. -/
def Obligations.TaquinFaults : Prop :=
  ∀ (s : State) (n : Fin 8) (t : Nat),
    let dev := s.dev.hold
    let p := Owner.thread n
    let h := dev.th n
    let fetchFault := fun (pc cause : Nat) => exec (.undefinedEncodingFetch n) s = (s.goes ((dev.to t).faulted n h pc cause))
    let fault := fun (i : Tq) (cause : Nat) => Issues dev n t i → Inside h i →
      exec (i.row n) s = (s.goes ((dev.to t).faulted n { h with after := some t, lost := none } h.pc cause))
    (∀ w, dev.dark = false → h.ctl = [] → dev.fetch n = some (t, some w) → tqDecode w = none → fetchFault h.pc 1) ∧
    (dev.dark = false → h.ctl = [] → dev.fetch n = some (t, none) → fetchFault h.lastPc 2) ∧
    (∀ k : BitVec 5, dev.lock ⟨k.toNat, k.isLt⟩ ≠ some p → fault (.unlock k) 3) ∧
    ((dev.tx p).live = true → fault .txBegin 4 ∧ fault .halt 5) ∧
    ((dev.tx p).st ≠ .opened → fault .txAbort 4 ∧ ∀ k, fault (.txCommit k) 4) ∧
    (∀ j, dev.lock j = some p → fault .halt 5) ∧
    (∀ (f : Shift) (d a : BitVec 4) (sh : BitVec 6), 36 < sh.toNat → fault (.shift f d a sh) 6) ∧
    (∀ d : BitVec 4, fault (.stamp d d) 6 ∧ fault (.time d d) 6) ∧
    (∀ zx0 zy0 zx1 zy1 : BitVec 3, fault (.zrect 15 zx0 zy0 zx1 zy1) 6) ∧
    (∀ d r : BitVec 4, fault (.waitM d 15 r) 6) ∧
    (∀ (d e a : BitVec 4) (m : BitVec 2), 15 < a.toNat + m.toNat → fault (.fabSend d e a m) 6)

/-! ### Steeps -/

/-- GO of STP.CLEAR_HI begins a clear of the node in the zones of the mask that neither steep into it nor are being poured from it, logging EV_NODE_BUSY for the others; while a clear of the register runs it is
ignored. At its completion the hold bits of the zones clear, and no other hold bit changes; the segments of these zones hold no charge any more, whatever began in them since (the model's choice,
notes/assumptions/214.md), and every other segment keeps its content. -/
def Obligations.NodeClears : Prop :=
  ∀ (s : State) (p : Owner) (v : Word),
    let x := s.dev.hold
    let d := s.ready.store R.STP_CLEAR_HI 0xCFFFFFFF v
    let node := v.toNat / 2 ^ 30 % 4
    let mask := zJoin (d.rd R.STP_CLEAR_LO) (d.rd R.STP_CLEAR_HI)
    let skip := mask &&& (d.steepingInto node ||| d.poured node)
    let begun := { d with stp := { d.stp with clears := d.stp.clears ++ [⟨node, mask &&& ~~~ skip, true⟩] } }
    (Now s.dev p → d.stp.clears.any (·.byReg) = true → exec (.nodeClear p v) s = s.wrote p R.STP_CLEAR_HI d) ∧
    (Now s.dev p → d.stp.clears.any (·.byReg) = false → skip = 0 → exec (.nodeClear p v) s = s.wrote p R.STP_CLEAR_HI begun) ∧
    (Now s.dev p → d.stp.clears.any (·.byReg) = false → skip ≠ 0 → exec (.nodeClear p v) s =
      s.wrote p R.STP_CLEAR_HI (begun.log Ev.NODE_BUSY (8 + node) (reducedMask skip + node * 2 ^ 23))) ∧
    (∀ c rest, x.dark = false → x.stp.clears = c :: rest → c.node < 4 →
      ∃ y : Dev, exec .nodeClearComplete s = s.goes y ∧ y.stp.clears = rest ∧
        (∀ k z, k < 4 → ((y.holdOf k).getLsbD z = true ↔ (x.holdOf k).getLsbD z = true ∧ ¬ (k = c.node ∧ c.mask.getLsbD z = true))) ∧
        (∀ key, y.contentAt key = if (x.segments c.node c.mask).contains key then [] else x.contentAt key) ∧
        y.stp.entries = x.stp.entries ∧ y.ctl = x.ctl ∧ y.evt = x.evt)

/-- ARM of an entry that is idle, done or refused takes its programming from its registers and, when the programming is valid and no zone is taken by another entry, held or poured, enters ARMING, a timer source asking for the channel; invalid
programming enters REFUSED with reason 1, a zone shared with another entry in ARMING or ARMED with reason 2, a zone held or poured with reason 3, each with its log entry. DISARM takes an ARMING or ARMED entry back to IDLE and gives its channel up, also while a taken fire waits out its DELAY, but not against a fire of the
same tick; in every other state it does nothing. ARM of an entry in ARMING, ARMED or STEEPING is ignored as a whole, and so is ARM written with DISARM; ARM or DISARM of a member of a running frame is ignored and logged.
The last zone segment makes an ARMING entry ARMED. -/
def Obligations.EntryArmAndDisarm : Prop :=
  ∀ (s : State) (p : Owner) (n : Fin 8) (v : Word),
    let a := R.STP_ENn_CTRL n
    let d := s.ready.store a 0xFFFF38 v
    let c := d.rd a
    let e : Entry := { d.en n with
      mask := zJoin (d.rd (R.STP_ENn_ZMASK_LO n)) (d.rd (R.STP_ENn_ZMASK_HI n)), node := field c 9 8,
      dur := (d.rd (R.STP_ENn_DURATION n)).toNat, delay := (d.rd (R.STP_ENn_DELAY n)).toNat, source := field c 5 3,
      srcId := field c 23 16, acc := bit c 11, disc := bit c 10, pol := bit (d.rd R.STP_TRIG) 0, member := false, start := none, reason := 0 }
    let invalid := 3 < e.source ∨ e.dur < 39 ∨ e.mask = 0 ∨ 7 < field c 15 12 ∨ (e.acc = true ∧ e.disc = true)
    let busy := (if e.acc = true ∨ e.disc = true then d.poured e.node else d.poured e.node ||| d.holdOf e.node) &&& e.mask
    let d1 := { d with stp := { d.stp with refZone := field (d.rd R.STP_CTRL) 13 8 } }
    let free := ∀ o, o ≠ n → (d.en o).st = .arming ∨ (d.en o).st = .armed → (d.en o).mask &&& e.mask = 0
    let waits := (d.en n).st = .arming ∨ (d.en n).st = .armed
    let idle := ¬ waits ∧ (d.en n).st ≠ .steeping
    let own := d.frm.running = true → ∀ m ∈ d.frm.members, m.entry ≠ n.val
    let member := d.frm.running = true ∧ ∃ m ∈ d.frm.members, m.entry = n.val
    let x := s.dev.hold
    let meets := (d.en n).start ≠ none ∧ (d.en n).firedAt = d.tick
    let refused := fun (reason : Nat) =>
      let y := d1.setEn n { e with st := .refused, reason := reason }
      if e.source = 2 then y.dropTimer (e.srcId % 16) else y
    (Now s.dev p → bit v 34 = false → own → idle → ¬ invalid → free → busy = 0 → e.source ≠ 2 →
      exec (.entryArm p n v) s = s.wrote p a (d1.setEn n { e with st := .arming })) ∧
    (Now s.dev p → bit v 34 = false → own → idle → ¬ invalid → free → busy = 0 → e.source = 2 →
      exec (.entryArm p n v) s = s.wrote p a ((d1.setEn n { e with st := .arming }).askClaim 3 (e.srcId % 16) [0x020 + e.srcId % 16])) ∧
    (Now s.dev p → bit v 34 = false → own → idle → invalid →
      exec (.entryArm p n v) s = s.wrote p a ((refused 1).log Ev.ARM_INVALID n.val 1)) ∧
    (Now s.dev p → bit v 34 = false → own → idle → ¬ invalid → ¬ free → ∃ o : Fin 8, o ≠ n ∧ (d.en o).mask &&& e.mask ≠ 0 ∧
      exec (.entryArm p n v) s = s.wrote p a ((refused 2).log Ev.ARM_OVERLAP n.val (2 + 16 * o.val))) ∧
    (Now s.dev p → bit v 34 = false → own → idle → ¬ invalid → free → busy ≠ 0 →
      exec (.entryArm p n v) s = s.wrote p a ((refused 3).log Ev.NODE_BUSY n.val (reducedMask busy + e.node * 2 ^ 23))) ∧
    (Now s.dev p → bit v 35 = false → own → waits → ¬ meets →
      exec (.entryDisarm p n v) s =
        s.wrote p a ((d.setEn n { d.en n with st := .idle, start := none }).dropTimer ((d.en n).srcId % 16))) ∧
    (Now s.dev p → bit v 35 = false → own → meets ∨ ¬ waits → exec (.entryDisarm p n v) s = s.wrote p a d) ∧
    (Now s.dev p → bit v 34 = false → ¬ idle → own → exec (.entryArm p n v) s = s.wrote p a s.ready) ∧
    (Now s.dev p → bit v 34 = true → exec (.entryArm p n v) s = s.wrote p a s.ready) ∧
    (Now s.dev p → bit v 34 = false → member → exec (.entryArm p n v) s = s.wrote p a (s.ready.log Ev.FRAME_MEMBER n.val 0)) ∧
    (Now s.dev p → bit v 35 = false → member → exec (.entryDisarm p n v) s = s.wrote p a (s.ready.log Ev.FRAME_MEMBER n.val 0)) ∧
    (x.dark = false → (x.en n).st = .arming → exec (.zoneSegmentsLoaded n) s = s.goes (x.setEn n { x.en n with st := .armed }))

/-- A fire that reaches one ARMED entry sets its start at the origin plus its DELAY and discards a measurement of the delay lines it needs, unless its zones steeped within the last 40 ns, the pumps are not ready or ENABLE has been written zero, or its zones are being poured, which is logged and
changes no entry; the origin is 16 ticks after a SOFT_GO write or a compare event of the entry's timer channel, the given delay after a qualified edge, and the trigger's tick for a scheduled trigger with the entry's identifier that is not late. One SOFT_GO starts every ARMED entry it names. A fire that meets an ARMING entry starts it over the
zones that are loaded, logging the others; how many are is a free value. A pulse of 3 ns or more is qualified, one below 1.5 ns is not and fires nothing. An active edge that no entry and no frame listens to is counted. -/
def Obligations.FiresReachArmedEntries : Prop :=
  ∀ (s : State) (p : Owner) (v : Word) (n : Fin 8) (rising : Bool) (lat : Fin 19) (width : Nat),
    let fired := fun (d : Dev) (origin : Nat) =>
      let e := d.en n
      let start := origin + e.delay
      if d.earlyZones n start e.mask ≠ 0 then d.log Ev.FIRE_EARLY n.val (reducedMask (d.earlyZones n start e.mask))
      else if d.stp.pumpReady = false ∨ d.stp.pumpStopping ≠ none then d.log Ev.PUMP_LOW n.val 0
      else if d.poured e.node &&& e.mask ≠ 0 then d.log Ev.NODE_BUSY n.val (reducedMask (d.poured e.node &&& e.mask) + e.node * 2 ^ 23)
      else (d.setEn n { e with start := some start, firedAt := d.tick, zones := e.mask }).discard ((64 + n.val) :: zoneList e.mask)
    let alone := fun (d : Dev) (source : Nat) =>
      (d.en n).start = none ∧ (d.en n).source = source ∧ (d.en n).member = false ∧
      (∀ o, o ≠ n → (d.en o).listens source = false) ∧ d.frm.running = false
    let takes := fun (d : Dev) (source : Nat) => (d.en n).st = .armed ∧ alone d source
    let named := fun (d : Dev) => d.frm.running = false ∧ ∀ o : Fin 8, v.getLsbD o.val = true →
      (d.en o).st = .armed ∧ (d.en o).start = none ∧ (d.en o).source = 0 ∧ (d.en o).member = false ∧
        d.judge o (d.tick + 16 + (d.en o).delay) (d.en o).mask = none
    let x := s.dev.hold
    let d := s.ready
    let d1 := { x with stp := { x.stp with trig := rising } }
    let m := (d.en n).mask
    let k := Config.freeNat d.free % ((zoneList m).length + 1)
    let z : Zones := zUnion (((zoneList m).take k).map zone)
    let at_ := d.tick + 16 + (d.en n).delay
    let met := if k = 0 then { d with free := d.free + 1 }
      else ({ d with free := d.free + 1 }.setEn n { d.en n with st := .armed, start := some at_, firedAt := d.tick, zones := z }).discard
        ((64 + n.val) :: zoneList z)
    (Now s.dev p → takes d 0 → exec (.softGo p (BitVec.ofNat 36 (2 ^ n.val))) s = s.wrote p R.STP_SOFT_GO (fired d (d.tick + 16))) ∧
    (Now s.dev p → (d.en n).st = .arming → alone d 0 → m ≠ 0 → { d with free := d.free + 1 }.judge n at_ z = none →
      exec (.softGo p (BitVec.ofNat 36 (2 ^ n.val))) s = s.wrote p R.STP_SOFT_GO
        (if z = m then met else met.log Ev.FIRE_UNARMED n.val (reducedMask (m &&& ~~~ z)))) ∧
    (Now s.dev p → named d → ∃ y : Dev, exec (.softGo p v) s = s.wrote p R.STP_SOFT_GO y ∧ y.evt = d.evt ∧ y.ctl = d.ctl ∧ y.frm = d.frm ∧
      ∀ o : Fin 8, y.en o = if v.getLsbD o.val then
        { d.en o with start := some (d.tick + 16 + (d.en o).delay), firedAt := d.tick, zones := (d.en o).mask } else d.en o) ∧
    (∀ (y : Dev) (c t : Nat), y.active 3 c = true → takes y 2 → (y.en n).srcId % 16 = c → y.timerFire c t = fired y (t + 16)) ∧
    (∀ (y : Dev) (id t : Nat) (stamp : Stamp), takes y 3 → (y.en n).srcId = id →
      y.fabricFire id t stamp false = fired y t ∧ y.fabricFire id t stamp true = y) ∧
    (x.dark = false → 3000 ≤ width → takes x 1 → rising ≠ (x.en n).pol → exec (.trigEdge rising lat width) s = s.goes (fired d1 (x.tick + lat.val))) ∧
    (x.dark = false → width < 1500 → exec (.trigEdge rising lat width) s = s.goes d1) ∧
    (x.dark = false → 3000 ≤ width → (∀ o, (x.en o).listens 1 = false) → x.frm.running = false →
      exec (.trigEdge rising lat width) s = s.goes (if rising ≠ bit (x.rd R.STP_TRIG) 0 then d1.bump R.STP_TRIG_MISSED else d1))

/-- At its start a fired entry enters STEEPING with the zones of its fire, its start stamp, its end DURATION + 1 ticks later, its PARTIAL and HOLDOVER flags and its fire count, and without ACCUMULATE the node's segments of these zones are cleared; at its end the charge joins what these segments hold, and no other, the steeped zones hold in its node, and the
entry is DONE; the end of a member of a timed frame that goes on is also its part in the frame: the infusion's zones and duration, and whether it ran in holdover. -/
def Obligations.SteepStartAndEnd : Prop :=
  ∀ (s : State) (n : Fin 8) (t : Nat),
    let d := s.dev.hold
    let e := d.en n
    let x := d.to t
    let y := d.to e.endAt
    (d.dark = false → e.start = some t → e.member = false → d.tick ≤ t →
      exec (.steepStart n) s = s.goes ((((((if e.acc then x else x.onContent (x.segments e.node e.zones) (fun _ => [])).setEn n { e with
        st := .steeping, start := none, fired := e.zones, startedAt := t, endAt := t + e.dur + 1, past := keepPast e.past t (e.startedAt, e.endAt),
        stamp := d.stampOf t, flagPartial := decide (e.zones ≠ e.mask), flagHoldover := bit (d.rd R.CLK_STATUS) 33 }).bump
          (R.STP_ENn_FIRE_COUNT n)).stale (R.STP_ENn_START_FLAGS n) 2).stale (R.STP_ENn_FIRED_HI n) 35))) ∧
    (d.dark = false → e.st = .steeping → d.inFrame n = false → d.tick ≤ e.endAt → e.node < 4 → y.poured e.node &&& e.fired = 0 →
      ∃ w : Dev, exec (.steepEnd n) s = s.goes w ∧ (w.en n).st = .done ∧ w.tick = e.endAt ∧ (w.en n).fired = e.fired ∧
        (∀ o, o ≠ n → w.en o = d.en o) ∧
        (∀ k z, k < 4 → ((w.holdOf k).getLsbD z = true ↔ (y.holdOf k).getLsbD z = true ∨ (k = e.node ∧ e.fired.getLsbD z = true))) ∧
        (∀ key, w.contentAt key = if (d.segments e.node e.fired).contains key then d.contentAt key ++ [.steep d.free] else d.contentAt key) ∧
        w.ctl = d.ctl ∧ w.frm = d.frm ∧ w.seq = d.seq ∧ w.evt = d.evt) ∧
    (∀ o ps, d.dark = false → e.st = .steeping → d.frm.frame = some o → o.phases = (n.val, .steeping) :: ps → (∀ q ∈ ps, q.1 ≠ n.val) →
      (∃ q ∈ ps, q.2.over = false ∧ d.frm.infOf q.1 = d.frm.infOf n.val) → pulsePaced d.frm.mode = false → o.closing = none → d.tick ≤ e.endAt →
      ∃ w : Dev, exec (.steepEnd n) s = s.goes w ∧ (w.en n).st = .done ∧ w.tick = e.endAt ∧ (∀ m, m ≠ n → w.en m = d.en m) ∧
        w.frm = { d.frm with frame := some { o with
          phases := (n.val, .ended) :: ps, steeps := o.steeps ++ [⟨d.frm.infOf n.val, e.fired, e.endAt - e.startedAt⟩],
          holdover := if e.flagHoldover || bit (d.rd R.CLK_STATUS) 33 then o.holdover ++ [d.frm.infOf n.val] else o.holdover } } ∧
        (∀ key, w.contentAt key = if (d.segments e.node e.fired).contains key then d.contentAt key ++ [.steep d.free] else d.contentAt key) ∧
        w.ctl = d.ctl ∧ w.evt = d.evt)

/-- ENABLE written to one lets the pumps run up, READY following their regulation; written to zero it stops them at once, or after the steeps that run; a pump that falls below its level clears READY and logs EV_PUMP_LOW with its number. STROBE_ACT asks for its STROBE pin, or gives it up. -/
def Obligations.PumpsAndStrobe : Prop :=
  ∀ (s : State) (p : Owner) (v : Word) (pump : Fin 4),
    let d1 := s.ready.store R.STP_CTRL 0x3F01 (v ||| 1)
    let d0 := s.ready.store R.STP_CTRL 0x3F01 (v &&& ~~~ 1)
    let was := bit (s.ready.rd R.STP_CTRL) 0
    let running := (List.finRange 8).filter (fun n => decide ((d0.en n).st = .steeping))
    let onStp := fun (d : Dev) (r : Bool) (l : Option (List Nat)) => { d with stp := { d.stp with pumpReady := r, pumpStopping := l } }
    let x := s.dev.hold
    let st0 := s.ready.store R.STP_STROBE_ACT 0x7FF v
    let st := { st0 with stp := { st0.stp with
      strobePast := keepPast st0.stp.strobePast st0.tick ((s.ready.rd R.STP_STROBE_ACT).toNat / 8 % 256) } }
    (Now s.dev p → exec (.pumpStart p v) s =
      s.wrote p R.STP_CTRL (if was then d1 else
        let y := onStp d1 d1.stp.pumpReady none
        { y with frm := { y.frm with frame := y.frm.frame.map (fun o => { o with windDown := false }) } })) ∧
    (Now s.dev p → was = true → running = [] → exec (.pumpStop p v) s = s.wrote p R.STP_CTRL (onStp d0 false none)) ∧
    (Now s.dev p → was = true → running ≠ [] → exec (.pumpStop p v) s =
      s.wrote p R.STP_CTRL (onStp d0 d0.stp.pumpReady (some (running.map (·.val))))) ∧
    (Now s.dev p → was = false → exec (.pumpStop p v) s = s.wrote p R.STP_CTRL d0) ∧
    (x.dark = false → bit (x.rd R.STP_CTRL) 0 = true →
      exec .pumpReady s = s.goes (onStp x true x.stp.pumpStopping) ∧
      exec (.pumpLow pump) s = s.goes ((onStp x false x.stp.pumpStopping).log Ev.PUMP_LOW (8 + pump.val) 0)) ∧
    (Now s.dev p → exec (.strobeActWrite p v) s = s.wrote p R.STP_STROBE_ACT
      (if bit v 0 then st.askClaim 1 0 [0x010 + v.toNat / 2 % 4] else st.releaseClaim 1 0))

/-! ### Frames -/

/-- GO takes the frame shape while the controller is IDLE or REFUSED: when a check fails the controller is REFUSED with the number of the first that fails, EV_FRAME_INVALID is logged with it and event 5 posted; when all hold it enters WAIT_NODES with the members of STP.FRM_MAP, K, rotation, offsets, fires, period, burst and the common mode and source of its members, the burst count
starts at zero, and a timer source asks for its channel, whose loss to a feature of a lower number refuses the GO with reason 7 and EV_CONFLICT. GO while the controller runs, or with STOP, is ignored as a whole. HOLD acts from the next tick. -/
def Obligations.FrameGo : Prop :=
  ∀ (s : State) (p : Owner) (v : Word),
    let d := s.ready.idleWrite.store R.STP_FRM_CTRL 0x307 v
    let g := if d.frm.st = .refused ∧ d.frm.reason = 7 ∧ d.frm.source = 2
      then { d with frm := { d.frm with reason := 0 } }.forgetLost (if d.frm.mode = 5 ∨ d.frm.mode = 6 then 2 else 3) (d.frm.srcId % 16) else d
    let c := d.rd R.STP_FRM_CTRL
    let k := c.toNat % 8
    let inf := fun (n : Nat) => field (d.rd R.STP_FRM_MAP) (3 * n + 2) (3 * n)
    let ms := (List.finRange 8).filterMap (fun (n : Fin 8) => if inf n.val = 0 then none else some (⟨n.val, inf n.val - 1,
      zJoin (d.rd (R.STP_ENn_ZMASK_LO n)) (d.rd (R.STP_ENn_ZMASK_HI n)), (d.rd (R.STP_ENn_DURATION n)).toNat, (d.rd (R.STP_ENn_DELAY n)).toNat⟩ : Member))
    let offs := (List.range 4).map (fun i => (d.rd (R.STP_FRM_OFFSETi i)).toNat)
    let period := (d.rd R.STP_FRM_PERIOD).toNat
    let ctl := fun (m : Member) => d.rd (R.STP_ENn_CTRL m.entry)
    let h := d.rd (R.STP_ENn_CTRL ((ms.head?.map (·.entry)).getD 0))
    let mode := field h 15 12
    let start := fun (m : Member) => offs.getD m.inf 0 + m.delay
    let end_ := fun (m : Member) => start m + m.dur + 1
    let check1 := 1 ≤ k ∧ k ≤ 4 ∧ (∀ n, n < 8 → inf n ≤ k) ∧ (∀ i, i < k → ∃ m ∈ ms, m.inf = i)
    let check2 := (∀ m ∈ ms, field (ctl m) 15 12 = mode ∧ field (ctl m) 5 3 = field h 5 3 ∧ field (ctl m) 23 16 = field h 23 16 ∧
      bit (ctl m) 11 = false ∧ bit (ctl m) 10 = false) ∧ sourceAllowed mode (field h 5 3) = true ∧
      (mode = 2 → (∀ x ∈ offs, x = 0) ∧ ∀ m ∈ ms, m.delay = 0)
    let check3 := bit c 8 = true → k = 1 ∨ k = 2
    let check4 := ∀ m ∈ ms, ∀ q ∈ ms, m.entry < q.entry → m.inf = q.inf → m.mask &&& q.mask = 0
    let check5 := pulsePaced mode = false →
      (∀ m ∈ ms, ∀ q ∈ ms, m.inf < q.inf → m.mask &&& q.mask ≠ 0 → end_ m + 160 ≤ start q) ∧
      (mode = 3 → ∀ m ∈ ms, end_ m + 160 + 1600 * ms.length ≤ period)
    let check6 := ∀ m ∈ ms, (d.en (enIdx m.entry)).st = .idle ∨ (d.en (enIdx m.entry)).st = .done ∨ (d.en (enIdx m.entry)).st = .refused
    let feat := if mode = 5 ∨ mode = 6 then 2 else 3
    let ch := field h 23 16 % 16
    let goes := { g.wr R.STP_FRM_BURST_COUNT 0 with frm := { g.frm with
      st := .waitNodes, reason := 0, members := ms, k := k, rotate := bit c 8, offs := offs,
      perFire := (d.rd R.STP_FRM_PER_FIRE).toNat, period := period, burst := (d.rd R.STP_FRM_BURST).toNat,
      mode := mode, source := field h 5 3, srcId := field h 23 16, pol := bit (d.rd R.STP_TRIG) 0,
      opened := 0, frame := none, stopping := false, blockedLogged := false, fires := [] } }
    let refused := fun (r : Nat) => exec (.frameGo p v) s = s.wrote p R.STP_FRM_CTRL
      (let x := (g.wr R.STP_FRM_BURST_COUNT 0).log Ev.FRAME_INVALID r 0
       { x with frm := { x.frm with st := .refused, reason := r, frame := none, fires := [] } }.post 5 x.tb)
    (Now s.dev p → bit v 34 = false → s.ready.frm.st = .idle ∨ s.ready.frm.st = .refused → s.ready.frm.frame = none →
      (check1 → check2 → check3 → check4 → check5 → check6 → exec (.frameGo p v) s = s.wrote p R.STP_FRM_CTRL
        (if field h 5 3 = 2 then goes.askClaim feat ch [0x020 + ch] else goes)) ∧
      (∀ winner i, check1 → check2 → check3 → check4 → check5 → check6 → field h 5 3 = 2 → s.ready.claims = [⟨winner, i, [0x020 + ch]⟩] → winner < feat →
        s.ready.asks = [] → s.ready.evt.held ≠ none →
        ∃ y : Dev, exec (.frameGo p v) s = s.goes y ∧ y.frm.st = .refused ∧ y.frm.reason = 7 ∧ y.frm.frame = none ∧ y.claims = s.ready.claims ∧
          (feat, ch) ∈ y.suppressed ∧ ∃ x ∈ y.evt.held.getD [], x.code = Ev.CONFLICT ∧ x.source = 0x020 + ch) ∧
      (¬ check1 → refused 1) ∧ (check1 → ¬ check2 → refused 2) ∧ (check1 → check2 → ¬ check3 → refused 3) ∧
      (check1 → check2 → check3 → ¬ check4 → refused 4) ∧ (check1 → check2 → check3 → check4 → ¬ check5 → refused 5) ∧
      (check1 → check2 → check3 → check4 → check5 → ¬ check6 → refused 6)) ∧
    (Now s.dev p → s.ready.frm.running = true ∨ bit v 34 = true → exec (.frameGo p v) s = s.wrote p R.STP_FRM_CTRL s.ready)

/-- STOP that no fire has come before, when no frame is open, takes the members back and the controller to IDLE; with a timed frame open the frame goes on and no other follows; with a pulse-paced frame open in which a member steeps, the frame closes when the steeps have ended and no other follows; in IDLE and REFUSED it only ends a train. When the nodes of the next frame hold nothing and are not being poured in its members' zones, the controller arms its members: with
one member whose checks hold, its entry enters ARMING as a member of the frame with the node of its infusion; with a member's zone held it waits. When every member of the next frame is ARMED the controller waits for its fire. -/
def Obligations.FrameStopsAndArms : Prop :=
  ∀ (s : State) (p : Owner) (v : Word) (m : Member) (n : Fin 8),
    let d := s.dev.hold
    let x := s.ready.idleWrite.store R.STP_FRM_CTRL 0x307 v
    let dur := (d.rd (R.STP_ENn_DURATION n)).toNat
    (Now d p → bit v 35 = false → s.ready.frm.frame = none → s.ready.frm.fires = [] →
      (s.ready.frm.st = .idle ∨ s.ready.frm.st = .refused → exec (.frameStop p v) s = s.wrote p R.STP_FRM_CTRL
        { x with frm := { x.frm with trainT0 := none } }) ∧
      (s.ready.frm.st = .waitNodes ∨ s.ready.frm.st = .arming ∨ s.ready.frm.st = .waitFire →
        exec (.frameStop p v) s = s.wrote p R.STP_FRM_CTRL
          (let y := x.disarmMembers
           { y with frm := { y.frm with st := .idle, trainT0 := none, stopping := false, fires := [] } }.frmDropClaim))) ∧
    (Now d p → bit v 35 = false → s.ready.frm.fires = [] → s.ready.frm.st = .opened → pulsePaced s.ready.frm.mode = false →
      exec (.frameStop p v) s = s.wrote p R.STP_FRM_CTRL { x with frm := { x.frm with stopping := true, trainT0 := none } }) ∧
    (∀ o, Now d p → bit v 35 = false → s.ready.frm.fires = [] → s.ready.frm.st = .opened → pulsePaced s.ready.frm.mode = true →
      s.ready.frm.frame = some o → s.ready.idleSince = none → o.closing = none → o.steeping = true →
      exec (.frameStop p v) s = s.wrote p R.STP_FRM_CTRL
        { x with frm := { x.frm with frame := some { o with closing := some .stopped }, stopping := true, trainT0 := none } }) ∧
    (d.dark = false → d.frm.st = .arming → (∀ k ∈ d.frm.members, (d.en (enIdx k.entry)).st = .armed) →
      exec .frameArmed s = s.goes { d with frm := { d.frm with st := .waitFire } }) ∧
    (d.dark = false → d.frm.st = .waitNodes → d.nodesFree = false → exec .frameNodesFree s = s.stays) ∧
    (d.dark = false → d.frm.st = .waitNodes → d.nodesFree = true → d.frm.members = [m] → m.entry = n.val → m.inf = 0 →
      pulsePaced d.frm.mode = true → d.frm.source ≤ 3 → m.mask ≠ 0 → 39 ≤ dur →
      (∀ o, (d.en o).st ≠ .arming ∧ (d.en o).st ≠ .armed) →
      ∃ y : Dev, exec .frameNodesFree s = s.goes y ∧ y.frm.st = .arming ∧ (y.en n).st = .arming ∧ (y.en n).member = true ∧
        (y.en n).mask = m.mask ∧ (y.en n).node = d.frm.nodeOf 0 ∧ (y.en n).dur = dur ∧
        (∀ o, o ≠ n → y.en o = d.en o) ∧ y.ctl = d.ctl ∧ y.evt = d.evt)

/-- A fire opens a frame when the controller waits for one: the frame takes the number of STP.FRM_NUMBER, which counts on, and its origin, and event 1 is posted; in the burst-train mode the first frame of a train opens so, with the period and count of the train, in the scheduled mode at the origin itself, and a late scheduled trigger skips its frame. In a pulse-paced frame a fire starts the infusion that is due; with
no frame open and outside WAIT_FIRE it is ignored, counted, and logged the first time, and so is any fire while a train runs. The origin of the next frame of a train opens a frame in WAIT_FIRE and skips one, with the count and the log entry, otherwise; the train ends with its last. -/
def Obligations.FiresOpenFrames : Prop :=
  ∀ (s : State) (c : CtlFire) (rest : List CtlFire) (t0 : Nat) (o : OpenFrame),
    let d := s.dev.hold
    let num := d.rd R.STP_FRM_NUMBER
    let fire := d.dark = false ∧ d.frm.fires = c :: rest
    let taken := { d with frm := { d.frm with fires := rest } }
    let next := t0 + d.frm.trainJ * d.frm.trainPeriod
    let opens := fun (x : Host.Outcome State Fault Refusal) (origin tick : Nat) (stamp : Stamp) (t0 : Option Nat) (j : Nat) =>
      ∃ y : Dev, x = s.goes (y.post 1 (d.stampOf tick)) ∧ y.frm.st = .opened ∧ y.frm.opened = d.frm.opened + 1 ∧ y.tick = tick ∧
        y.frm.lastOpen = some tick ∧ y.rd R.STP_FRM_NUMBER = num + 1 ∧ y.frm.trainT0 = t0 ∧ y.frm.trainJ = j ∧ y.evt = d.evt ∧
        (∃ f, y.frm.frame = some f ∧ f.num = num ∧ f.origin = origin ∧ f.originStamp = stamp ∧
          f.phases.map (·.1) = d.frm.members.map (·.entry))
    let waits := fire ∧ num ≠ BitVec.allOnes 36 ∧ d.frm.st = .waitFire ∧ d.frm.frame = none ∧ d.frm.trainT0 = none
    let blocked := taken.bump R.STP_FRM_BLOCKED
    let unopened := fire ∧ d.frm.frame = none ∧ ((d.frm.st = .arming ∨ d.frm.st = .waitNodes) ∧ d.frm.mode ≠ 7 ∨ d.frm.running = true ∧ d.frm.trainT0.isSome = true)
    (waits → d.frm.mode ≠ 7 → d.frm.mode ≠ 3 → opens (exec .frameFire s) c.origin d.tick (c.sched.getD (d.stampOf c.origin)) none d.frm.trainJ) ∧
    (waits → d.frm.mode = 3 → opens (exec .frameFire s) c.origin d.tick (c.sched.getD (d.stampOf c.origin)) (some c.origin) 1 ∧
      ∃ y : Dev, exec .frameFire s = s.goes y ∧ y.frm.trainPeriod = d.frm.period ∧ y.frm.trainFrames = d.frm.perFire) ∧
    (waits → d.frm.mode = 7 → c.late = false → d.tick ≤ c.origin →
      opens (exec .frameFire s) c.origin c.origin (c.sched.getD (d.stampOf c.origin)) none d.frm.trainJ) ∧
    (fire → num ≠ BitVec.allOnes 36 → d.frm.running = true → d.frm.frame = none → d.frm.trainT0 = none → d.frm.mode = 7 → c.late = true →
      exec .frameFire s = s.goes (let x := (taken.to c.origin).wr R.STP_FRM_NUMBER (num + 1)
        (x.bump R.STP_FRM_SKIPPED).log Ev.FRAME_SKIPPED 7 num.toNat)) ∧
    (fire → d.frm.running = false → d.frm.frame = none → exec .frameFire s = s.goes taken) ∧
    (fire → d.frm.st = .opened → d.frm.frame = some o → d.frm.trainT0 = none → pulsePaced d.frm.mode = true → o.nextInf < d.frm.k → o.fireOrigin = none →
      o.closing = none → (∀ t h u, o.idleFrom = some t → d.idlePasses h t = some u → d.tick ≤ u) →
      ∃ y : Dev, exec .frameFire s = s.goes y ∧ y.frm.frame = some { o with
          phases := d.frm.dueFrom c.origin (fun i => i == o.nextInf) o.phases, fireOrigin := some c.origin, judged := false, idleFrom := none,
          inactiveAt := none } ∧
        y.frm.fires = rest ∧ y.frm.st = .opened ∧ y.tick = d.tick ∧ y.stp = d.stp ∧ y.ctl = d.ctl ∧ y.evt = d.evt) ∧
    (unopened → d.frm.blockedLogged = true → exec .frameFire s = s.goes blocked) ∧
    (unopened → d.frm.blockedLogged = false → exec .frameFire s = s.goes (let x := blocked.log Ev.FRAME_BLOCKED d.frm.st.code num.toNat
      { x with frm := { x.frm with blockedLogged := true } })) ∧
    (d.dark = false → num ≠ BitVec.allOnes 36 → d.frm.trainT0 = some t0 → d.frm.trainFrames = 0 ∨ d.frm.trainJ < d.frm.trainFrames →
      d.tick ≤ next → d.frm.st = .waitFire → d.frm.mode = 3 → opens (exec .trainFrameOrigin s) next next (d.stampOf next) (some t0) (d.frm.trainJ + 1)) ∧
    (d.dark = false → d.frm.trainT0 = some t0 → d.frm.trainFrames = 0 ∨ d.frm.trainJ < d.frm.trainFrames → d.tick ≤ next →
      d.frm.st ≠ .waitFire ∨ d.frm.mode ≠ 3 →
      exec .trainFrameOrigin s = s.goes (let x := d.to next
        let x := { x with frm := { x.frm with trainJ := d.frm.trainJ + 1 } }
        let x := (x.bump R.STP_FRM_SKIPPED).log Ev.FRAME_SKIPPED 3 num.toNat
        if d.frm.trainFrames = d.frm.trainJ + 1 ∧ d.frm.frame = none then { x with frm := { x.frm with trainT0 := none } } else x)) ∧
    (d.dark = false → d.frm.trainT0 = none → exec .trainFrameOrigin s = s.stays)

/-- A timed member that nothing hinders starts to steep at its due tick with its zones, and its start is recorded in its frame; one whose zones steeped within the last 40 ns, that pumps which are not ready hinder, or whose zones are being poured, is disarmed for the frame, its part in the frame is over, and the hindrance is logged, that of the pumps once for the frame. The first member of a pulse-paced infusion that nothing hinders starts
in the same way, and the next infusion is due; a hindrance of any of its members is logged and the infusion waits for another fire. -/
def Obligations.MemberStarts : Prop :=
  ∀ (s : State) (n : Fin 8) (t : Nat) (o : OpenFrame) (ps : List (Nat × MemberPhase)),
    let d := s.dev.hold
    let e := d.en n
    let x := d.to t
    let early := x.earlyZones n t e.mask
    let dry := x.stp.pumpReady = false ∨ (x.stp.pumpStopping ≠ none ∧ o.windDown = true)
    let taken := x.poured e.node &&& e.mask
    let starts := fun (f : OpenFrame) =>
      ∃ y : Dev, exec (.memberStart n) s = s.goes y ∧ (y.en n).st = .steeping ∧ (y.en n).fired = e.mask ∧
        (y.en n).startedAt = t ∧ (y.en n).endAt = t + e.dur + 1 ∧ (y.en n).stamp = d.stampOf t ∧
        y.rd (R.STP_ENn_FIRE_COUNT n) = satInc (d.rd (R.STP_ENn_FIRE_COUNT n)) ∧
        y.frm.frame = some { f with phases := (n.val, .steeping) :: ps, stamps := o.stamps ++ [(d.frm.infOf n.val, d.stampOf t)] } ∧
        (∀ m, m ≠ n → y.en m = d.en m) ∧ y.tick = t
    let misses := fun (logged : Bool) (evt : Evt) => e.st = .armed → e.start = none → (∃ q ∈ ps, q.2.over = false) → o.closing = none →
      ∃ y : Dev, exec (.memberStart n) s = s.goes y ∧ (y.en n).st = .idle ∧
        y.frm.frame = some { o with phases := (n.val, .missed) :: ps, pumpLogged := logged } ∧
        (∀ m, m ≠ n → y.en m = d.en m) ∧ y.evt = evt
    let timed := pulsePaced d.frm.mode = false
    d.dark = false → d.frm.frame = some o → o.phases = (n.val, .due t) :: ps → (∀ q ∈ ps, q.1 ≠ n.val) → d.tick ≤ t → o.inactiveAt = none →
    (timed → early = 0 → ¬ dry → taken = 0 → starts o) ∧
    (timed → early ≠ 0 → misses o.pumpLogged (x.log Ev.FIRE_EARLY n.val (reducedMask early)).evt) ∧
    (timed → early = 0 → dry → misses true (if o.pumpLogged then d.evt else (x.log Ev.PUMP_LOW 15 o.num.toNat).evt)) ∧
    (timed → early = 0 → ¬ dry → taken ≠ 0 → misses o.pumpLogged (x.log Ev.NODE_BUSY n.val (reducedMask taken + e.node * 2 ^ 23)).evt) ∧
    (¬ timed → o.judged = false → d.frm.infOf n.val = o.nextInf →
      (∀ q ∈ o.phases, ∀ w, q.2 = .due w → d.frm.infOf q.1 = o.nextInf → x.judge (enIdx q.1) w (x.en (enIdx q.1)).mask = none) →
      starts { o with judged := true, nextInf := o.nextInf + 1, fireOrigin := none, idleFrom := some (max t (o.fireOrigin.getD 0)) }) ∧
    (∀ code detail, ¬ timed → o.judged = false → d.frm.infOf n.val = o.nextInf → x.judge n t e.mask = some (code, detail) →
      exec (.memberStart n) s = s.goes (let y := x.log code n.val detail
        { y with frm := { y.frm with frame := some { o with
          phases := o.phases.map (fun q => if d.frm.infOf q.1 = o.nextInf then (q.1, .waiting) else q), fireOrigin := none, idleFrom := o.fireOrigin } } }))

/-- The inactive edge, of a pulse of 3 ns or more, ends the level steeps of the open frame: a member that has steeped 40 ticks or more ends at the edge's delay, one that has not ends 40 ticks after its start, as LIMITED; a member that has not started ends so after its start. At the idle limit of a pulse-paced frame HOLD marks it held; without HOLD its early close is
decided; HOLD cleared in the course of the idle time acts from the tick after its write. A write of STP.FRM_NUMBER while no frame runs sets the next number and takes a new session number. -/
def Obligations.LevelEndIdleLimitAndNumber : Prop :=
  ∀ (s : State) (p : Owner) (v : Word) (ok : Bool) (n : Fin 8) (lat : Fin 19) (width : Nat) (o : OpenFrame),
    let d := s.dev.hold
    let e := d.en n
    let end_ := d.tick + lat.val
    let level := d.dark = false ∧ d.frm.fires = [] ∧ d.frm.mode = 2 ∧ d.frm.frame = some o ∧ 3000 ≤ width
    let alone := d.inFrame n = true ∧ e.st = .steeping ∧ (∀ m, m ≠ n → d.inFrame m = false) ∧ (∀ q ∈ o.phases, ∀ t, q.2 ≠ .due t) ∧
      (∀ q ∈ o.cut, q.1 ≠ n.val)
    let idle := fun (t : Nat) => d.dark = false ∧ d.frm.frame = some o ∧ d.frm.fires = [] ∧ d.idleSince = some t ∧ d.tick ≤ t + d.idleLimit
    let steady := d.frm.idleWas = none
    (level → alone → end_ ≤ e.endAt → end_ < e.startedAt + 40 →
      exec (.levelSteepEnd lat width) s = s.goes (let x := { d with stp := { d.stp with trig := d.frm.pol } }.setEn n { e with endAt := e.startedAt + 40 }
        { x with frm := { x.frm with frame := some { o with cut := o.cut ++ [(n.val, true)] } } })) ∧
    (level → alone → end_ ≤ e.endAt → e.startedAt + 40 ≤ end_ →
      ∃ y : Dev, exec (.levelSteepEnd lat width) s = s.goes y ∧ y.tick = end_ ∧ (y.en n).st = .done) ∧
    (level → (∀ m, d.inFrame m = false) → (∃ q ∈ o.phases, ∃ t, q.2 = .due t) → o.inactiveAt = none →
      exec (.levelSteepEnd lat width) s = s.goes { d with
        stp := { d.stp with trig := d.frm.pol }, frm := { d.frm with frame := some { o with inactiveAt := some end_ } } }) ∧
    (∀ t, idle t → steady → bit (d.rd R.STP_FRM_CTRL) 9 = true →
      exec .idleClose s = s.goes (let x := d.to (t + d.idleLimit)
        { x with frm := { x.frm with frame := some { o with held := true } } })) ∧
    (∀ t w limit, idle t → d.frm.idleWas = some (w, limit, true) → bit (d.rd R.STP_FRM_CTRL) 9 = false →
      exec .idleClose s = s.goes (let x := d.to (max (t + d.idleLimit) (w + 1))
        { x with frm := { x.frm with frame := some { o with held := o.held || decide (t + limit ≤ w), closing := some .idle } } }.closeCheck)) ∧
    (∀ t, idle t → steady → bit (d.rd R.STP_FRM_CTRL) 9 = false →
      exec .idleClose s = s.goes (let x := d.to (t + d.idleLimit)
        { x with frm := { x.frm with frame := some { o with closing := some .idle } } }.closeCheck)) ∧
    (Now d p → (s.storing ok).ready.frm.running = false →
      exec (.frmNumberWrite p v ok) s = (s.storing ok).wrote p R.STP_FRM_NUMBER
        (((s.storing ok).ready.store R.STP_FRM_NUMBER 0xFFFFFFFFF v).advanceSession))
/-! ### Converters and readout -/

/-- Substitution enabled assigns the spares of the waiting converters: the spare beside a converter, when FREE, goes MATCHING for it; a bank fault cleared resumes it in that bank. FORCE of a working converter with no spare fails it with cause 5, and it takes its own spare, else the first FREE one of its
bank, else it waits, as it does where substitution does not run; RELEASE frees the spare that serves it, whose trims are discarded; both do nothing otherwise. The targets a converter is matched to are kept from its failure on. -/
def Obligations.SparesServeConverters : Prop :=
  ∀ (s : State) (p : Owner) (v : Word) (x : FailedConv),
    let d0 := s.ready
    let res := if field v 1 0 = 3 then setField v 1 0 (field (d0.rd R.CNV_CTRL) 1 0) else v
    let d1 := d0.store R.CNV_CTRL 0x1F03 (res ||| BitVec.ofNat 36 (2 ^ 12))
    let d2 := d0.storeClear R.CNV_STATUS 0 0xF00 v
    let without := fun (d : Dev) (b c : Nat) => d.cnv.waiting.filter (fun w => !(w.bank == b && w.conv == c))
    let others := fun (d : Dev) (b c : Nat) => d.cnv.targets.filter (fun t => !(t.bank == b && t.conv == c))
    let ofs := fun (d : Dev) (b col : Nat) => Cells.get trimZero d.cal.ofsTarget (14336 * b + col)
    let target := fun (d : Dev) (b c : Nat) => (d.cnv.targets.find? (fun t => t.bank == b && t.conv == c)).getD
      ⟨b, c, (ofs d b (2 * c), ofs d b (2 * c + 1)), Cells.get trimZero d.cal.gainTarget (7168 * b + c)⟩
    let takes := fun (d : Dev) (b c cause k : Nat) =>
      let m : Matching := { bank := b, spare := k, pours := 0, matched := false, inPour := false, tOfs := (target d b c).ofs, tGain := (target d b c).gain }
      { d.setSpare b k 1 cause c with
        cnv := { d.cnv with waiting := without d b c, matching := d.cnv.matching ++ [m], targets := others d b c ++ [target d b c] } }
    let waits := fun (d : Dev) (b c cause : Nat) (noSpare : Bool) =>
      { d with cnv := { d.cnv with waiting := without d b c ++ [⟨b, c, cause, noSpare⟩], targets := others d b c ++ [target d b c] } }
    let b := v.toNat / 2 ^ 13 % 4
    let c := v.toNat % 2 ^ 13
    let failed := (d0.wr R.CNV_FAIL_LAST (BitVec.ofNat 36 (2 ^ 35 + 5 * 2 ^ 16 + b * 2 ^ 13 + c))).log Ev.CNV_FAIL b (c + 5 * 2 ^ 13)
    (Now s.dev p → bit (d0.rd R.CNV_CTRL) 12 = true → exec (.spareEnable p v) s = s.wrote p R.CNV_CTRL d1) ∧
    (Now s.dev p → bit (d0.rd R.CNV_CTRL) 12 = false → d0.cnv.waiting = [] → exec (.spareEnable p v) s = s.wrote p R.CNV_CTRL d1) ∧
    (Now s.dev p → bit (d0.rd R.CNV_CTRL) 12 = false → d0.cnv.waiting = [x] → x.bank < 4 → x.conv < 7168 →
      bit (d0.rd R.CNV_STATUS) (8 + x.bank) = false → d0.spareState x.bank (x.conv / 64) = 0 →
      exec (.spareEnable p v) s = s.wrote p R.CNV_CTRL (takes d1 x.bank x.conv x.cause (x.conv / 64))) ∧
    (Now s.dev p → d0.cnv.waiting = [] ∨ v.toNat / 2 ^ 8 % 16 = 0 → exec (.bankFaultResume p v) s = s.wrote p R.CNV_STATUS d2) ∧
    (Now s.dev p → d0.cnv.waiting = [x] → x.bank < 4 → x.conv < 7168 → bit v (8 + x.bank) = true →
      bit (d0.rd R.CNV_CTRL) 12 = true → d0.spareState x.bank (x.conv / 64) = 0 →
      exec (.bankFaultResume p v) s = s.wrote p R.CNV_STATUS (takes d2 x.bank x.conv x.cause (x.conv / 64))) ∧
    (Now s.dev p → 7167 < c ∨ (d0.spareOf b c).isSome = true → exec (.cnvForce p v) s = s.wrote p R.CNV_SUB_CMD d0) ∧
    (Now s.dev p → c ≤ 7167 → d0.spareOf b c = none → d0.sparing b = true → d0.spareState b (c / 64) = 0 →
      exec (.cnvForce p v) s = s.wrote p R.CNV_SUB_CMD (takes failed b c 5 (c / 64))) ∧
    (∀ k, Now s.dev p → c ≤ 7167 → d0.spareOf b c = none → d0.sparing b = true → d0.spareState b (c / 64) ≠ 0 → k < 112 → d0.spareState b k = 0 →
      (∀ j, j < k → d0.spareState b j ≠ 0) → exec (.cnvForce p v) s = s.wrote p R.CNV_SUB_CMD (takes failed b c 5 k)) ∧
    (Now s.dev p → c ≤ 7167 → d0.spareOf b c = none → d0.sparing b = true → (∀ k, k < 112 → d0.spareState b k ≠ 0) →
      exec (.cnvForce p v) s = s.wrote p R.CNV_SUB_CMD (waits
        (if ∃ w ∈ d0.cnv.waiting, w.bank = b ∧ w.noSpare = true then failed else failed.log Ev.CNV_SPARES_EXHAUSTED 0 0) b c 5 true)) ∧
    (Now s.dev p → c ≤ 7167 → d0.spareOf b c = none → d0.sparing b = false →
      exec (.cnvForce p v) s = s.wrote p R.CNV_SUB_CMD (waits failed b c 5 false)) ∧
    (Now s.dev p → 7167 < c ∨ d0.spareOf b c = none → exec (.cnvRelease p v) s = s.wrote p R.CNV_SUB_CMD d0) ∧
    (∀ k, Now s.dev p → c ≤ 7167 → d0.spareOf b c = some k → d0.cnv.waiting = [] →
      exec (.cnvRelease p v) s = s.wrote p R.CNV_SUB_CMD { d0.setSpare b k 0 0 0 with
        cal := { d0.cal with
          spareOfs := Cells.put trimZero d0.cal.spareOfs (112 * b + k) 0, gain := Cells.put trimZero d0.cal.gain (28672 + 112 * b + k) 0,
          gainTarget := Cells.put trimZero d0.cal.gainTarget (28672 + 112 * b + k) 0 },
        cnv := { d0.cnv with matching := d0.cnv.matching.filter (fun m => !(m.bank == b && m.spare == k)), targets := others d0 b c } })
/-- A GO of RDO.MAN_POUR queues a request with the NODE and WINDOWS of the write, unless one is pending. On a line-period boundary, with no pour running, ENABLE one and the idle line periods of the kettle past, the head of the queue starts: a manual pour over its held zones,
or the first infusion of a record, with windows, resolution, gain, rows and stamps taken then; a held or empty node refuses the manual pour, a steep into its zones, running or fired, delays it, an idle line period of the kettle is counted, and a record with no infusion is ready for PIP
at once. -/
def Obligations.PoursStart : Prop :=
  ∀ (s : State) (p : Owner) (v : Word) (node mask i : Nat) (rest : List PourReq) (r : FrameRecord),
    let d := s.dev.hold
    let m := s.ready.storeClear R.RDO_MAN_POUR 0x300FFFF 0x200000000 (v ||| BitVec.ofNat 36 (2 ^ 35))
    let mayStart := d.dark = false ∧ d.seq.lpStart = some d.tick ∧ d.rdo.pour = none ∧ d.rdo.serving = none ∧ bit (d.rd R.RDO_CTRL) 0 = true ∧
      d.rdo.lastTry ≠ some d.tick ∧ d.rdo.idleWant = some d.rdo.idleDone
    let steeps := fun (node : Nat) => d.steepingInto node ||| d.firedInto node
    let wins := fun (mask : Nat) => (((List.range 16).filter (fun k => mask.testBit k)).map (fun k =>
      (⟨k, d.rd (R.RDO_WINk_POS k), d.rd (R.RDO_WINk_SIZE k)⟩ : Win))).filter Win.valid
    let x := r.infAt i
    let poured := fun (y : Dev) (node : Nat) (cover : Zones) (ws : List Win) (q : Pour) => y.rdo.pour = some q ∧
      q.node = node ∧ q.cover = cover ∧ q.start = d.tick ∧ q.stamp = d.stampOf d.tick ∧ q.res = field (d.rd R.CNV_CTRL) 1 0 ∧
      q.cg = b2n (bit (d.rd R.CNV_CTRL) (8 + node)) ∧ q.wins = ws ∧ q.dark = (bit (d.rd R.RDO_CTRL) 1 && cover.getLsbD d.stp.refZone) ∧
      q.rowsLeft = pourRows q.dark cover (neededRows ws) ∧ y.rdo.idleWant = none ∧ y.rdo.queue = rest ∧ y.tick = d.tick ∧
      y.stp = d.stp ∧ y.mem.words = d.mem.words
    (Now d p → bit (s.ready.rd R.RDO_MAN_POUR) 34 = true → exec (.manPourGo p v) s = s.wrote p R.RDO_MAN_POUR s.ready) ∧
    (Now d p → bit (s.ready.rd R.RDO_MAN_POUR) 34 = false → exec (.manPourGo p v) s =
      s.wrote p R.RDO_MAN_POUR { m.wb R.RDO_MAN_POUR 34 true with
        rdo := { m.rdo with queue := m.rdo.queue ++ [.manual (v.toNat / 2 ^ 24 % 4) (v.toNat % 2 ^ 16)] } }) ∧
    (d.rdo.serving = none → d.rdo.queue = .manual node mask :: rest →
      d.seq.lpStart ≠ some d.tick ∨ d.rdo.pour.isSome = true ∨ bit (d.rd R.RDO_CTRL) 0 = false → exec .pourStart s = s.stays) ∧
    (mayStart → d.rdo.queue = .manual node mask :: rest → d.nodeHeldByRecord node = false → d.holdOf node ≠ 0 →
      steeps node &&& d.holdOf node = 0 → ∃ (y : Dev) (q : Pour), exec .pourStart s = s.goes y ∧ poured y node (d.holdOf node) (wins mask) q ∧
        q.manual = true ∧ q.num = BitVec.allOnes 36 ∧ y.rdo.lastTry = none ∧ bit (y.rd R.RDO_MAN_POUR) 34 = false) ∧
    (mayStart → d.rdo.queue = .manual node mask :: rest → d.nodeHeldByRecord node = false → d.holdOf node ≠ 0 →
      steeps node &&& d.holdOf node ≠ 0 → exec .pourStart s = s.goes { d with rdo := { d.rdo with lastTry := some d.tick } }) ∧
    (∀ w, d.dark = false → d.seq.lpStart = some d.tick → d.rdo.pour = none → bit (d.rd R.RDO_CTRL) 0 = true → d.rdo.lastTry ≠ some d.tick →
      d.rdo.serving = none → d.rdo.queue = .manual node mask :: rest → d.rdo.idleWant = some w → d.rdo.idleDone < w →
      exec .pourStart s = s.goes { d with rdo := { d.rdo with lastTry := some d.tick, idleDone := d.rdo.idleDone + 1 } }) ∧
    (mayStart → d.rdo.queue = .manual node mask :: rest → d.nodeHeldByRecord node = true ∨ d.holdOf node = 0 →
      ∃ y : Dev, exec .pourStart s = s.goes y ∧ y.rdo.pour = none ∧ y.rdo.queue = rest ∧ y.stp = d.stp ∧ y.mem = d.mem ∧
        field (y.rd R.RDO_MAN_POUR) 34 33 = 1) ∧
    (mayStart → d.rdo.queue = .frame r :: rest → r.nextPresent 0 = some i → steeps x.node &&& x.cover = 0 →
      ∃ (y : Dev) (q : Pour) (sv : Serving), exec .pourStart s = s.goes y ∧ poured y x.node x.cover (wins (field (d.rd R.RDO_WIN_MASK) 15 0)) q ∧ q.manual = false ∧
        q.num = r.num ∧ q.inf = i ∧ y.rdo.serving = some sv ∧ sv.nextInf = i + 1 ∧ sv.wins = some q.wins ∧ sv.rec'.num = r.num) ∧
    (mayStart → d.rdo.queue = .frame r :: rest → r.nextPresent 0 = none →
      exec .pourStart s = s.stays ∧ ∃ y : Dev, exec .emptyRecordTake s = s.goes y ∧ y.rdo.queue = rest ∧ y.rdo.serving = none ∧
        y.rdo.ready = d.rdo.ready ++ [⟨r, wins (field (d.rd R.RDO_WIN_MASK) 15 0), []⟩] ∧ y.rdo.pour = none ∧
        y.stp = d.stp ∧ y.mem = d.mem)

/-- The next row of a pour starts on a boundary when its bank is free with a free buffer; with no buffer the start moves, each row's start is counted once (DEDUCED, log entry 170), and the first such is logged. The row's charge moves out of its segments then. At the end of its conversion the bank hands over the codes of its inputs, over-range codes counted, a code the nearest one to its input, below the top and above code zero; its write frees the
buffer; the last row past its step 3 clears what the pour left; and the pour ends with its duration, its count and event 7, its area closed by the descriptor. -/
def Obligations.RowsAndPourEnd : Prop :=
  ∀ (s : State) (q : Pour) (b : Fin 4) (row : Nat) (rest : List Nat) (x : RowInput) (r : RowBuf),
    let d := s.dev.hold
    let due := d.dark = false ∧ d.rdo.pour = some q ∧ d.seq.lpStart = some d.tick ∧ q.start + 2000 ≤ d.tick ∧ q.lastTry ≠ some d.tick ∧
      q.converting = [] ∧ q.rowsLeft = row :: rest ∧ row % 4 = b.val ∧ q.bankFree[b] ≤ d.tick
    let ended := q.start + busiest q.total * rowTime q.res + 8000
    let closes := d.dark = false ∧ d.rdo.pour = some q ∧ q.rowsLeft = [] ∧ q.converting = [] ∧ q.buffers = [] ∧ q.cleared = true ∧
      d.stp.clears = [] ∧ d.tick ≤ ended
    (due → q.hasBuffer b.val = true → (rest = [] ∨ ∃ y l, rest = y :: l ∧ y % 4 = b.val) → exec .rowStart s = s.goes ((d.transferRow q row).2.setPour { q with
      lastTry := some d.tick, rowsLeft := rest, converting := [(b.val, ⟨row, d.tick, [], [], [], d.rowCharge q row⟩)], lastStart := some d.tick,
      bankFree := q.bankFree.set b.val (d.tick + rowTime q.res) b.isLt })) ∧
    (due → q.hasBuffer b.val = false →
      let m := d.setPour { q with lastTry := some d.tick, backlog := true, movedRow := some row }
      let moved := if q.movedRow = some row then m else m.bump R.RDO_BACKLOG_COUNT
      exec .rowStart s = s.goes (if q.backlog then moved
        else moved.log Ev.RDO_BACKLOG q.node (if q.manual then 0xFFFFFFFFF else q.num.toNat))) ∧
    (d.dark = false → d.rdo.pour = some q → q.converting = [(b.val, r)] → q.hasBuffer b.val = true →
      d.tick ≤ r.started + rowTime q.res - 40 →
      let codes := q.activeCodes b.val r x.active
      ∃ y : Dev, exec (.rowHandover b x) s = s.goes y ∧ y.tick = r.started + rowTime q.res - 40 ∧ y.rdo.pour = some { q with
          converting := [], buffers := q.buffers ++ [(b.val, { r with
            codes := codes, left := q.edgeCodes b.val r 0 0 8 x.left, right := q.edgeCodes b.val r 14384 24 9 x.right })] } ∧
        y.rd (R.CNV_OVR_COUNTb b.val) = satAdd (d.rd (R.CNV_OVR_COUNTb b.val))
          (codes.filter (fun c => c == overCode q.res)).length ∧
        (∀ a, a ≠ R.CNV_OVR_COUNTb b.val → y.rd a = d.rd a) ∧ y.mem = d.mem) ∧
    (∀ (start res bank unit : Nat) (y : Int),
      let k := columnCode start res bank unit y
      (256 * topCode res + 128 < y → k = overCode res) ∧ (y ≤ 128 → k = 0) ∧ k ≤ overCode res ∧
      (128 < y → y + 512 < 256 * topCode res + 128 → (256 * k - y : Int).natAbs ≤ 128)) ∧
    (d.dark = false → d.rdo.pour = some q → q.buffers.find? (fun c => c.1 == b.val) = some (b.val, r) →
      let q' := { q with buffers := q.buffers.erase (b.val, r), done := q.done ++ [r] }
      exec (.rowWriteDone b) s = s.goes ((if q.dropped then d
        else if r.row < 15 then d.putSamples (r.row % 4) (q.base + 64) (perWord q.res false) (r.row * 14336) r.codes
        else d.writeRow q' r).setPour q')) ∧
    (d.dark = false → d.rdo.pour = some q → q.rowsLeft = [] → q.cleared = false → q.converting = [] →
      let t := match q.lastStart with
        | some t => t + 200
        | none => q.start + 2000
      let left := d.holdOf q.node &&& q.cover
      d.tick ≤ t → exec .pourNodeClear s = s.goes (let y := (d.to t).setPour { q with cleared := true }
        if left = 0 then y else { y with stp := { y.stp with clears := y.stp.clears ++ [⟨q.node, left, false⟩] } })) ∧
    (closes → q.dropped = true → q.manual = true →
      exec .pourEnd s = s.goes (let y := ((d.to ended).wf R.RDO_LAST_INFO 31 0 (ended - q.start)).bump R.RDO_POUR_COUNT
        { y with rdo := { y.rdo with pour := none }, cal := { y.cal with idleFrom := ended } }.post 7 y.tb)) ∧
    (closes → q.dropped = false → q.base + 64 ≤ d.usableTop → ∃ y : Dev, exec .pourEnd s = s.goes y ∧ y.rdo.pour = none ∧
      y.tick = ended ∧ (∀ k, k < 64 → y.memWord (q.base + k) = q.descriptor.getD k 0))
/-! ### Pixel pipeline and frame memory -/

/-- PIP starts the oldest ready frame when it is enabled and idle and its output area fits, discards one with a dropped pour, and otherwise waits; at the end the lines and the header stand in the output area, the frame is counted and event 8 posted. SWAP takes the
staged map for the next frame start or refuses it, dropping one that waited (the model's choice, notes/assumptions/221.md); EXT and the preview enable ask for their claims. A pixel loses its clamp and its column offset, takes the rounded mean of its good neighbours when it is defective and the zone gain,
blends over the infusions of its candidates by exposure, with a crossfade between the two levels, and is companded or cut to its field as R190 gives it. -/
def Obligations.PipelineFrames : Prop :=
  ∀ (s : State) (p : Owner) (v : Word) (f : ReadyFrame) (rest : List ReadyFrame) (o : OutFrame) (b : Nat) (s1 : Dev) (m : List Word),
    let d := s.dev.hold
    let c := d.rd R.PIP_CTRL
    let start := d.dark = false ∧ d.rdo.ready = f :: rest ∧ (∀ g ∈ f :: rest, g.pours.any (·.dropped) = false)
    let swap := s.ready.storeClear R.PIP_DMAP_CTRL 0x100000000 0x200000000 (v ||| BitVec.ofNat 36 (2 ^ 35))
    let ext := s.ready.storeClear R.PIP_DMAP_CTRL 0x100000000 0x200000000 (v ||| BitVec.ofNat 36 (2 ^ 32))
    let pv := s.ready.store R.PIP_PREVIEW 0xFFFFFF (v ||| 1)
    let staged := readMap (fun i => Cells.get (fun _ => (0 : Word)) s.ready.pip.staging i) 262081 0 0
    (d.dark = false → d.rdo.ready = f :: rest → f.pours.any (·.dropped) = true → exec .pipFrameStart s =
      s.goes (({ d with rdo := { d.rdo with ready := rest } }.bump R.MEM_FRAME_DROPPED).pipReleases f.rec'.serial)) ∧
    (start → d.pip.busy = true ∨ bit c 0 = false ∨ (field c 13 12 = 1 ∧ d.lnkReady = false) → exec .pipFrameStart s = s.stays) ∧
    (start → field c 13 12 ≠ 1 → d.placeOut (outAreaWords (field c 10 8) f.wins) f.rec'.num
        (f.wins.flatMap (fun w => List.replicate w.rows (lineWords (field c 10 8) w))) = none → exec .pipFrameStart s = s.stays) ∧
    (start → d.pip.busy = false → bit c 0 = true → field c 13 12 = 0 → d.mem.ecc = [] →
      d.placeOut (outAreaWords (field c 10 8) f.wins) f.rec'.num
        (f.wins.flatMap (fun w => List.replicate w.rows (lineWords (field c 10 8) w))) = some (b, s1) →
      ∃ (y : Dev) (q : OutFrame), exec .pipFrameStart s = s.goes y ∧ y.pip.busy = true ∧ y.pip.lastStart = some d.tick ∧ y.rdo.ready = rest ∧
        y.pip.frame = some q ∧ q.num = f.rec'.num ∧ q.stamp = f.rec'.stamp ∧ q.status = f.rec'.status ∧ q.fmt = field c 10 8 ∧
        q.base = some b ∧ y.pip.dmap = d.pip.dmapNext.getD d.pip.dmap ∧ y.mem.outs = s1.mem.outs ∧ y.lnk.frames = d.lnk.frames) ∧
    (d.dark = false → d.pip.frame = some o → d.pip.toLnk = false → d.pip.pvImage = none → o.base = some b →
      32 + o.body.length ≤ o.len → b + toBeat o.len ≤ d.usableTop → ∃ y : Dev, exec .pipFrameEnd s = s.goes y ∧ y.pip.busy = false ∧ y.pip.frame = none ∧
        (∀ k, k < 32 → y.memWord (b + k) = o.header.getD k 0) ∧
        (∀ k, k < o.body.length → y.memWord (b + 32 + k) = o.body.getD k 0) ∧
        (∀ a, a < b ∨ b + toBeat o.len ≤ a → y.memWord a = d.memWord a) ∧
        y.rd R.PIP_FRAME_COUNT = satInc (d.rd R.PIP_FRAME_COUNT) ∧ y.seq = (d.post 8 d.tb).seq) ∧
    (Now d p → bit v 32 = false → bit (s.ready.rd R.PIP_DMAP_CTRL) 32 = false → staged = some m →
      exec (.dmapSwap p v) s = s.wrote p R.PIP_DMAP_CTRL { swap with pip := { swap.pip with dmapNext := some m } }) ∧
    (Now d p → bit v 32 = false → bit (s.ready.rd R.PIP_DMAP_CTRL) 32 = false → staged = none →
      exec (.dmapSwap p v) s = s.wrote p R.PIP_DMAP_CTRL
        (({ swap with pip := { swap.pip with dmapNext := none } }.wf R.PIP_DMAP_CTRL 33 33 1).log Ev.DMAP_INVALID 0 0)) ∧
    (Now d p → bit v 35 = false → exec (.dmapExtEnable p v) s = s.wrote p R.PIP_DMAP_CTRL (ext.askClaim 8 0 [0x030])) ∧
    (Now d p → exec (.previewEnable p v) s = s.wrote p R.PIP_PREVIEW
      ((if bit (s.ready.rd R.PIP_PREVIEW) 0 then pv else { pv with pip := { pv.pip with pvCount := 0 } }).askClaim 9 0 [0x030])) ∧
    (∀ (a : Int) (k : Nat), 1 ≤ k → (2 : Int) ^ k * rnd a k ≤ a + 2 ^ (k - 1) ∧ a + 2 ^ (k - 1) < (2 : Int) ^ k * (rnd a k + 1)) ∧
    (∀ (t : StageSet) (f : PourFacts) (w : Win) (clamp expo : Nat → Nat) (j i code : Nat),
      let z := zoneAt (w.colOf i) (w.rowOf j)
      w.bx = 1 → w.by' = 1 → w.sum = false → t.defect = false → f.cover.getLsbD z = true → expo z ≠ 0 →
      stage12 t f w clamp expo j i none = { sat := true } ∧
      stage12 t f w clamp expo j i (some code) = { v := (16 * code : Int) - clamp (w.rowOf j) -
        (if t.colofs then scaledOffset f.res (t.ofs (w.rowOf j % 4) (w.colOf i)) else 0) }) ∧
    (∀ (ext : Bool) (rows : List (List Px)) (pre post : List Px) (l q r : Px) (j : Nat), rows.getD j [] = pre ++ l :: q :: r :: post →
      l.bad = false → l.absent = false → r.bad = false → r.absent = false → q.sat = false →
      replaceAt ext rows j (pre.length + 1) q = ({ q with v := rnd (l.v + r.v) 1, sat := l.sat || r.sat, repl := true }, false)) ∧
    (∀ (t : StageSet) (w : Win) (j i : Nat) (row : List Px) (q : Px), t.zgain = true → row[i]? = some q →
      (stage4 t w j row)[i]? = some { q with v := rnd (q.v * t.gain (zoneAt (w.colOf i) (w.rowOf j))) 10 }) ∧
    (∀ (set : BlendSet) (x z : Cand),
      let seen := fun (c : Cand) => c.px.absent = false ∧ c.t ≠ 0
      let e := fun (c : Cand) => (match c.res with
        | 0 => 6
        | 2 => 2
        | _ => 4) - (if c.cg = 1 then 2 else 0)
      let level := fun (c : Cand) => match c.res with
        | 0 => c.px.v * 4
        | 2 => c.px.v / 4
        | _ => c.px.v
      let value := fun (c : Cand) => rnd (c.px.v * 2 ^ e c * (min ((2 ^ 16 * set.tref + c.t / 2) / c.t) (2 ^ 36 - 1) : Nat)) 16
      let linear := fun (y : Int) => (min (max (rnd y 6 + set.offset) 0) 16777214).toNat
      let lo := (set.hi : Int) - 2 ^ set.band
      set.tref ≠ 0 → seen x → x.px.sat = false →
      blend set 1 [x] = { l := linear (value x), src := x.inf, repl := x.px.repl } ∧
      (seen z → z.px.sat = false → z.t < x.t → 1 ≤ set.band → 2 ^ set.band ≤ set.hi →
        (level x ≤ lo → blend set 1 [x, z] = { l := linear (value x), src := x.inf, repl := x.px.repl }) ∧
        (lo < level x → level x ≤ set.hi → blend set 1 [x, z] =
          { l := linear ((value x * (set.hi - level x) + value z * (level x - lo) + 2 ^ (set.band - 1)) / 2 ^ set.band),
            src := if level x - lo < 2 ^ (set.band - 1) then x.inf else z.inf, repl := x.px.repl || z.px.repl }) ∧
        ((set.hi : Int) < level x → blend set 1 [x, z] = { l := linear (value z), src := z.inf, repl := z.px.repl })) ∧
      (seen z → z.px.sat = true → blend set 1 [z] = { l := 16777215, src := z.inf, satAll := true }) ∧ blend set 1 [] = { l := 0, src := 0 }) ∧
    (∀ seg ∈ [(0, 131072, 0, 0), (131072, 262144, 2, 131072), (262144, 524288, 4, 163840), (524288, 1048576, 5, 180224), (1048576, 2097152, 6, 196608),
        (2097152, 4194304, 7, 212992), (4194304, 8388608, 8, 229376), (8388608, 16777216, 9, 245760)], ∀ l : Nat, seg.1 ≤ l → l < seg.2.1 →
      compand State.reset.dev.kneeRegs l = seg.2.2.2 + (l - seg.1) / 2 ^ seg.2.2.1) ∧
    (∀ (width res ped : Nat) (q : Px), width = 9 ∨ width = 12 ∨ width = 14 → res ≤ 2 →
      let y := rnd q.v (14 + 2 * res - width) + (ped * 2 ^ width / 4096 : Nat)
      outField width res ped q = if q.absent then 0 else if q.sat ∨ (2 ^ width - 2 : Int) < y then 2 ^ width - 1 else y.toNat)
/-- One round of a channel arbiter grants one beat to the candidate of the lowest rank, the lower index on a tie; a loser counts its loss and waits 2^k rounds; the round granted before runs and is counted; a burst goes on without arbitration up to its break point; masking a requester takes its requests away, and a beat granted to it before is empty. The scrubber reads its next beat
when its time has come, keeps a corrected beat for a write-back that an unwritten beat gets, and a row copied into a spare is remapped. -/
def Obligations.ArbitersScrubAndRemap : Prop :=
  ∀ (s : State) (c : Fin 8) (n m : Fin 10) (row : Nat) (rest : List Nat) (i : Nat) (b : ScrubBack)
    (code : Nat → Word × Word × Nat),
    let d := s.dev.hold
    let ch := d.chan c
    let rank := fun (k : Fin 10) => field (d.rd (R.MEM_RQn_CFG k)) 3 0
    let cand := fun (k : Fin 10) => (ch.rq k).posted ≠ 0 ∧ (ch.rq k).next ≤ ch.round + 1 ∧ d.mem.masked.contains k.val = false
    let beat := d.beatAddr c.val ch.scrubBeat
    let scrubs := d.dark = false ∧ bit (d.rd R.MEM_CTRL) 0 = true ∧ ch.grant = none ∧ ch.occupied = false ∧ ch.back = none ∧ d.chanState c.val < 2 ∧
      d.tick ≤ ch.scrubDue
    let held := fun (cw : Nat) => (d.memWord (2 * cw), d.memWord (2 * cw + 1), 0)
    let spare := if c.val < 4 then R.MEM_SPARE_ROWS_LO else R.MEM_SPARE_ROWS_HI
    let lo := 7 * (c.val % 4)
    (d.dark = false → ch.grant = none → ch.owner = none → ch.extra = false → n ≠ m → cand n → cand m → rank n < rank m ∨ (rank n = rank m ∧ n < m) →
      (∀ o, o ≠ n → o ≠ m → (ch.rq o).posted = 0) → ∃ y : Dev, exec (.arbiterDecision c [] []) s = s.goes y ∧
        let ch' := y.chan c
        ch'.round = ch.round + 1 ∧ ch'.occupied = false ∧ ch'.grant = some n.val ∧ (ch'.rq n).posted = (ch.rq n).posted - 1 ∧ (ch'.rq n).k = 0 ∧
        (ch'.rq m).posted = (ch.rq m).posted ∧ (ch'.rq m).k = min ((ch.rq m).k + 1) 8 ∧
        (ch'.rq m).next = ch.round + 1 + 2 ^ min ((ch.rq m).k + 1) 8 ∧ (∀ e, e ≠ c → y.chan e = d.chan e) ∧
        y.mem.words = d.mem.words) ∧
    (d.dark = false → ch.grant = none → ch.owner = some n.val → ch.extra = false → (ch.rq n).posted ≠ 0 → (ch.rq n).burst % 4 ≠ 0 →
      d.mem.masked.contains n.val = false → ∃ y : Dev, exec (.arbiterDecision c [] []) s = s.goes y ∧ (y.chan c).grant = some n.val ∧
        ((y.chan c).rq n).posted = (ch.rq n).posted - 1 ∧ ∀ o, o ≠ n → ((y.chan c).rq o).k = (ch.rq o).k ∧ ((y.chan c).rq o).posted = (ch.rq o).posted) ∧
    (d.dark = false → ch.extra = true → ch.grant = none → (∀ o, (ch.rq o).first = none ∧ (ch.rq o).posted = 0) →
      exec (.arbiterDecision c [] []) s = s.goes
        (d.setChan c { ch with round := ch.round + 1, extra := false, occupied := true, grant := none, voided := false })) ∧
    (d.dark = false → ch.grant = some n.val → ch.extra = false → (∀ o, (ch.rq o).posted = 0) → (∀ o, (ch.rq o).first = none) →
      exec (.arbiterDecision c [m] []) s = s.goes
        ((if ch.voided || d.mem.masked.contains n.val then d.bump (R.MEM_CHc_WASTED c) else d.bump (R.MEM_RQn_GRANTS n)).setChan c
          (let ch' := { ch with round := ch.round + 1, grant := none, occupied := false, owner := none, voided := false }
           if d.mem.masked.contains m.val then ch' else ch'.setRq m { ch.rq m with posted := 1 }))) ∧
    (d.dark = false → ∃ y : Dev, exec (.requesterMask n true) s = s.goes y ∧ y.mem.masked.contains n.val = true ∧
      (∀ e, (y.chan e).rq n = {} ∧ (y.chan e).voided = ((d.chan e).voided || (d.chan e).grant == some n.val)) ∧ (∀ e o, o ≠ n → (y.chan e).rq o = (d.chan e).rq o) ∧ y.ctl = d.ctl) ∧
    (d.dark = false → exec (.requesterMask n false) s =
      s.goes { d with mem := { d.mem with masked := d.mem.masked.filter (fun x => x != n.val) } }) ∧
    (bit (d.rd R.MEM_CTRL) 0 = false → exec (.scrubRead c) s = s.stays) ∧
    (scrubs → d.mem.ecc = [] → ∃ y : Dev, exec (.scrubRead c) s = s.goes y ∧ y.tick = ch.scrubDue ∧
      (y.chan c).scrubBeat = (if ch.scrubBeat + 1 = 2 ^ 21 then 0 else ch.scrubBeat + 1) ∧
      (y.chan c).scrubDue = ch.scrubDue + max (field (d.rd R.MEM_SCRUB) 23 0) 1 ∧ (y.chan c).back = none ∧
      y.mem.words = d.mem.words ∧ y.evt = d.evt) ∧
    (scrubs → i < 16 → d.mem.ecc = [(beat / 2 + i, 1)] → ∃ y : Dev, exec (.scrubRead c) s = s.goes y ∧
      (y.chan c).back = some { beat := ch.scrubBeat, codes := (List.range 16).map (fun k => held (beat / 2 + k)) } ∧ y.rd R.MEM_CE_COUNT = satInc (d.rd R.MEM_CE_COUNT) ∧
      y.mem.words = d.mem.words ∧ y.mem.ecc = d.mem.ecc) ∧
    (d.dark = false → ch.idleRound = true → ch.back = some b → b.dirty = true → exec (.scrubWriteback c) s = s.goes (d.setChan c { ch with back := none })) ∧
    (d.dark = false → ch.idleRound = true → ch.back = some b → b.dirty = false → b.codes = (List.range 16).map (fun k => code (d.beatAddr c.val b.beat / 2 + k)) → ∃ y : Dev, exec (.scrubWriteback c) s = s.goes y ∧
      (y.chan c).back = none ∧ y.ctl = d.ctl ∧ ∀ cw, let own := d.beatAddr c.val b.beat / 2 ≤ cw ∧ cw < d.beatAddr c.val b.beat / 2 + 16
        (¬ own → y.memWord (2 * cw) = d.memWord (2 * cw) ∧ y.memWord (2 * cw + 1) = d.memWord (2 * cw + 1) ∧
          Cells.get eccZero y.mem.ecc cw = Cells.get eccZero d.mem.ecc cw) ∧
        (own → (y.memWord (2 * cw), y.memWord (2 * cw + 1), Cells.get eccZero y.mem.ecc cw) = code cw)) ∧
    (ch.marked = [] → exec (.rowRemapDone c) s = s.stays) ∧
    (d.dark = false → ch.marked = row :: rest → ch.idleRound = false → exec (.rowRemapDone c) s = s.stays) ∧
    (d.dark = false → ch.marked = row :: rest → ch.idleRound = true → d.mem.ecc = [] → exec (.rowRemapDone c) s =
      s.goes (let y := d.setChan c { ch with marked := rest, remapped := ch.remapped ++ [row] }
        (y.wf spare (lo + 6) lo (field (d.rd spare) (lo + 6) lo - 1)).log Ev.MEM_REMAP c.val row))

/-- APPLY of MEM.RING_CTRL checks that no region overlaps another, that all lie in usable memory and that the rings are idle; it takes the regions with empty rings when all hold, and else reports the first check that fails. A release of n areas releases the n oldest that
may be, and the space of the oldest is free at once. -/
def Obligations.RingsAndReleases : Prop :=
  ∀ (s : State) (p : Owner) (v : Word) (a : Area) (rest : List Area),
    let d := s.ready.storeClear R.MEM_RING_CTRL 1 0x400000000 (v ||| BitVec.ofNat 36 (2 ^ 35))
    let w := fun (r : Nat) => field (d.rd r) 29 0
    let pb := w R.MEM_POUR_BASE
    let ps := w R.MEM_POUR_SIZE
    let ob := w R.MEM_OUT_BASE
    let os := w R.MEM_OUT_SIZE
    let vb := w R.MEM_PV_BASE
    let vs := 2 * 602112
    let meets := (overlaps pb ps ob os || overlaps pb ps vb vs || overlaps ob os vb vs) = true
    let outside := d.usableTop < pb + ps ∨ d.usableTop < ob + os ∨ d.usableTop < vb + vs
    let inUse := ¬ (d.mem.pours = [] ∧ d.mem.outs = [] ∧ d.rdo.pour = none ∧ d.pip.busy = false)
    let refused := fun (r : Nat) => (d.wf R.MEM_RING_CTRL 34 32 (4 + r)).log Ev.MEM_REGION_REFUSED 0 0
    let e := s.ready
    let n := v.toNat % 2 ^ 16
    let pours := fun (l : List Area) => { e with mem := { e.mem with pours := l } }
    let outs := fun (l : List Area) => { e with mem := { e.mem with outs := l } }
    (Now s.dev p → ¬ meets → ¬ outside → ¬ inUse → exec (.ringApply p v) s = s.wrote p R.MEM_RING_CTRL { d with mem := { d.mem with
      pourBase := pb, pourSize := ps, outBase := ob, outSize := os, pvBase := vb, pourHead := pb, outHead := ob } }) ∧
    (Now s.dev p → meets → exec (.ringApply p v) s = s.wrote p R.MEM_RING_CTRL (refused 1)) ∧
    (Now s.dev p → ¬ meets → outside → exec (.ringApply p v) s = s.wrote p R.MEM_RING_CTRL (refused 2)) ∧
    (Now s.dev p → ¬ meets → ¬ outside → inUse → exec (.ringApply p v) s = s.wrote p R.MEM_RING_CTRL (refused 3)) ∧
    (Now s.dev p → e.mem.pours = a :: rest → a.released = false → a.deferred = false → n = 1 → (∀ x ∈ rest, x.released = false) →
      (a.frame = none ∨ a.pipDone = true → exec (.pourRelease p v) s = s.wrote p R.MEM_POUR_RELEASE (pours rest)) ∧
      (a.frame.isSome = true → a.pipDone = false → exec (.pourRelease p v) s = s.wrote p R.MEM_POUR_RELEASE
        (if bit (e.rd R.MEM_RING_CTRL) 0 then pours ({ a with deferred := true } :: rest)
         else pours (pruneAreas (releaseAreas e.mayRelease 1 (a :: rest)))))) ∧
    (Now s.dev p → (∀ x ∈ e.mem.pours, x.released = false ∧ x.deferred = false ∧ (x.frame = none ∨ x.pipDone = true)) →
      exec (.pourRelease p v) s = s.wrote p R.MEM_POUR_RELEASE (pours (e.mem.pours.drop n))) ∧
    (Now s.dev p → n = 0 ∨ e.mem.pours = [] → (∀ x ∈ e.mem.pours, x.released = false) →
      exec (.pourRelease p v) s = s.wrote p R.MEM_POUR_RELEASE e) ∧
    (Now s.dev p → e.mem.outs = a :: rest → a.released = false → a.deferred = false → n = 1 → (∀ x ∈ rest, x.released = false) →
      exec (.outRelease p v) s = s.wrote p R.MEM_OUT_RELEASE
        (outs (if a.frame = none ∨ a.pipDone = true then rest else { a with deferred := true } :: rest))) ∧
    (Now s.dev p → (∀ x ∈ e.mem.outs, x.released = false ∧ x.deferred = false ∧ (x.frame = none ∨ x.pipDone = true)) →
      exec (.outRelease p v) s = s.wrote p R.MEM_OUT_RELEASE (outs (e.mem.outs.drop n))) ∧
    (Now s.dev p → n = 0 ∨ e.mem.outs = [] → (∀ x ∈ e.mem.outs, x.released = false) →
      exec (.outRelease p v) s = s.wrote p R.MEM_OUT_RELEASE e)
/-! ### Frame link -/

/-- With the link up a packet boundary sends the gap, then the next unit: the line packet of the frame in flight, or, when one is owed, the waiting packet of VC3; words that are missing hold it after the blocks before them until they are there. The last line
is followed by the FE and its trailer, held for SEC when a tag is due. A block whose lane is due its marker waits, with the blocks after it, behind the marker. A completed preview image starts its frame when its path is trained. -/
def Obligations.LinkSendsUnits : Prop :=
  ∀ (s : State) (idle n : Nat) (c : TxFrame) (ln : OutLine) (more : List OutLine) (q : LinkPacket) (rest : List LinkPacket) (r : Rest)
    (b : Fin 2) (fe : BitVec 64),
    let d := s.dev.hold
    let l := d.lnk
    let sendAll := fun (l : Lnk) (bs : List Block) => bs.foldl Lnk.stream l
    let gap := sendAll { l with sent := [] } (List.replicate idle idleBlock)
    let bs := packet 0 c.frame.fmt ln.win ln.row (field c.frame.num 15 0) ln.sat ln.ue ln.words
    let side := packet 3 7 q.kind l.seq3 (field l.lastFs 15 0) 0 false q.words
    let room := l.mustMark = false ∧ gap.mustMark = false
    let up := d.dark = false ∧ l.state = 2 ∧ l.stalled = none ∧ l.endEarly = false ∧ l.pv = none ∧ l.owe = false ∧ l.cur = some c ∧
      c.tagWait = none ∧ room ∧ c.area = none ∧ c.fsSent = true ∧ c.rest = ln :: more ∧ c.lens = []
    let c' := { c with rest := more, holdover := c.holdover || bit (d.rd R.CLK_STATUS) 31, ue := c.ue || ln.ue, lines := c.lines + 1,
                       covered := if c.auth then c.covered ++ bs.map (·.payload) else [] }
    let put := fun (l : Lnk) => s.goes { d with lnk := l }
    let route := field (d.rd R.LNK_PV_CTRL) 2 1
    (l.state ≠ 2 ∨ l.mustMark = true → exec (.linkPacketBoundary false idle none) s = s.stays) ∧
    (∀ (x : Lnk) (blk : Block), (x.mustMark = true ↔ x.behind ≠ [] ∨ ∃ h : x.map.getD (x.k % x.lanes) 63 < 35, 16383 ≤ x.pos[x.map.getD (x.k % x.lanes) 63]) ∧
      (x.mustMark = true → x.stream blk = { x with behind := x.behind ++ [blk] }) ∧ (x.mustMark = false → x.stream blk = x.stripe blk)) ∧
    (up → more ≠ [] → exec (.linkPacketBoundary false idle none) s = put (sendAll { gap with cur := some c', owe := true } bs)) ∧
    (up → more ≠ [] → exec (.linkPacketBoundary false idle (some 0)) s =
      put { sendAll gap [] with cur := some c', owe := true, stalled := some ⟨bs, 0, false, 0⟩ }) ∧
    (up → more ≠ [] → 0 < n → n < bs.length → exec (.linkPacketBoundary false idle (some n)) s = s.goes (
      let y : Dev := { d with lnk := sendAll { gap with cur := some c', owe := true } (bs.take n) }
      let z := y.bump R.LNK_UNDERRUN_COUNT
      let w := if c.underrun then z else z.log Ev.LINK_UNDERRUN 0 0
      { w with lnk := { w.lnk with cur := some { c' with underrun := true }, stalled := some ⟨bs.drop n, 0, false, 0⟩ } })) ∧
    (up → more = [] → c.auth = false → c.after = .nothing → ∃ y : Dev, exec (.linkPacketBoundary false idle none) s = s.goes y ∧
      y.lnk.cur = none ∧ y.lnk.k + y.lnk.behind.length = l.k + idle + bs.length + 6 ∧ y.rd R.LNK_FRAMES_SENT = satInc (d.rd R.LNK_FRAMES_SENT) ∧
      y.rd R.LNK_LAST_FRAME = c.frame.num ∧ y.mem.words = d.mem.words) ∧
    (up → more = [] → c.auth = true → exec (.linkPacketBoundary false idle none) s =
      put (sendAll { gap with owe := true, cur := some { c' with
        tagWait := some (BitVec.ofNat 64 (feValue ({ d with lnk := gap }.fe0 c'))) } } bs)) ∧
    (d.dark = false → l.cur = some c → c.tagWait = some fe → c.after = .nothing → ∃ y : Dev, exec .tagReady s = s.goes y ∧
      y.lnk.cur = none ∧ y.lnk.k + y.lnk.behind.length = l.k + l.behind.length + 6 ∧ y.rd R.SEC_TAG_COUNT = satInc (d.rd R.SEC_TAG_COUNT) ∧
      y.rd R.LNK_FRAMES_SENT = satInc (d.rd R.LNK_FRAMES_SENT) ∧ y.rd R.LNK_LAST_FRAME = c.frame.num) ∧
    (d.dark = false → l.state = 2 → l.stalled = none → l.endEarly = false → l.pv = none → l.owe = true → l.cur = some c → c.tagWait = none → room →
      bit (d.rd R.LNK_CTRL) 0 = true → l.vc3 = q :: rest → exec (.linkPacketBoundary false idle none) s =
      put (sendAll { gap with owe := false, vc3 := rest, seq3 := (l.seq3 + 1) % 16384 } side)) ∧
    (d.dark = false → l.mustMark = false → l.stalled = some r → r.last = false → l.endEarly = false → l.pv = none →
      exec (.linkPayloadReady false idle none) s = s.goes (let y := d.markHoldover r.vc
        { y with lnk := sendAll { y.lnk with sent := [], stalled := none } (List.replicate idle idleBlock ++ r.blocks) })) ∧
    (d.dark = false → l.stalled = none → exec (.linkPayloadReady false idle none) s = put { l with sent := [] }) ∧
    (d.dark = false → l.pv = none → d.pip.nextBuf = some b → bit (d.rd R.LNK_PV_CTRL) 0 = true → bit (d.rd R.LNK_CTRL) 0 = true →
      d.pathUp route = true → l.state ≠ 3 → (∀ t, l.lastPvFs = some t → t + (d.rd R.LNK_PV_INTERVAL).toNat ≤ d.tick) →
      exec .previewFrameStart s = s.goes (let y := d.setBuf b { d.pip.bufs[b] with st := .sending }
        { y with lnk := { y.lnk with pv := some { buf := b, route := route }, copyBusy := route == 2 } })) ∧
    (l.pv.isSome = true ∨ l.state = 3 ∨ d.pip.nextBuf = none ∨ bit (d.rd R.LNK_PV_CTRL) 0 = false ∨ bit (d.rd R.LNK_CTRL) 0 = false →
      exec .previewFrameStart s = s.stays)

/-- A training starts at RETRAIN, or when the coasting of the link PLL expires; its verdict, with the acknowledgements where it asks for them, forms the lane map, which comes into force at the next marker: the link is then up with a new LANE_GEN. A lane forced to fail,
or failed by its monitor four markers in a row, is taken out at run time; without acknowledgement the repeated training ends with the link down. -/
def Obligations.LinkTrains : Prop :=
  ∀ (s : State) (p : Owner) (v : Word) (ok : BitVec 35) (t : Training) (pv : Bool),
    let d := s.dev.hold
    let l := d.lnk
    let e := s.ready
    let started := fun (x : Dev) =>
      let y := x.bump R.LNK_RETRAINS;
      ({ y with lnk := { y.lnk with
          idle := false, ackMode := bit (x.rd R.LNK_CTRL) 11, monFail := List.replicate 35 0, remap := false,
          endEarly := false, frames := [], stalled := none, pvUp := false, copyUp := false,
          pos := if y.lnk.idle then Vector.replicate 35 16383 else y.lnk.pos, train := some { start := x.tick },
          state := 1 } } : Dev).post 14 y.tb
    let clear := fun (l : Lnk) => l.cur = none ∧ l.pv = none ∧ l.stalled = none ∧ l.pvStalled = none
    let ctl := fun (w : Word) => e.store R.LNK_CTRL 0x1FF01 w
    let retrain := ctl (v ||| BitVec.ofNat 36 (2 ^ 35))
    let lane := v.toNat % 64
    let judge := d.dark = false ∧ l.train = some t ∧ t.stage = .verdict ∧ d.tick ≤ t.start + twoMarkers l.rate ∧
      bit (d.rd R.CLK_STATUS) 32 = true ∧ l.forced = 0 ∧ t.ackFail = 0 ∧ d.asks = []
    let at_ := t.start + twoMarkers l.rate
    let timeout := (d.rd R.LNK_TRAIN_TIMEOUT).toNat
    let t' := { t with stage := .ack, passed := ok.toNat, deadline := at_ + timeout }
    let lacks := fun (x : Dev) (t : Training) => (x.ackNeeded t).all (fun n => t.acked.testBit n) = false
    (Now d p → bit v 10 = false → bit (e.rd R.LNK_CTRL) 10 = false →
      (e.dark = true ∨ e.lnk.state = 1 ∨ e.boot.step.isSome = true ∨ bit (e.rd R.CLK_STATUS) 30 = true →
        exec (.linkRetrain p v) s = s.wrote p R.LNK_CTRL retrain) ∧
      (e.dark = false → e.lnk.state ≠ 1 → e.boot.step = none → bit (e.rd R.CLK_STATUS) 30 = false → e.lnk.state = 2 → clear e.lnk →
        field v 9 8 = e.lnk.rate → exec (.linkRetrain p v) s = s.wrote p R.LNK_CTRL (started retrain)) ∧
      (e.dark = false → e.lnk.state ≠ 1 → e.boot.step = none → bit (e.rd R.CLK_STATUS) 30 = false → e.lnk.state ≠ 2 → clear e.lnk →
        field v 9 8 = e.lnk.rate → exec (.linkRetrain p v) s = s.wrote p R.LNK_CTRL (started retrain))) ∧
    (judge → l.ackMode = true → lacks d t' → exec (.linkTrainVerdict ok) s = s.goes (let y := d.to at_
      { y with lnk := { y.lnk with train := some t' } })) ∧
    (judge → l.ackMode = false → ok = BitVec.allOnes 35 → l.wide = true → l.map = List.range 32 → bit (d.rd R.LNK_CTRL) 10 = false →
      ∃ y : Dev, exec (.linkTrainVerdict ok) s = s.goes y ∧ y.lnk.train = some { t with stage := .marker, passed := ok.toNat } ∧
        y.lnk.map = l.map ∧ y.lnk.known = true ∧ y.rd R.LNK_LANE_FAIL = 0 ∧ y.lnk.state = l.state ∧ y.tick = at_) ∧
    (Now d p → e.lnk.train = none → exec (.trainAck p v) s = s.wrote p R.LNK_TRAIN_ACK e) ∧
    (Now d p → e.lnk.train = some t → t.stage ≠ .ack ∨ lacks e { t with acked := t.acked ||| v.toNat % 2 ^ 34 } →
      exec (.trainAck p v) s = s.wrote p R.LNK_TRAIN_ACK
        { e with lnk := { e.lnk with train := some { t with acked := t.acked ||| v.toNat % 2 ^ 34 } } }) ∧
    (d.dark = false → l.train = some t → t.stage = .ack → d.tick ≤ t.deadline → t.repeated = true → lacks d t → l.state ≠ 3 → d.asks = [] →
      exec .trainAckTimeout s = s.goes (let y := d.to t.deadline
        ({ y with lnk := { y.lnk with train := none, state := 3 } }.post 14 y.tb).log Ev.LINK_TRAIN_FAIL 0 0)) ∧
    (l.idle = true → d.asks = [] → exec (.alignmentMarker pv ok) s = s.stays) ∧
    (d.dark = false → d.asks = [] → l.idle = false → l.train = some t → t.stage = .marker → l.state = 1 → ok = BitVec.allOnes 35 →
      ∃ y : Dev, exec (.alignmentMarker false ok) s = s.goes y ∧ y.lnk.state = 2 ∧ y.lnk.train = none ∧ y.lnk.gen = (l.gen + 1) % 256 ∧
        y.lnk.pvUp = t.passed.testBit 34 ∧ y.lnk.copyUp = (t.passed.testBit 33 && !l.forced.testBit 33) ∧ y.lnk.map = l.map ∧
        y.lnk.amSeq = l.amSeq + 1 ∧ y.lnk.pvSeq = l.pvSeq ∧ y.lnk.markers.length = 3 ∧
        (l.behind = [] → l.laneBehind = [] → ∀ i : Fin 35, i.val < 34 → y.lnk.pos[i] = 0)) ∧
    (d.dark = false → d.asks = [] → l.idle = false → ∃ y : Dev, exec (.alignmentMarker true ok) s = s.goes y ∧ y.lnk.pvSeq = l.pvSeq + 1 ∧
      y.lnk.amSeq = l.amSeq ∧ y.lnk.gen = l.gen ∧ y.lnk.map = l.map ∧ y.lnk.state = l.state ∧ y.lnk.train = l.train ∧
      y.lnk.markers.length = 1) ∧
    (Now d p → lane ≤ 33 → bit (e.rd R.LNK_LANE_FAIL) lane = false → e.lnk.state = 2 → exec (.laneForceFail p v) s =
      s.wrote p R.LNK_LANE_CMD (
        let x := { e with lnk := { e.lnk with forced := e.lnk.forced ||| 2 ^ lane } }
        let y := (x.wf R.LNK_LANE_FAIL lane lane 1).log Ev.LINK_LANE_FAIL 0 0
        { y with lnk := { y.lnk with remap := true, copyUp := y.lnk.copyUp && lane != 33 } })) ∧
    (Now d p → lane ≤ 33 → bit (e.rd R.LNK_LANE_FAIL) lane = false → e.lnk.state ≠ 2 → e.lnk.train = none → exec (.laneForceFail p v) s =
      s.wrote p R.LNK_LANE_CMD (
        let x := { e with lnk := { e.lnk with forced := e.lnk.forced ||| 2 ^ lane } }
        (x.wf R.LNK_LANE_FAIL lane lane 1).log Ev.LINK_LANE_FAIL 0 0)) ∧
    (Now d p → lane ≤ 33 → bit (e.rd R.LNK_LANE_FAIL) lane = true → exec (.laneForceFail p v) s =
      s.wrote p R.LNK_LANE_CMD { e with lnk := { e.lnk with forced := e.lnk.forced ||| 2 ^ lane } }) ∧
    (Now d p → lane ≤ 33 → exec (.laneReturn p v) s = s.wrote p R.LNK_LANE_CMD (let y := e.wf R.LNK_LANE_FAIL lane lane 0
        { y with lnk := { y.lnk with forced := lanesLess y.lnk.forced (2 ^ lane) } })) ∧
    (Now d p → 33 < lane → exec (.laneForceFail p v) s = s.wrote p R.LNK_LANE_CMD e ∧
      exec (.laneReturn p v) s = s.wrote p R.LNK_LANE_CMD e) ∧
    (Now d p → exec (.previewCopyEnable p v) s = s.wrote p R.LNK_PV_CTRL ((e.store R.LNK_PV_CTRL 7 5).askClaim 11 0 [0x041])) ∧
    (Now d p → bit v 35 = false → exec (.laneSpareEnable p v) s =
      s.wrote p R.LNK_CTRL ((ctl (v ||| BitVec.ofNat 36 (2 ^ 10))).askClaim 10 0 [0x040, 0x041])) ∧
    (d.dark = false → bit (d.rd R.CLK_STATUS) 31 = true → l.state = 2 → clear l → field (d.rd R.LNK_CTRL) 9 8 = l.rate →
      exec .linkHoldoverExpiry s = s.goes (started (d.to (d.clk.lkSince + 8000000)))) ∧
    (bit (d.rd R.CLK_STATUS) 31 = false ∨ l.state ≠ 2 → exec .linkHoldoverExpiry s = s.stays) ∧
    (d.dark = false → bit (d.rd R.CLK_STATUS) 31 = true → bit (d.rd R.CLK_STATUS) 30 = false → clear l → l.state ≠ 3 →
      exec .linkCoastLimit s = s.goes (let y := (d.to (d.clk.lkSince + 40000000)).wf R.CLK_STATUS 30 30 1
        ({ y with lnk := { y.lnk with idle := true, train := none, frames := [], behind := [], laneBehind := [], pvUp := false, copyUp := false,
                                      copyBusy := false, state := 3 } }.post 14 y.tb).log Ev.LINK_DOWN 0 0)) ∧
    (bit (d.rd R.CLK_STATUS) 31 = false → exec .linkCoastLimit s = s.stays)
/-! ### Timebase and timers -/

/-- LOAD asks for a step of the timebase 16 ticks later, refused with EV_TB_LOCKED while the fabric aligns it; the step loads or adds to a running timebase, which is marked and logged with the difference. A group start falls 16 ticks after its write, or at its time, and starts the enabled channels
of its mask with their counts staggered by STAG. -/
def Obligations.TimebaseStepsAndGroupStarts : Prop :=
  ∀ (s : State) (p : Owner) (v : Word) (x : TbStep) (steps : List TbStep) (g : GroupStart) (starts : List GroupStart) (a b : Fin 16),
    let d := s.dev.hold
    let e := s.ready
    let load := e.storeClear R.TIM_TB_CTRL 0 0x400000000 (v ||| BitVec.ofNat 36 (2 ^ 35))
    let y := d.to x.due
    let tb' := match x.load with
      | some w => w
      | none => y.tb + BitVec.ofInt 72 x.add
    let e' := if bit v 18 then e.wf R.TIM_GSTART 18 18 0 else e
    let mask := v.toNat % 2 ^ 16
    let T := e.tim.times[p.idx]
    let onTim := fun (d : Dev) (t : Tim) => { d with tim := t }
    let quiet := fun (c : Fin 16) => (d.tch c).cntWait = none ∧ (d.tch c).cmpWait = none ∧ field (d.rd (chCfg c)) 31 29 ≠ 3 ∧
      bit (d.rd (chCfg c)) 35 = true ∧ d.chThread c.val = none
    let lap := fun (c : Fin 16) => (d.rd (chReg c 1)).toNat + 1
    let begun := fun (c : Fin 16) (t n : Nat) => { d.tch c with
      running := true, waitGo := false, startAt := none, count := n, period := (d.rd (chReg c 1)).toNat, edges := 0,
      next := some (t + d.chTicks c), left := d.chTicks c }.drive (field (d.rd (chCfg c)) 31 29 == 1 && decide (n < (d.tch c).cmp)) t
    let first := d.dark = false ∧ d.tim.starts = g :: starts ∧ d.tim.timed = none ∧ g.owner.isPath = true ∧ d.tick ≤ g.due ∧ g.mask < 2 ^ 16
    (Now d p → e.fabAligning = true → exec (.tbLoad p v) s = s.wrote p R.TIM_TB_CTRL (load.log Ev.TB_LOCKED 0 0)) ∧
    (Now d p → e.fabAligning = false → exec (.tbLoad p v) s = s.wrote p R.TIM_TB_CTRL (onTim load { load.tim with
      steps := load.tim.steps ++ [⟨e.tick + 16, some (joinWords (e.rd R.TIM_TB_LOAD_LO) (e.rd R.TIM_TB_LOAD_HI)), 0⟩] })) ∧
    (d.tim.steps = [] → exec .tbStep s = s.stays) ∧
    (d.dark = false → d.tim.steps = x :: steps → d.tick ≤ x.due → d.tbRun = true → exec .tbStep s =
      s.goes (({ y with tb := tb', tim := { y.tim with steps := steps }, frm := { y.frm with frame := y.frm.frame.map (fun (o : OpenFrame) =>
        if x.due < o.origin then { o with originStamp := o.originStamp + (tb' - y.tb) } else o) } }.wf R.TIM_TB_CTRL 34 34 1).log Ev.TB_STEP
        (if x.load.isSome then 0 else 1) ((tb' - y.tb).toNat % 2 ^ 36))) ∧
    (d.dark = false → d.tim.steps = x :: steps → d.tbRun = false → exec .tbStep s = s.goes (onTim y { y.tim with steps := steps })) ∧
    (Now d p → bit v 16 = false → exec (.groupStartWrite p v) s = s.wrote p R.TIM_GSTART (if mask = 0 then e' else
      onTim e' { e'.tim with starts := e'.tim.starts ++ [⟨mask, p, e.tick + 16, none, false⟩] })) ∧
    (Now d p → bit v 16 = true → exec (.groupStartWrite p v) s = s.wrote p R.TIM_GSTART (onTim e' { e'.tim with timed := (
      if mask = 0 then none else some ⟨mask, p, e.tick + 16, some T, decide (T.toNat < e.tb.toNat + 16)⟩) })) ∧
    (d.tim.starts = [] → d.tim.timed = none → exec .groupStart s = s.stays) ∧
    (first → quiet a → g.mask = 2 ^ a.val → ∃ y : Dev, exec .groupStart s = s.goes y ∧ y.tim.starts = starts ∧ y.tick = g.due ∧
      y.tch a = begun a g.due 0 ∧ (∀ c, c ≠ a → y.tch c = d.tch c) ∧ y.evt = d.evt) ∧
    (first → quiet a → quiet b → a < b → g.mask = 2 ^ a.val + 2 ^ b.val → bit (d.rd (chCfg a)) 33 = true → bit (d.rd (chCfg b)) 33 = true →
      ∃ y : Dev, exec .groupStart s = s.goes y ∧ y.tch a = begun a g.due 0 ∧ y.tch b = begun b g.due ((lap b - lap b / 2) % lap b) ∧
        (∀ c, c ≠ a → c ≠ b → y.tch c = d.tch c))

/-- A CFG write that names no pin or would change a running channel leaves it; EN stops a channel that has no step due there, or asks for its start, which the next tick boundary brings; CMP and CNT take effect there too. A step counts up to PERIOD and wraps, a match and a wrap setting
their flags. An input changes with the S-th consecutive sample of the other level; an edge of a CAPTURE channel's kind captures its tick after the edges to skip, or holds it while CAP_LO is being read; a read of CAP_LO latches the upper part and clears NEW. -/
def Obligations.TimerChannels : Prop :=
  ∀ (s : State) (p : Owner) (c : Fin 16) (v : Word) (t : Nat) (level : Bool) (r : BitVec 16),
    let d := s.dev.hold
    let e := s.ready
    let old := e.rd (chCfg c)
    let new := cfgAfter old v
    let h := d.tch c
    let k := if bit old 21 = bit new 21 then e.tch c else { e.tch c with invs := keepPast (e.tch c).invs (e.tick + 1) (bit old 21) }
    let mode := field (d.rd (chCfg c)) 31 29
    let act := field (d.rd (chCfg c)) 23 22
    let P := (d.rd (chReg c 1)).toNat
    let set := e.wr (chCfg c) new
    let wrote := fun (f : Nat) (x : Dev) => s.wrote p (chReg c f) x
    let calm := fun (x : TimCh) => x.cntWait = none ∧ x.cmpWait = none ∧ x.startAt = none
    let step := d.dark = false ∧ h.next = some t ∧ d.tick ≤ t ∧ calm h
    let h1 := { h with count := h.count + 1, next := some (t + d.chTicks c) }
    let sel := field (d.rd (chInput c)) 5 0
    let T := d.gridTick (match h.sampledAt with
      | some u => max d.tick (u + 1)
      | none => d.tick)
    let shown := (d.to T).landLevel sel T level
    let n := if h.sampledAt = some (T - 4) then h.strained + 1 else 1
    let S := max 1 (field (d.rd (chInput c)) 35 28)
    let samples := d.dark = false ∧ d.tbRun = true ∧ sel < 32 ∧ calm h
    let sampled := fun (x : TimCh) => s.goes ((d.to T).setTch c { x with sampledAt := some T })
    let changes := samples ∧ shown ≠ h.level ∧ S ≤ n
    let taken := { h with strained := 0, level := shown }
    let edge := changes ∧ h.running = true ∧ mode = 2
    let kind := field (d.rd (chInput c)) 19 18
    let counts := kind = 2 ∨ (kind = 0 ∧ shown = true) ∨ (kind = 1 ∧ shown = false)
    (Now d p → bit new 20 = true → isPin (field new 19 8) = false → exec (.channelCfgWrite p c v) s = wrote 0 e) ∧
    (Now d p → bit new 20 = false → cfgBusy old new = true →
      exec (.channelCfgWrite p c v) s = wrote 0 (e.log Ev.TIM_BUSY c.val p.code)) ∧
    (Now d p → bit new 20 = false → bit new 35 = false → calm k → (∀ n, k.next = some n → e.tick + 1 < n) →
      exec (.channelCfgWrite p c v) s = wrote 0 ((set.releaseClaim 4 c.val).setTch c
      ({ k with running := false, waitGo := false, next := none }.drive false (e.tick + 1)))) ∧
    (Now d p → bit new 20 = false → bit new 35 = true → bit new 34 = true → bit new 32 = false → bit old 35 = false → calm k →
      exec (.channelCfgWrite p c v) s = wrote 0 ((set.askClaim 4 c.val [0x020 + c.val]).setTch c { k with waitGo := true })) ∧
    (Now d p → bit new 20 = false → bit new 35 = true → bit new 34 = false → bit new 32 = false → bit old 35 = false → calm k →
      exec (.channelCfgWrite p c v) s =
        wrote 0 ((set.askClaim 4 c.val [0x020 + c.val]).setTch c { k with startAt := some (e.tick + 1) })) ∧
    (Now d p → bit new 20 = false → bit new 35 = true → bit new 32 = false → bit old 35 = true → cfgBusy old new = false →
      bit (e.rd (chStat c)) 28 = true → calm k → exec (.channelCfgWrite p c v) s =
        wrote 0 ((set.askClaim 4 c.val [0x020 + c.val]).setTch c { k with startAt := some (e.tick + 1) })) ∧
    (Now d p → calm (e.tch c) →
      exec (.cmpWrite p c v) s = wrote 2 ((e.wr (chReg c 2) v).setTch c { e.tch c with cmpWait := some ⟨v.toNat, e.tick + 1⟩ }) ∧
      exec (.cntWrite p c v) s = wrote 3 (e.setTch c { e.tch c with cntWait := some ⟨v.toNat, e.tick + 1⟩ })) ∧
    (h.next = none → h.startAt = none → exec (.channelStep c r) s = s.stays) ∧
    (d.dark = false → h.startAt = some t → h.cntWait = none → h.cmpWait = none → mode ≠ 3 → d.tick ≤ t + d.chTicks c → h.count < P →
      h.count + 1 ≠ h.cmp → ∃ y : Dev, exec (.channelStep c r) s = s.goes y ∧ y.tick = t + d.chTicks c ∧ (y.tch c).running = true ∧
        (y.tch c).count = h.count + 1 ∧ (y.tch c).period = P ∧ (y.tch c).next = some (t + 2 * d.chTicks c) ∧
        (y.tch c).startAt = none ∧ bit (y.rd (chStat c)) 28 = false) ∧
    (step → h.pulseEnd = 0 → h.count < h.period → h.count + 1 ≠ h.cmp → exec (.channelStep c r) s =
      s.goes ((d.to t).setTch c (if mode = 1 ∧ h.cmp ≤ h.count + 1 then h1.drive false t else h1))) ∧
    (step → mode ≠ 1 → 0 < h.pulseEnd → h.pulseEnd ≤ t → h.count < h.period → h.count + 1 ≠ h.cmp →
      exec (.channelStep c r) s = s.goes ((d.to t).setTch c { h1.drive false h.pulseEnd with pulseEnd := 0 })) ∧
    (step → h.pulseEnd = 0 → h.count < h.period → h.count + 1 = h.cmp → mode = 0 → act < 3 → bit (d.rd (chCfg c)) 4 = false →
      bit (d.rd (chCfg c)) 0 = false → ∃ y : Dev, exec (.channelStep c r) s = s.goes y ∧ (y.tch c).count = h.cmp ∧
        (y.tch c).next = some (t + d.chTicks c) ∧ bit (y.rd (chStat c)) 31 = true ∧
        (y.tch c).out = (if act = 0 then !h.out else decide (act = 1))) ∧
    (step → h.pulseEnd = 0 → h.period ≤ h.count → h.cmp ≠ 0 → mode = 0 → bit (d.rd (chCfg c)) 5 = false →
      ∃ y : Dev, exec (.channelStep c r) s = s.goes y ∧ (y.tch c).count = 0 ∧ (y.tch c).period = P ∧
        (y.tch c).next = some (t + d.chTicks c) ∧ bit (y.rd (chStat c)) 30 = true ∧ (y.tch c).out = h.out) ∧
    (d.tbRun = false ∨ 32 ≤ sel → ∀ q, exec (.strainedEdge c level q) s = s.stays) ∧
    (samples → shown = h.level → ∀ q, exec (.strainedEdge c level q) s = sampled { h with strained := 0 }) ∧
    (samples → shown ≠ h.level → n < S → ∀ q, exec (.strainedEdge c level q) s = sampled { h with strained := n }) ∧
    (changes → h.running = false → ∀ q, exec (.strainedEdge c level q) s = sampled taken) ∧
    (edge → ¬ counts → ∀ q, exec (.strainedEdge c level q) s = sampled taken) ∧
    (edge → counts → h.edges < field (d.rd (chInput c)) 27 20 → ∀ q, exec (.strainedEdge c level q) s =
      sampled { taken with edges := h.edges + 1 }) ∧
    (edge → counts → field (d.rd (chInput c)) 27 20 ≤ h.edges → h.held = none → r.getLsbD c.val = false → ∃ y : Dev, exec (.strainedEdge c level r) s = s.goes y ∧
      y.rd (chReg c 5) = loWord (d.to T).tb ∧ y.rd (chReg c 6) = hiWord (d.to T).tb ∧
      bit (y.rd (chStat c)) 32 = true ∧ (y.tch c).edges = 0 ∧ (y.tch c).level = shown) ∧
    (edge → counts → field (d.rd (chInput c)) 27 20 ≤ h.edges → h.held = none → r.getLsbD c.val = true → ∃ y : Dev, exec (.strainedEdge c level r) s = s.goes y ∧
      (y.tch c).held = some (d.to T).tb ∧ y.rd (chReg c 5) = d.rd (chReg c 5) ∧ y.rd (chReg c 6) = d.rd (chReg c 6)) ∧
    (d.boot.step ≠ some 0 → ∃ y : Dev, exec (.capLoRead p c) s = s.goes y ∧ y.latched p (chReg c 6) = d.rd (chReg c 6) ∧
      (h.held = none → bit (y.rd (chStat c)) 32 = false ∧ ∀ a, a ≠ chStat c → y.rd a = d.rd a) ∧
      (∀ w, h.held = some w → (y.tch c).held = none ∧ bit (y.rd (chStat c)) 32 = true ∧
        y.rd (chReg c 5) = loWord w ∧ y.rd (chReg c 6) = hiWord w))
/-! ### Timing fabric -/

/-- A port trains when it finds a signal, comes up when both ends are locked, fails its training at the timeout, and is LOST without a heartbeat; heartbeats carry its master, epoch and times, and are kept; the master counts M_SEQ on, and a device that misses it for 1 ms gives that
announcement up; PRESENCE packets are flooded, kept as routes, and expire. -/
def Obligations.FabricPortsAndRoutes : Prop :=
  ∀ (s : State) (p : Owner) (f : Fin 4) (v : Word) (src : BitVec 14) (ts : Fin 3) (h : Heartbeat) (frac : Fin 16) (seq : BitVec 8)
    (hops : BitVec 16) (id pr : Nat) (r : Route),
    let d := s.dev.hold
    let q := d.port f
    let e := s.ready
    let run := d.dark = false
    let pkt := fun (t : Nat) => fabPacket 0x77 (natBytes 2 d.ownId ++ [BitVec.ofNat 8 t])
    let training := q.st = 2 ∨ q.st = 4
    let w := e.store (R.FAB_PORTp_CTRL f) 1 (v ||| BitVec.ofNat 36 (2 ^ 35))
    let k := e.port f
    let onFab := fun (d : Dev) (b : Fab) => { d with fab := b }
    let y := d.to q.nextHb
    let m := d.fab.master.getD (d.ownId, 255)
    let beat : Heartbeat := {
      src := BitVec.ofNat 14 d.ownId, master := d.isMaster, aligned := d.fabAligned, seq := BitVec.ofNat 8 q.seq,
      txTime := BitVec.ofNat 76 (y.tb.toNat * 16 + frac.val), rxSeq := BitVec.ofNat 8 ((q.rx.map (·.1)).getD 0),
      rxTime := BitVec.ofNat 76 ((q.rx.map (·.2)).getD 0), mId := BitVec.ofNat 14 m.1, mPrio := BitVec.ofNat 8 m.2,
      epoch := BitVec.ofNat 14 d.fab.epoch, mSeq := BitVec.ofNat 16 d.fab.mSeq, hops := BitVec.ofNat 16 d.fab.hops }
    let bad := s.goes (d.bump (R.FAB_PORTp_CRC_ERR f))
    let ahead := (h.mSeq.toNat + 2 ^ 16 - d.fab.mSeq) % 2 ^ 16
    let z := d.to d.fab.presenceDue
    let via := (f.val, hops.toNat + 1) :: (((d.fab.routes.find? (fun x => x.id == src.toNat)).map (·.via)).getD []).filter
      (fun x => x.1 != f.val)
    let recent := d.fab.flooded.filter (fun x => decide (d.tick < x.2.2 + 128 * 64000000))
    let heard := fun (l : List (Nat × Nat × Nat)) => onFab d { d.fab with
      routes := d.fab.routes.filter (fun x => x.id != src.toNat) ++ [⟨src.toNat, seq.toNat, d.tick, via⟩], flooded := l }
    let known := recent.any (fun x => x.1 == src.toNat && x.2.1 == seq.toNat) = true
    (q.st = 0 → exec (.portSignalDetect f) s = s.stays) ∧
    (run → q.st = 1 → exec (.portSignalDetect f) s = s.goes ((d.setPort f { q with
      signal := true, locked := false, partner := false, gotTwo := false, trainAt := d.tick, st := 2, last := pkt 0 }).post 15 d.tb)) ∧
    (run → 1 < q.st → exec (.portSignalDetect f) s = s.goes (d.setPort f { q with signal := true })) ∧
    (¬ training → exec (.codeGroupLock f) s = s.stays ∧ (src.toNat ≠ d.ownId ∨ q.st = 0 → exec (.trainReceived f src ts true) s = s.stays)) ∧
    (run → training → q.gotTwo = false ∨ q.partner = false → exec (.codeGroupLock f) s =
      s.goes (d.setPort f { q with locked := true, last := pkt (if q.partner then 2 else 1) })) ∧
    (run → training → q.gotTwo = true → q.partner = true → ∃ y : Dev, exec (.codeGroupLock f) s = s.goes y ∧ (y.port f).st = 3 ∧
      (y.port f).nextHb = d.tick ∧ (∀ g, g ≠ f → y.port g = d.port g)) ∧
    (run → training → src.toNat ≠ d.ownId → q.locked = false → exec (.trainReceived f src ts true) s = s.goes (d.setPort f { q with
      neigh := src.toNat, partner := decide (1 ≤ ts.val), gotTwo := q.gotTwo || decide (ts.val = 2), last := pkt 0 })) ∧
    (run → training → src.toNat ≠ d.ownId → q.locked = true → ts.val = 2 → ∃ y : Dev, exec (.trainReceived f src ts true) s = s.goes y ∧
      (y.port f).st = 3 ∧ (y.port f).neigh = src.toNat) ∧
    (run → q.st ≠ 0 → src.toNat = d.ownId → d.fab.dupAt = none → ∃ y : Dev, exec (.trainReceived f src ts true) s = s.goes y ∧
      (y.port f).st = 5 ∧ y.fab.dupAt = some d.tick) ∧
    (run → exec (.trainReceived f src ts false) s = bad ∧ exec (.heartbeatReceived f h frac false) s = bad ∧
      exec (.presenceReceived f src seq hops false) s = bad) ∧
    (run → q.st = 2 → exec (.portTrainTimeout f) s = s.goes (
      let x := d.to (q.trainAt + (d.rd R.FAB_TRAIN_TIMEOUT).toNat)
      ((x.setPort f { q with st := 5 }).post 15 x.tb).log Ev.FAB_TRAIN_FAIL 0 0)) ∧
    (q.st ≠ 2 → exec (.portTrainTimeout f) s = s.stays) ∧
    (Now d p → bit v 0 = bit (e.rd (R.FAB_PORTp_CTRL f)) 0 → k.st = 0 ∨ e.dark = true →
      exec (.portRetrain p f v) s = s.wrote p (R.FAB_PORTp_CTRL f) w) ∧
    (Now d p → bit v 0 = bit (e.rd (R.FAB_PORTp_CTRL f)) 0 → k.st ∈ [1, 2, 5] → e.dark = false → k.signal = true →
      exec (.portRetrain p f v) s = s.wrote p (R.FAB_PORTp_CTRL f) (
        let x := w.setPort f { k with locked := false, partner := false, gotTwo := false, trainAt := e.tick, st := 2, last := fabPacket 0x77 (natBytes 2 e.ownId ++ [0]) }
        if k.st = 2 then x else x.post 15 e.tb)) ∧
    (Now d p → bit v 0 = bit (e.rd (R.FAB_PORTp_CTRL f)) 0 → k.st ≠ 0 → e.dark = false →
      exec (.portRetrain p f v) s = s.wrote p (R.FAB_PORTp_CTRL f) (w.trainPort f)) ∧
    (q.st ≠ 3 → exec (.heartbeatSend f frac) s = s.stays ∧ exec (.heartbeatReceived f h frac true) s = s.stays ∧
      exec (.heartbeatTimeout f) s = s.stays ∧ exec (.presenceReceived f src seq hops true) s = s.stays) ∧
    (run → q.st = 3 → d.tick ≤ q.nextHb → exec (.heartbeatSend f frac) s = s.goes (y.setPort f { q with
      seq := (q.seq + 1) % 256, nextHb := q.nextHb + 4000, sentAt := ((q.seq, y.tb.toNat * 16 + frac.val) :: q.sentAt).take 64,
      last := fabPacket 0x11 (heartbeatBytes beat) })) ∧
    (run → q.st = 3 → ∃ y : Dev, exec (.heartbeatReceived f h frac true) s = s.goes y ∧ (y.port f).lastHb = d.tick ∧
      (y.port f).neigh = h.src.toNat ∧ (y.port f).hb = some h ∧ (y.port f).rx = some (h.seq.toNat, d.tb.toNat * 16 + frac.val) ∧
      (∀ g, g ≠ f → y.port g = d.port g) ∧
      (d.fab.master = some (h.mId.toNat, pr) → h.epoch.toNat = d.fab.epoch → d.isMaster = false → 0 < ahead → ahead < 2 ^ 15 →
        y.fab.master.map (·.1) = some h.mId.toNat → y.fab.epoch = d.fab.epoch → y.fab.mSeq = h.mSeq.toNat ∧ y.fab.mSeqAt = d.tick)) ∧
    (run → q.st = 3 → d.tick ≤ q.lastHb + 32000 → ∃ y : Dev, exec (.heartbeatTimeout f) s = s.goes y ∧ (y.port f).st = 4 ∧
      y.tick = q.lastHb + 32000 ∧ (y.port f).hb = none ∧ y.rd (R.FAB_PORTp_LOST f) = satInc (d.rd (R.FAB_PORTp_LOST f))) ∧
    (d.isMaster = false → exec .masterSeqAdvance s = s.stays) ∧
    (run → d.isMaster = true → d.tick ≤ d.fab.mSeqAt + 40000 → exec .masterSeqAdvance s = s.goes (onFab (d.to (d.fab.mSeqAt + 40000))
      { d.fab with mSeq := (d.fab.mSeq + 1) % 2 ^ 16, mSeqAt := d.fab.mSeqAt + 40000 })) ∧
    (d.fab.master = none ∨ d.isMaster = true ∨ d.fabOn = false → exec .masterLost s = s.stays) ∧
    (run → d.fab.master = some (id, pr) → d.isMaster = false → d.fabOn = true → d.tick ≤ d.fab.mSeqAt + 4000000 →
      ∃ y : Dev, exec .masterLost s = s.goes y ∧ y.tick = d.fab.mSeqAt + 4000000 ∧ y.fab.lost = some (id, d.fab.epoch) ∧
        (field (d.rd R.FAB_CTRL) 23 16 ≠ 255 → (∀ g, (d.port g).st ≠ 3) →
          y.fab.master = some (d.ownId, field (d.rd R.FAB_CTRL) 23 16) ∧ y.fab.epoch = (d.fab.epoch + 1) % 2 ^ 14)) ∧
    (d.fabOn = false → exec .presenceFlood s = s.stays) ∧
    (run → d.fabOn = true → exec .presenceFlood s = s.goes
      ((onFab z { z.fab with presence := d.fab.presence + 1, presenceDue := z.tick + 64000000 }).flood none
        (presencePacket d.ownId (d.fab.presence + 1) 0))) ∧
    (q.st = 3 → src.toNat = d.ownId → (d.fab.presence + 256 - seq.toNat) % 256 < min d.fab.presence 3 →
      exec (.presenceReceived f src seq hops true) s = s.stays) ∧
    (run → q.st = 3 → src.toNat ≠ d.ownId → d.fab.session = none → known → exec (.presenceReceived f src seq hops true) s = s.goes (heard recent)) ∧
    (run → q.st = 3 → src.toNat ≠ d.ownId → d.fab.session = none → ¬ known → exec (.presenceReceived f src seq hops true) s =
      s.goes ((heard ((src.toNat, seq.toNat, d.tick) :: recent)).flood (some f) (presencePacket src.toNat seq.toNat (hops.toNat + 1)))) ∧
    (d.fab.routes.find? (fun x => x.id == src.toNat) = none → exec (.routeExpiry src) s = s.stays) ∧
    (run → d.fab.routes.find? (fun x => x.id == src.toNat) = some r → d.fab.session = none → exec (.routeExpiry src) s =
      s.goes (onFab (d.to (r.heard + 192000000)) { d.fab with routes := d.fab.routes.filter (fun x => x.id != src.toNat) }))

/-- A scheduled trigger is accepted when its time lies beyond the lead time and the fabric is aligned with room in the table; it is flooded and fires at its time, raising the trigger-out pins of its number. A trigger received twice is dropped, a late one counted. Messages queue in eights, a
full queue dropping them; one for another device takes its route. -/
def Obligations.FabricTriggersAndMessages : Prop :=
  ∀ (s : State) (p : Owner) (v : Word) (f g k : Fin 4) (issuer src : BitVec 14) (seq id : BitVec 8) (T : Stamp) (x : Trigger)
    (dst : BitVec 16) (ws : List Word) (dup : Bool) (hops t : Nat) (n : Fin 8) (a b c : BitVec 4) (cnt : BitVec 2),
    let d := s.dev.hold
    let e := s.ready
    let run := d.dark = false
    let up := (d.port f).st = 3
    let onFab := fun (d : Dev) (b : Fab) => { d with fab := b }
    let Te := e.fab.times[p.idx]
    let ahead := Te.toNat - e.tb.toNat
    let lead := e.ecc * 240 + 8000 + (e.rd R.FAB_LEAD_EXTRA).toNat
    let status := fun (y : Dev) (r : Nat) => s.wrote p R.FAB_SCHED_CMD (y.wf R.FAB_SCHED_CMD 34 33 r)
    let may := e.fabAligned = true ∧ ahead ≤ 2 ^ 36 ∧ e.fabOn = true ∧ e.fab.table.length < 32
    let issued := (onFab e { e.fab with schedSeq := (e.fab.schedSeq + 1) % 256, seen := ((e.ownId, e.fab.schedSeq) :: e.fab.seen).take 64 })
      |>.flood none (schedPacket e.ownId e.fab.schedSeq (v.toNat % 256) Te)
    let fwd := (onFab d { d.fab with seen := ((issuer.toNat, seq.toNat) :: d.fab.seen).take 64 }).flood (some f)
      (schedPacket issuer.toNat seq.toNat id.toNat T)
    let table := fun (y : Dev) (i : Nat) (T : Stamp) => (onFab y { y.fab with table := y.fab.table ++ [⟨i, T⟩] }).post 33 y.tb
    let pin := R.FAB_TRIGOUTk k
    let quiet := fun (y : Dev) => onFab y { y.fab with
      trigEnd := y.fab.trigEnd.set k.val none k.isLt, trigTo := y.fab.trigTo.set k.val (min y.fab.trigTo[k] y.tick) k.isLt,
      trigPast := y.fab.trigPast.set k.val (keepPast y.fab.trigPast[k] y.tick (y.fab.trigFrom[k], y.fab.trigTo[k])) k.isLt }
    let bad := s.goes (d.bump (R.FAB_PORTp_CRC_ERR f))
    let out := fun (y : Dev) (i : Tq) => s.goes (y.counted n i)
    let h := d.th n
    let msg := (List.range (cnt.toNat + 1)).map (fun j => h.reg (b.toNat + j))
    (Now d p → ahead ≤ lead → exec (.schedIssue p v) s = status e 0) ∧
    (Now d p → lead < ahead → ¬ may → exec (.schedIssue p v) s = status e 2) ∧
    (Now d p → lead < ahead → may → exec (.schedIssue p v) s = status (table issued (v.toNat % 256) Te) 1) ∧
    (¬ up ∨ d.fab.seen.contains (issuer.toNat, seq.toNat) = true → exec (.schedReceived f issuer seq id T true) s = s.stays) ∧
    (run → up → d.fab.seen.contains (issuer.toNat, seq.toNat) = false → d.tb.toNat ≤ T.toNat → exec (.schedReceived f issuer seq id T true) s =
      s.goes (if d.fab.table.length < 32 then table fwd id.toNat T else (fwd.bump R.FAB_SCHED_DROPPED).log Ev.FAB_SCHED_DROP 0 0)) ∧
    (run → up → d.fab.seen.contains (issuer.toNat, seq.toNat) = false → T.toNat < d.tb.toNat → d.frm.takes 3 = false →
      exec (.schedReceived f issuer seq id T true) s = s.goes ((fwd.bump R.FAB_SCHED_LATE).log Ev.FAB_SCHED_LATE 0 0)) ∧
    (d.fab.table = [] → exec .schedTriggerFire s = s.stays) ∧
    (run → d.fab.table = [x] → d.tbRun = true → (∀ o, (d.en o).listens 3 = false) → d.frm.takes 3 = false →
      ∃ y : Dev, exec .schedTriggerFire s = s.goes y ∧ y.tick = d.tick + (x.time.toNat - d.tb.toNat) ∧ y.fab.table = [] ∧
        y.ctl = d.ctl ∧ y.stp = d.stp ∧ y.fab.trigEnd[k] =
          (if bit (d.rd pin) 35 && field (d.rd pin) 19 12 == x.id && d.granted 0 k then some (y.tick + field (d.rd pin) 33 20 + 1)
           else d.fab.trigEnd[k])) ∧
    (Now d p → bit v 35 = true → isGpio (v.toNat % 2 ^ 12) = true → exec (.trigoutWrite p k v) s =
      s.wrote p pin (((if e.granted 0 k then e else quiet e).store pin 0xBFFFFFFFF v).askClaim 0 k.val [v.toNat % 2 ^ 12])) ∧
    (Now d p → bit v 35 = true → isGpio (v.toNat % 2 ^ 12) = false → exec (.trigoutWrite p k v) s = s.wrote p pin e) ∧
    (Now d p → bit v 35 = false → exec (.trigoutWrite p k v) s = s.wrote p pin
      (quiet ((e.store pin 0xBFFFFFFFF v).releaseClaim 0 k.val))) ∧
    (d.fab.trigEnd[k] = none → exec (.trigoutPulseEnd k) s = s.stays) ∧
    (run → d.fab.trigEnd[k] = some t → exec (.trigoutPulseEnd k) s = s.goes (onFab (d.to t)
      { d.fab with trigEnd := d.fab.trigEnd.set k.val none k.isLt })) ∧
    (run → exec (.schedReceived f issuer seq id T false) s = bad ∧ exec (.messageReceived f dst src ws dup false) s = bad) ∧
    (¬ up ∨ dup = true → exec (.messageReceived f dst src ws dup true) s = s.stays) ∧
    (run → up → dst.toNat = d.ownId → exec (.messageReceived f dst src ws false true) s = s.goes (if d.fab.rx.length < 8
      then (onFab d { d.fab with rx := d.fab.rx ++ [⟨src.toNat, ws⟩] }).post 32 d.tb
      else (d.bump R.FAB_RX_DROPPED).log Ev.FAB_RX_DROP 0 0)) ∧
    (run → up → dst.toNat ≠ d.ownId → dst.toNat ≠ 0xFFFF → d.routeTo dst.toNat = some (g.val, hops) →
      exec (.messageReceived f dst src ws false true) s = s.goes (if (d.port g).queue.length < 4
        then d.setPort g { d.port g with queue := (d.port g).queue ++ [messagePacket dst.toNat src.toNat ws] } else d)) ∧
    (dst.toNat ≠ d.ownId → dst.toNat ≠ 0xFFFF → d.routeTo dst.toNat = none →
      exec (.messageReceived f dst src ws false true) s = s.stays) ∧
    (Now d p → exec (.rxPop p v) s = s.wrote p R.FAB_RX_POP (onFab e { e.fab with rx := e.fab.rx.drop 1 })) ∧
    ((d.port f).queue = [] → exec (.messageSent f) s = s.stays) ∧
    (∀ l rest, run → (d.port f).queue = l :: rest → exec (.messageSent f) s =
      s.goes (d.setPort f { d.port f with queue := rest, last := l })) ∧
    (Issues d n t (.fabSend c a b cnt) → Inside h (.fabSend c a b cnt) → b.toNat + cnt.toNat ≤ 15 →
      exec (.fabSend n) s = out (let r := (d.past n t (h.advance 1)).fabSend (h.rg a).toNat msg; r.2.setReg n c (BitVec.ofNat 36 (b2n r.1)))
        (.fabSend c a b cnt)) ∧
    (Issues d n t (.fabSched c id (some a)) → Inside h (.fabSched c id (some a)) → a ≠ 15 →
      exec (.fabSched n) s = out (let r := (d.past n t (h.advance 1)).schedIssue id.toNat (h.reg (a.toNat + 1) ++ h.reg a.toNat)
        r.2.setReg n c (BitVec.ofNat 36 r.1)) (.fabSched c id (some a))) ∧
    (Issues d n t (.fabSched c id none) → Inside h (.fabSched c id none) →
      exec (.fabSched n) s = out (
        let r := (d.past n t (h.advance 3)).schedIssue id.toNat (d.rd (R.SEQ_IMEM (h.pc + 2)) ++ d.rd (R.SEQ_IMEM (h.pc + 1)))
        r.2.setReg n c (BitVec.ofNat 36 r.1)) (.fabSched c id none))
/-! ### Host port, relay and management bus -/

/-- The command byte of a frame picks its command, with the width and the relay bit, and the bytes after it are the slot, the header and the data. A local command of the host port with its whole header ends the frame before it, counts, and answers a status byte: CREAD the words of its registers, CWRITE takes its words when none of an earlier CWRITE is left to apply, and they are applied a decision each, DREAD and DWRITE the words of a space within one group, TX and LOCK what became of the transaction or the lock,
PORT_RESET after the owner reset; data not ready are kept for a repeat, a field out of range or a reserved bit is an error, an undefined command is reported. That a
count byte out of range is answered only after its data words rests on log entry 174, that any other frame finds the control writes applied on log entry 229. -/
def Obligations.HostPortCommands : Prop :=
  ∀ (s : State) (h : HostFrame) (p : Owner) (v : Word) (cmd : Byte) (ready : Bool) (rdy taken drained applied : Nat) (k : Kept) (a n : Nat) (b : Byte) (l : List Byte),
    let d₀ := s.dev.hold
    let f := s.fuses
    let d := d₀.applyHostWrites f 16
    let dpNext := fun (d : Dev) (space a : Nat) => d.wr R.HST_DP_NEXT (BitVec.ofNat 36 (2 ^ 35 + space % 8 * 2 ^ 29 + a % 2 ^ 29))
    let risen := fun (d : Dev) => match d.hst.frame with
      | some x => let y := dpNext d x.1 x.2; { y with hst := { y.hst with frame := none } }
      | none => d
    let begins := fun (d : Dev) => let y := risen d; { y with hst := { y.hst with out := [] } }.bump R.HST_CMD_COUNT
    let begun := begins d
    let drive := fun (d : Dev) (l : List Byte) => { d with hst := { d.hst with out := d.hst.out ++ l } }
    let status := fun (d : Dev) (code result : Nat) => BitVec.ofNat 8 (0x40 + 32 * b2n (bit (d.rd R.EVT_HST_ALERT) 0) + 4 * code + result)
    let done := fun (d : Dev) (l : List Byte) => s.goes (drive d (status d 0 0 :: l))
    let error := fun (d : Dev) (code : Nat) (l : List Byte) => s.goes ((drive d (status d code 2 :: l)).bump R.HST_ERROR_COUNT)
    let wait := fun (d : Dev) (bytes : Nat) => (drive d (status d 0 1 :: List.replicate bytes 0xFF)).bump R.HST_NOT_READY_COUNT
    let keep := fun (d : Dev) (k : Kept) => { d with hst := { d.hst with kept := some k } }
    let five := fun (ws : List Word) => (ws.map wordBytes).flatten
    let out := fun (packed : Bool) (ws : List Word) => if packed then packWords ws else five ws
    let plain := h.width ≠ 3 ∧ h.relay = false
    let loc := d.boot.step ≠ some 0 ∧ plain
    let fresh := loc ∧ d.hst.kept = none
    let open_ := d₀.boot.step ≠ some 0 ∧ plain
    let before := (begins d₀).applyHostWrites f applied
    let ctl := h.header.length = 4
    let m := beNat (h.header.drop 3) + 1
    let at_ := beNat (h.header.take 3)
    let r := begun.ctlReadRun .host at_ m
    let dp := h.header.length = 6
    let N := beNat (h.header.drop 4) + 1
    let space := beNat (h.header.take 4) / 2 ^ 29
    let A := beNat (h.header.take 4) % 2 ^ 29
    let on := bit (d.rd R.HST_CTRL) 0
    let bytes := fun (op : Nat) => BitVec.ofNat 8 (64 * h.width.toNat + op) :: (h.header ++ h.data)
    let data := fun (packed : Bool) => (if packed then packedWords h.data else registerWords h.data).take N
    let even := fun (packed : Bool) => packed = false ∨ (A % 2 = 0 ∧ N % 2 = 0)
    let x := begun.dpReadRun space A N
    let room := 64 + drained - d.hst.buffer
    let port := fun (packed : Bool) => fresh ∧ dp ∧ even packed ∧ on = true
    let buffered := fun (k : Nat) => { begun with hst := { begun.hst with buffer := d.hst.buffer + k - drained } }
    let reads := fun (packed : Bool) (o : Host.Outcome State Fault Refusal) =>
      (port packed → N ≤ 32 - A % 32 → 0 < rdy → N ≤ taken → x.2.1 = false → x.2.2.1 = false →
        o = s.goes (dpNext (drive x.2.2.2 (status x.2.2.2 0 0 :: out packed x.1)) space (A + N))) ∧
      (port packed → N ≤ 32 - A % 32 → rdy = 0 → o = s.goes
        (dpNext (wait (keep begun ⟨bytes (if packed then 5 else 3), .data space A N packed, none⟩) (out packed (List.replicate N 0)).length)
          space A)) ∧
      (fresh → dp → even packed → on = false → o = error begun 2 [])
    let writes := fun (packed : Bool) (o : Host.Outcome State Fault Refusal) =>
      (port packed → (data packed).length = N → N ≤ room → o = (
        let y := (buffered N).dpWriteAll .host space A (data packed)
        s.goes (dpNext (if y.1 then (drive y.2 [status y.2 2 2]).bump R.HST_ERROR_COUNT else drive y.2 [status y.2 0 0]) space (A + N)))) ∧
      (port packed → (data packed).length = N → room < N → o = (
        let y := (buffered room).dpWriteAll .host space A ((data packed).take room)
        s.goes (dpNext (wait y.2 0) space (A + room)))) ∧
      (fresh → dp → even packed → on = false → (data packed).length = N → o = error begun 2 [])
    let spells := fun (op hdr : Nat) (c : Instr) => h.wf hdr = true →
      step (s.withHostFrame (h.cmd op) ((if h.relay then [h.slot] else []) ++ h.header ++ h.data) ready rdy taken drained) = exec c s
    (spells 1 4 (.cread h ready) ∧ spells 2 4 (.cwrite h drained) ∧ spells 3 6 (.dread h rdy taken) ∧ spells 4 6 (.dwrite h drained) ∧
      spells 5 6 (.dreadP h rdy taken) ∧ spells 6 6 (.dwriteP h drained) ∧ spells 8 1 (.txCommand h) ∧ spells 9 1 (.lockCommand h) ∧
      spells 0x1F 0 (.portReset h)) ∧
    (d₀.boot.step ≠ some 0 → exec .hostCsRise s = s.goes (risen d₀)) ∧
    (d₀.boot.step ≠ some 0 → cmd.toNat / 64 = 3 ∨ cmd.toNat % 32 ∉ [1, 2, 3, 4, 5, 6, 8, 9, 0x1F] → exec (.hostBadCommand cmd) s =
      s.goes ((((begins d₀).wf R.HST_STATUS 35 35 1).bump R.HST_ERROR_COUNT).log Ev.HST_BAD_CMD cmd.toNat 0)) ∧
    (fresh → ctl → m ≤ 16 → ready = true ∨ m ≤ 3 ∨ (m = 4 ∧ h.width = 2) → exec (.cread h ready) s = done r.2 (five r.1)) ∧
    (fresh → ctl → m ≤ 16 → ready = false → 4 < m ∨ (m = 4 ∧ h.width ≠ 2) → exec (.cread h ready) s =
      s.goes (wait (keep begun ⟨bytes 1, .control at_ m, none⟩) (5 * m))) ∧
    (loc → ctl → 16 < m → exec (.cread h ready) s = error begun 6 []) ∧
    (open_ → ctl → 16 < m → (m - 1) % 16 < (registerWords h.data).length → exec (.cwrite h applied) s = error (begins d₀) 6 []) ∧
    (loc → ctl → m ≤ 16 → d.hst.kept = some k → k.bytes = bytes 1 → k.answer = some (0 :: l) →
      exec (.cread h ready) s = done { begun with hst := { begun.hst with kept := none } } l) ∧
    (open_ → ctl → m ≤ 16 → (registerWords h.data).length = m → d₀.hst.kept = none → before.hst.writes = [] → exec (.cwrite h applied) s = (
      let y := { before with hst := { before.hst with writes := addressed at_ (registerWords h.data) } }.applyHostWrites f
        (applied - d₀.hst.writes.length)
      if y.boot.step = some 0 then s.goes y else done y [])) ∧
    (open_ → ctl → m ≤ 16 → (registerWords h.data).length = m → d₀.hst.kept = none → before.hst.writes ≠ [] →
      exec (.cwrite h applied) s = s.goes (wait before 0)) ∧
    reads false (exec (.dread h rdy taken) s) ∧ reads true (exec (.dreadP h rdy taken) s) ∧
    writes false (exec (.dwrite h drained) s) ∧ writes true (exec (.dwriteP h drained) s) ∧
    (loc → dp → A % 2 = 1 ∨ N % 2 = 1 → exec (.dreadP h rdy taken) s = error begun 6 []) ∧
    (loc → dp → A % 2 = 1 ∨ N % 2 = 1 → (data true).length = N → exec (.dwriteP h drained) s = error begun 6 []) ∧
    (fresh → h.header = [b] → b.toNat / 4 % 16 = 0 → (d.tx .host).misuses (b.toNat / 64) = false → exec (.txCommand h) s =
      done (begun.anyWrite f .host R.SEQ_TX_CMD (BitVec.ofNat 36 (b.toNat / 64 * 2 ^ 34 + b.toNat % 4))) []) ∧
    (fresh → h.header = [b] → b.toNat / 4 % 16 = 0 → (d.tx .host).misuses (b.toNat / 64) = true → exec (.txCommand h) s =
      error (begun.anyWrite f .host R.SEQ_TX_CMD (BitVec.ofNat 36 (b.toNat / 64 * 2 ^ 34 + b.toNat % 4))) 7 []) ∧
    (loc → h.header = [b] → b.toNat / 4 % 16 ≠ 0 → exec (.txCommand h) s = error begun 6 []) ∧
    (loc → h.header = [b] → b.toNat / 32 % 4 ≠ 0 → exec (.lockCommand h) s = error begun 6 []) ∧
    (fresh → h.header = [b] → b.toNat < 32 → exec (.lockCommand h) s = (
      let l : Fin 32 := ⟨b.toNat % 32, Nat.mod_lt _ (by decide)⟩
      let y := begun.anyWrite f .host (R.SEQ_LOCKk l) (BitVec.ofNat 36 (2 ^ 35))
      done y [BitVec.ofNat 8 (((y.lock l).map Owner.code).getD 0)])) ∧
    (fresh → h.header = [b] → 128 ≤ b.toNat → b.toNat < 160 → exec (.lockCommand h) s = (
      let l : Fin 32 := ⟨b.toNat % 32, Nat.mod_lt _ (by decide)⟩
      let y := begun.anyWrite f .host (R.SEQ_LOCKk l) (BitVec.ofNat 36 (2 ^ 34))
      let owner := [BitVec.ofNat 8 (((y.lock l).map Owner.code).getD 0)]
      if begun.lock l = some .host then done y owner else error y 7 owner)) ∧
    (loc → h.header = [] → exec (.portReset h) s = done begun.hostReset []) ∧
    (Now d₀ p → exec (.hstCtrlPortReset p v) s = s.wrote p R.HST_CTRL (s.ready.store R.HST_CTRL 1 v).hostReset) ∧
    (d₀.hst.kept = none → exec .localReadComplete s = s.stays) ∧
    (d₀.hst.kept = some k → k.answer = none → k.read = .control a n → exec .localReadComplete s = (
      let y := d₀.ctlReadRun .host a n
      s.goes (keep y.2 { k with answer := some (0 :: five y.1) })))

/-- A relayed request for this device is refused when its relay is off or another gateway holds the session, answered again when it is a repeat, and else carried out as the relay's reads and writes, its answer kept; one for another device goes on along its route. The gateway keeps the response of its request, or its
timeout; a session whose gateway has had no route for 1 ms ends with an owner reset. -/
def Obligations.RelaySessions : Prop :=
  ∀ (s : State) (f : Fin 4) (dst src : BitVec 14) (rseq : BitVec 8) (op : Fin 5) (count : Fin 16) (addr : BitVec 32) (ws : List Word)
    (status : Fin 5) (x : Session) (r : RelayReq) (t : Nat),
    let d := s.dev.hold
    let up := (d.port f).st = 3
    let here := d.dark = false ∧ up ∧ dst.toNat = d.ownId ∧ d.boot.step ≠ some 0
    let request := exec (.relayRequestReceived f dst src rseq op count addr ws true) s
    let response := exec (.relayResponseReceived f dst src rseq status count ws true) s
    let answer := fun (y : Dev) (st : Nat) (ws : List Word) =>
      s.goes (y.sendTo src.toNat (relayRspPacket src.toNat y.ownId rseq.toNat st count.val ws))
    let opened := fun (y : Dev) (st : Nat) (ws : List Word) =>
      { y with fab := { y.fab with session := some ⟨src.toNat, rseq.toNat, st, ws, y.fab.session.bind (·.lostAt)⟩ } }
    let a := addr.toNat % 2 ^ 29
    let n := count.val + 1
    let relay := bit (d.rd R.FAB_CTRL) 1
    let free := (∀ x, d.fab.session = some x → x.gateway = src.toNat ∧ x.rseq ≠ rseq.toNat) ∧
      (d.fab.session = none → ∀ x, d.fab.ended = some x → x.gateway ≠ src.toNat ∨ x.rseq ≠ rseq.toNat)
    let ends := fun (y : Dev) (x : Session) => ({ y with fab := { y.fab with session := none, ended := some x } }.wr R.FAB_RELAY_SESSION
      (BitVec.ofNat 36 (x.rseq % 256 * 2 ^ 14 + x.gateway % 2 ^ 14))).ownerReset .relay
    let space := addr.toNat / 2 ^ 29
    let dr := d.dpReadRun space a n
    let dw := d.dpWriteAll .relay space a (ws.take n)
    let on := bit (d.rd R.HST_CTRL) 0
    let rd := d.ctlReadRun .relay a n
    let onHst := fun (y : Dev) (r : Option RelayReq) => { y with hst := { y.hst with relay := r } }
    (¬ up → request = s.stays ∧ response = s.stays) ∧
    (here → relay = false → request = answer d 3 []) ∧
    (here → relay = true → d.fab.session = some x → x.gateway ≠ src.toNat → request = answer d 4 []) ∧
    (here → relay = true → d.fab.session = some x → x.gateway = src.toNat → x.rseq = rseq.toNat → request = answer d x.status x.words) ∧
    (here → relay = true → free → op = 0 → request = answer (opened rd.2 0 rd.1).sessionRoute 0 rd.1) ∧
    (here → relay = true → d.fab.session = none → d.fab.ended = some x → x.gateway = src.toNat → x.rseq = rseq.toNat → op ≠ 4 →
      request = answer ({ d with fab := { d.fab with session := some { x with lostAt := none } } } : Dev).sessionRoute x.status x.words) ∧
    (here → relay = true → free → op = 1 → request = (
      let y := d.ctlWriteRun s.fuses .relay a (ws.take n)
      if y.boot.step = some 0 then s.goes y else answer (opened y 0 []).sessionRoute 0 [])) ∧
    (here → relay = true → free → op = 2 → on = true → dr.2.1 = false → dr.2.2.1 = false →
      request = answer (opened dr.2.2.2 0 dr.1).sessionRoute 0 dr.1) ∧
    (here → relay = true → free → op = 3 → on = true →
      request = answer (opened dw.2 (if dw.1 then 2 else 0) []).sessionRoute (if dw.1 then 2 else 0) []) ∧
    (here → relay = true → free → op = 4 →
      request = answer (ends d ⟨src.toNat, rseq.toNat, 0, [], d.fab.session.bind (·.lostAt)⟩) 0 []) ∧
    (here → relay = true → free → op = 2 ∨ op = 3 → on = false → request = answer (opened d 2 []).sessionRoute 2 []) ∧
    (d.dark = false → up → dst.toNat ≠ d.ownId → request = s.goes (d.sendTo dst.toNat (relayReqPacket dst.toNat src.toNat
      { bytes := [], slot := 0, target := dst.toNat, rseq := rseq.toNat, op := op.val, count := count.val, addr := addr.toNat, words := ws,
        packed := false, sentAt := 0 }))) ∧
    (d.dark = false → up → dst.toNat ≠ d.ownId → response =
      s.goes (d.sendTo dst.toNat (relayRspPacket dst.toNat src.toNat rseq.toNat status.val count.val ws))) ∧
    (d.dark = false → exec (.relayRequestReceived f dst src rseq op count addr ws false) s = s.goes (d.bump (R.FAB_PORTp_CRC_ERR f)) ∧
      exec (.relayResponseReceived f dst src rseq status count ws false) s = s.goes (d.bump (R.FAB_PORTp_CRC_ERR f))) ∧
    (here → d.hst.relay = some r → r.resp = none → r.target = src.toNat → r.rseq = rseq.toNat → r.op ≠ 4 →
      response = s.goes (onHst d (some { r with resp := some (status.val, ws) }))) ∧
    (here → (∀ r, d.hst.relay = some r → r.resp.isSome = true ∨ r.target ≠ src.toNat ∨ r.rseq ≠ rseq.toNat) → response = s.stays) ∧
    (d.hst.relay = some r → r.resp = none → r.late = false → r.op ≠ 4 → exec .relayTimeout s =
      s.goes (onHst (d.to (r.sentAt + (d.rd R.FAB_RELAY_TIMEOUT).toNat)) (some { r with late := true }))) ∧
    (d.hst.relay = none ∨ (∃ r, d.hst.relay = some r ∧ (r.resp.isSome = true ∨ r.late = true)) → exec .relayTimeout s = s.stays) ∧
    (d.dark = false → d.fab.session = some x → x.lostAt = some t → exec .relaySessionExpiry s = s.goes (ends (d.to (t + 4000000)) x)) ∧
    (d.fab.session = none ∨ (∃ x, d.fab.session = some x ∧ x.lostAt = none) → exec .relaySessionExpiry s = s.stays)
/-- A transfer that matches an address of the device is acknowledged unless an indirect access is in progress; its first byte sets the pointer, the following are written to the page, a decision each, and a read sends a register's five bytes as they were at the first, which is taken when it is begun. A transfer
that stands still goes on later, and the device keeps the line low in its acknowledge and in a bit it sends that is zero. An indirect access completes as the bus's write or read; a bus error or a stuck bus is reported; an alert response sends the address of the highest class and clears it, unless another
device wins the line. -/
def Obligations.ManagementBus : Prop :=
  ∀ (s : State) (addr : BitVec 7) (b b0 b1 b2 b3 b4 : Byte) (bytes : List Byte) (n k : Nat) (ending : MgtEnd) (driven : Bool) (op : IndOp) (c : Nat)
    (more : List Nat) (a t : Nat) (i : Fin 8) (stand : MgtStand),
    let d := s.dev.hold
    let alive := d.boot.step ≠ some 0
    let onMgt := fun (d : Dev) (m : Mgt) => { d with mgt := m }
    let free := alive ∧ d.mgt.held = []
    let hit := free ∧ d.mgt.answers addr.toNat = true ∧ d.mgt.ind = none
    let begun := onMgt d { d.mgt with transfer := true, sent := [], acked := false, lowSince := none, phase := .quiet, cur := none, alert := none }
    let start := fun (x : MgtPhase) => (onMgt begun { begun.mgt with acked := true, phase := x }).wf R.MGT_STATUS 22 16 addr.toNat
    let ended := fun (y : Dev) => onMgt y { y.mgt with phase := .quiet, cur := none, alert := none }
    let stopped := fun (y : Dev) => onMgt (ended y) { (ended y).mgt with transfer := false, ctrl := y.rd R.MGT_CTRL, addr := y.rd R.MGT_ADDR }
    let ends := fun (y : Dev) => s.goes (match ending with
      | .stop => stopped y
      | .restart => ended y
      | .pause _ => y)
    let low := fun (y : Dev) => onMgt y { y.mgt with lowSince := some y.tick }
    let acks := fun (y : Dev) => if ending = .pause .ack ∧ y.mgt.phase ≠ .quiet then low y else y
    let ptr := fun (p : Byte) => let y := start .writing; onMgt y { y.mgt with ptr := p }
    let put := fun (y : Dev) (w : List Byte) => exec (.mgtWriteTransfer (.start addr) w ending) s = ends (acks y)
    let get := fun (n : Nat) => exec (.mgtReadTransfer (.start addr) n ending) s
    let bad := (regAt op.addr).isNone
    let word := ((start .reading).readEff .mgt a).1
    let still := fun (y : Dev) => onMgt y { y.mgt with lowSince := none }
    let error := (((still (ended d)).wf R.MGT_STATUS 35 35 1).bump R.MGT_BUS_ERRORS).log Ev.MGT_BUS_ERROR 0 0
    let alert := onMgt d { d.mgt with transfer := true, sent := [], acked := false, lowSince := none, phase := .quiet, cur := none }
    let answer := 2 * d.mgt.native + b2n (!more.isEmpty)
    let takes := (onMgt alert { alert.mgt with acked := true }).wf R.MGT_STATUS 22 16 0x0C
    let sends := fun (y : Dev) (x : Nat) => onMgt y { y.mgt with sent := [BitVec.ofNat 8 x] }
    let wins := free ∧ d.mgt.alert = none ∧ d.alerts = c :: more ∧ field d.mgt.ctrl 1 0 = 0
    (free → d.mgt.answers addr.toNat = false → put begun bytes ∧ get n = ends begun) ∧
    (free → d.mgt.answers addr.toNat = true → d.mgt.ind.isSome = true → put (begun.bump R.MGT_NACK_BUSY) bytes ∧
      get n = ends (begun.bump R.MGT_NACK_BUSY)) ∧
    (hit → put (start .pointer) [] ∧ put (ptr b) [b] ∧ (ending = .pause .ack → get 0 = s.goes (low (start .reading)))) ∧
    (hit → (((ptr b).pageWrites s.fuses bytes).boot.step ≠ some 0 → ((ptr b).pageWrites s.fuses bytes).mgt.held = [] →
      put ((ptr b).pageWrites s.fuses bytes) (b :: bytes))) ∧
    (alive → d.mgt.phase = .writing → exec (.mgtWriteTransfer .resume [] (.pause .ack)) s = s.goes (low (still d))) ∧
    (hit → d.Quiet → put (let y := ptr 0xE3; onMgt y { y.mgt with indAddr := b2 ++ b1 ++ b0 }) [0xE0, b0, b1, b2]) ∧
    (hit → d.Quiet → put ((ptr 0xF1).wr R.MGT_ALERT (d.rd R.MGT_ALERT &&& ~~~ (b.setWidth 36))) [0xF0, b]) ∧
    (hit → d.Quiet → b.toNat < 128 → put (let y := ptr 0xE4; onMgt y { y.mgt with indCtrl := b &&& 3 }) [0xE3, b]) ∧
    (hit → d.Quiet → d.mgt.indCtrl.getLsbD 0 = false → put (
      let y := ptr 0xED
      let w := bytesWord [b0, b1, b2, b3, b4]
      onMgt y { y.mgt with indData := w, ind := some ⟨true, d.mgt.indAddr.toNat, w⟩, done := false, badAddr := false, staged := false })
      [0xE8, b0, b1, b2, b3, b4]) ∧
    (hit → k < 19 → d.mgt.ptr.toNat = 5 * k → pageRegs[k]? = some a → ∃ y : Dev, get 5 = s.goes y ∧
      y.mgt.acked = true ∧ y.mgt.lastGroup = 5 * k ∧
      y.mgt.ptr.toNat = 5 * k + (match ending with | .pause _ => 5 | _ => 4) ∧
      y.mgt.sent = (List.range 5).map (fun i => BitVec.ofNat 8 (word.toNat / 256 ^ i))) ∧
    (hit → k < 19 → d.mgt.ptr.toNat = 5 * k → pageRegs[k]? = some a → ending = .pause (.bit i) → ∃ y : Dev, get 0 = s.goes y ∧
      y.mgt.cur = some (BitVec.ofNat 8 word.toNat) ∧ y.mgt.ptr = d.mgt.ptr ∧ (y.mgt.lowSince.isSome = !word.toNat.testBit i)) ∧
    (d.mgt.ind = none → exec .indAccessDone s = s.stays) ∧
    (d.mgt.ind = some op → op.write = true → exec .indAccessDone s = s.goes ((onMgt d { d.mgt with
      ind := none, done := true, badAddr := bad, staged := !bad && decide ((d.tx .mgt).st = .opened) && !neverStaged op.addr }).anyWrite s.fuses .mgt op.addr op.word)) ∧
    (d.mgt.ind = some op → op.write = false → exec .indAccessDone s = s.goes (let r := d.readEff .mgt op.addr
      onMgt r.2 { r.2.mgt with ind := none, done := true, badAddr := bad, indData := r.1 })) ∧
    (free → exec (.busError true driven) s = s.goes (onMgt error { error.mgt with transfer := true }) ∧
      exec (.busError false false) s = s.goes (stopped error) ∧ exec (.busError false true) s = s.goes (stopped (error.ownerReset .mgt))) ∧
    (d.mgt.lowSince = none → exec .stuckTimeout s = s.stays) ∧
    (free → d.mgt.lowSince = some t → exec .stuckTimeout s = s.goes
      (stopped (((((still (d.to (t + 140000000))).ownerReset .mgt).wf R.MGT_STATUS 34 34 1).bump R.MGT_STUCK_COUNT).log Ev.MGT_STUCK 0 0))) ∧
    (free → d.mgt.alert = none → d.alerts = [] → exec (.alertResponse .sent) s = s.goes (stopped alert)) ∧
    (wins → exec (.alertResponse .sent) s = s.goes (stopped ((sends takes answer).wf R.MGT_ALERT c c 0))) ∧
    (wins → exec (.alertResponse (.lost i)) s = s.goes (stopped (if answer.testBit i
      then sends takes (answer ||| (2 ^ (i.val + 1) - 1)) else (sends takes answer).wf R.MGT_ALERT c c 0))) ∧
    (wins → exec (.alertResponse (.pause stand)) s = s.goes (
      let y := onMgt takes { takes.mgt with alert := some (c, answer), cur := some (BitVec.ofNat 8 answer) }
      if (match stand with | .ack => true | .bit i => !(BitVec.ofNat 8 answer).getLsbD i) = true then low y else y)) ∧
    (free → d.mgt.alert = some (c, n) → exec (.alertResponse .sent) s = s.goes (stopped ((sends (still d) n).wf R.MGT_ALERT c c 0))) ∧
    (d.boot.step = some 0 → exec (.mgtWriteTransfer (.start addr) bytes ending) s = s.stays ∧ get n = s.stays)
/-! ### Monitor and kettle, clocks, calibration -/

/-- EN starts the monitor at entry 0 and stops it at the end of the running entry; an entry with WAIT waits for its channel or its timeout; a result is the corrected mean of its conversions. The kettle evaluates the usable diodes, six or more, and wants a state by the highest code and the
highest rate; four agreeing evaluations change its state, and SHUTDOWN stops pours, pumps and lanes and latches the cause. Its grace time ends in an enforced cut, and SERVICE takes that back. -/
def Obligations.MonitorAndKettle : Prop :=
  ∀ (s : State) (p : Owner) (v : Word) (since t : Nat) (ns : Bool) (ma mb : List Int) (tq : Nat) (rr : Int),
    let d := s.dev.hold
    let e := s.ready
    let onMon := fun (d : Dev) (m : Mon) => { d with mon := m }
    let onKtl := fun (d : Dev) (k : Ktl) => { d with ktl := k }
    let ctl := e.store R.MON_CTRL 0x1FB v
    let first := e.rd (R.MON_SEQk 0)
    let st := e.store R.MON_START 0xE000F0FFF v
    let phase := e.store R.KTL_CTRL 1 v
    let run := d.dark = false
    let w := d.mon.word
    let n := d.mon.repeats
    let ch := field w 33 29
    let ends := since + n * d.mon.conv
    let mean := fun (corr : Word) (raw : List Int) => entryResult ((List.range n).map (fun k => convert corr (raw.getD k 0)))
    let one := run ∧ d.mon.phase = .converting since ns ∧ d.mon.corrOld = [] ∧ bit w 4 = false ∧ d.tick ≤ ends
    let a := mean (d.rd (R.MON_CORR_MAc ch)) ma
    let b := mean (d.rd (R.MON_CORR_MAc (32 + ch))) mb
    let compared := fun (z : Dev) => match z.mon.pair with
      | none => z
      | some (x, y) => let q := onMon z { z.mon with pair := none }
        if (d.rd R.MON_XLIMIT).toNat < max x y - min x y then (q.bump R.MON_DISAGREE_COUNT).log Ev.MON_DISAGREE x y else q
    let judged := compared (d.to t)
    let due := max d.tick (d.ktl.lastEval + (d.rd R.KTL_STALE).toNat)
    let seen := (List.finRange 12).filter (fun i => (d.ktl.diodes[i]).usable due (d.rd R.KTL_STALE).toNat)
    let hot := (∀ i ∈ seen, (d.ktl.diodes[i]).temp ≤ tq ∧ (d.ktl.diodes[i]).rate ≤ rr) ∧ (∃ i ∈ seen, (d.ktl.diodes[i]).temp = tq) ∧
      ∃ i ∈ seen, (d.ktl.diodes[i]).rate = rr
    let was := d.ktl.state
    let RW : Int := field (d.rd R.KTL_LIMITS) 35 26
    let RT : Int := field (d.rd R.KTL_LIMITS) 25 16
    let WT : Int := field (d.rd R.KTL_LIMITS) 13 0
    let want := if 10816 ≤ tq then 3 else if RT < rr ∨ (was = 2 ∧ RT - 32 < rr) then 2
      else if RW < rr ∨ WT ≤ tq ∨ ((was = 1 ∨ was = 2) ∧ ¬ (rr ≤ RW - 32 ∧ (tq : Int) ≤ WT - 128)) then 1 else 0
    (Now d p → bit (e.rd R.MON_CTRL) 0 = false → bit v 0 = true → e.mon.phase = .stopped → exec (.monCtrlWrite p v) s =
      s.wrote p R.MON_CTRL (onMon ctl { ctl.mon with
        table := (List.range 64).map (fun i => e.rd (R.MON_SEQk i)), len := v.toNat / 8 % 64, lp := bit v 1, entry := 0, corrOld := [],
        phase := if bit first 3 then .waiting e.tick else .converting e.tick false })) ∧
    (Now d p → bit (e.rd R.MON_CTRL) 0 = true → bit v 0 = false → exec (.monCtrlWrite p v) s =
      s.wrote p R.MON_CTRL (onMon ctl { ctl.mon with stopping := ctl.mon.phase != .stopped })) ∧
    (Now d p → bit (e.rd R.MON_CTRL) 0 = bit v 0 → exec (.monCtrlWrite p v) s = s.wrote p R.MON_CTRL ctl) ∧
    (Now d p → exec (.monStartWrite p v) s = s.wrote p R.MON_START
      (if bit v 35 && bit v 34 then st.askClaim 5 0 [0x020 + v.toNat / 2 ^ 16 % 16] else st.releaseClaim 5 0)) ∧
    (run → d.mon.phase = .waiting since → exec .monStartTimeout s = s.goes (
      let y := ((d.to (since + (d.rd R.MON_START_TIMEOUT).toNat)).bump R.MON_NOSTART_COUNT).log Ev.MON_NOSTART 0 0
      onMon y { y.mon with phase := .converting (since + (d.rd R.MON_START_TIMEOUT).toNat) true, corrOld := [] })) ∧
    ((∀ k, d.mon.phase ≠ .waiting k) → exec .monStartTimeout s = s.stays) ∧
    (run → d.mon.phase = .started t → exec .monConversionBegin s = s.goes (onMon (d.to t) { d.mon with
      phase := .converting t false, corrOld := [] })) ∧
    ((∀ k, d.mon.phase ≠ .started k) → exec .monConversionBegin s = s.stays) ∧
    (one → field w 35 34 = 0 → a.2.1 = false → a.2.2 = false → exec (.monEntryResult ma mb) s = s.goes (
      let y := (d.to ends).wf (R.MON_RESc ch) 35 18 (16 * a.1 + 2 * b2n d.mon.settleA + b2n ns)
      onMon y { y.mon with settleA := false, phase := .delaying (ends + 4000 * field w 20 5) })) ∧
    (one → field w 35 34 = 1 → b.2.1 = false → b.2.2 = false → exec (.monEntryResult ma mb) s = s.goes (
      let y := (d.to ends).wf (R.MON_RESc ch) 17 0 (16 * b.1 + 2 * b2n d.mon.settleB + b2n ns)
      onMon y { y.mon with settleB := false, phase := .delaying (ends + 4000 * field w 20 5) })) ∧
    ((∀ k x, d.mon.phase ≠ .converting k x) → exec (.monEntryResult ma mb) s = s.stays) ∧
    (run → d.mon.phase = .delaying t → d.mon.entry < d.mon.len → d.mon.stopping = false → 12 ≤ ch → exec .monEntryEnd s = s.goes (
      onMon judged { judged.mon with
        entry := d.mon.entry + 1, corrOld := [],
        phase := if bit (d.mon.table.getD (d.mon.entry + 1) 0) 3 then .waiting t else .converting t false })) ∧
    (run → d.mon.phase = .delaying t → d.mon.entry < d.mon.len → d.mon.stopping = true → 12 ≤ ch → bit (d.rd R.MON_CTRL) 0 = false →
      exec .monEntryEnd s = s.goes (onMon judged { judged.mon with stopping := false, phase := .stopped })) ∧
    ((∀ k, d.mon.phase ≠ .delaying k) → exec .monEntryEnd s = s.stays) ∧
    (run → seen.length < 6 → ∃ y : Dev, exec .kettleStaleEvaluation s = s.goes y ∧ y.ktl.blind = true ∧ y.ktl.usable = seen.length ∧
      y.ktl.state = was ∧ y.ktl.count = d.ktl.count ∧ y.ktl.lastEval = due ∧ y.tick = due ∧ bit (y.rd R.MGT_ALERT) 1 = true) ∧
    (run → 6 ≤ seen.length → hot → ∃ y : Dev, exec .kettleStaleEvaluation s = s.goes y ∧ y.ktl.blind = false ∧ y.ktl.usable = seen.length ∧
      y.ktl.lastEval = due ∧ y.tick = due ∧
      (want = was → y.ktl.state = was ∧ y.ktl.count = 0) ∧
      (want ≠ was → want ≠ d.ktl.cand → y.ktl.state = was ∧ y.ktl.cand = want ∧ y.ktl.count = 1) ∧
      (want ≠ was → want = d.ktl.cand → d.ktl.count < 3 → y.ktl.state = was ∧ y.ktl.count = d.ktl.count + 1) ∧
      (want ≠ was → want = d.ktl.cand → d.ktl.count = 3 → y.ktl.state = want ∧ y.ktl.count = 0 ∧
        (∃ e ∈ y.evt.held.getD [], e.code = Ev.KTL_STATE ∧ e.source = was ∧ e.detail = BitVec.ofNat 36 want) ∧
        (want = 3 → y.rdo.pour = none ∧ y.rdo.serving = none ∧ y.stp.pumpReady = false ∧ y.lnk.idle = true ∧ y.boot.step = none ∧
          (∃ i ∈ seen, (d.ktl.diodes[i]).temp = tq ∧ y.boot.shut = (1, i.val, tq, 0)) ∧ field (y.rd R.PWR_STATE) 35 33 = 4 ∧
          bit (y.rd R.PWR_STATE) 30 = true ∧ bit (y.rd R.PWR_FAULT) 1 = true ∧ bit (y.rd R.MGT_ALERT) 0 = true ∧
          ∃ e ∈ y.evt.held.getD [], e.code = Ev.KTL_CRIT))) ∧
    (∀ (x : Dev) (want dn tq : Nat),
      (want = x.ktl.state → x.ktlCount want dn tq = onKtl x { x.ktl with count := 0 }) ∧
      (want ≠ x.ktl.state → want ≠ x.ktl.cand → x.ktlCount want dn tq = onKtl x { x.ktl with cand := want, count := 1 }) ∧
      (want ≠ x.ktl.state → want = x.ktl.cand → x.ktl.count < 3 → x.ktlCount want dn tq = onKtl x { x.ktl with count := x.ktl.count + 1 }) ∧
      (want ≠ x.ktl.state → want = x.ktl.cand → x.ktl.count = 3 → want < 3 → (x.ktlCount want dn tq).ktl.state = want)) ∧
    (run → d.ktl.graceEnd = some t → d.ktl.state = 2 → exec .kettleGraceExpiry s = s.goes (
      (onKtl (d.to t) { d.ktl with graceEnd := none, enforced := true }).log Ev.KTL_ENFORCE 0 0)) ∧
    (d.ktl.graceEnd = none → exec .kettleGraceExpiry s = s.stays) ∧
    (Now d p → bit v 0 = true → exec (.kettlePhaseWrite p v) s =
      s.wrote p R.KTL_CTRL (onKtl phase { phase.ktl with graceEnd := none, enforced := false })) ∧
    (Now d p → bit v 0 = false → exec (.kettlePhaseWrite p v) s = s.wrote p R.KTL_CTRL (onKtl phase (
      if phase.ktl.state = 2 then { phase.ktl with prop := 0, slow := true, graceEnd := some (e.tick + (e.rd R.KTL_GRACE).toNat) }
      else { phase.ktl with prop := 0 })))

/-- A lost reference takes both PLLs into holdover, a lost lock one of them, counted and logged; the link PLL's holdover times its coasting. The reference returning is seen; a relock ends the holdover with its uncertainty kept, and starts a training of a link that had expired, once boot step 9 is reached; a lock timeout
fails boot step 7. -/
def Obligations.ClockLossAndReturn : Prop :=
  ∀ (s : State) (link : Bool),
    let d := s.dev.hold
    let st := d.rd R.CLK_STATUS
    let onClk := fun (d : Dev) (c : Clk) => { d with clk := c }
    let loseLink := fun (d : Dev) (ev : Nat) =>
      let y := ((d.wf R.CLK_STATUS 32 32 0).wf R.CLK_STATUS 31 31 1).bump R.CLK_LK_LOSSES
      let z := (onClk y { y.clk with lkSince := d.tick }).log ev 2 0
      { z with lnk := { z.lnk with cur := z.lnk.cur.map (fun c => { c with holdover := c.holdover || c.fsSent }),
                                   pv := z.lnk.pv.map (fun q => { q with holdover := q.holdover || q.line != 0 }) } }
    let idleEntries := ∀ o, (d.en o).st ≠ .steeping
    let loseTb := fun (d : Dev) (ev : Nat) =>
      let y := ((d.wf R.CLK_STATUS 34 34 0).wf R.CLK_STATUS 33 33 1).bump R.CLK_TB_LOSSES
      (onClk y { y.clk with tbSince := d.tick, extra := 0 }).log ev 1 0
    (bit st 35 = false → exec .refLost s = s.stays ∧ exec (.pllUnlock link) s = s.stays) ∧
    (bit st 35 = true → idleEntries → exec .refLost s = s.goes (
      let y := d.wf R.CLK_STATUS 35 35 0
      let z := if d.clk.tbStarted && !bit st 33 then loseTb y Ev.CLK_REF_LOST else y
      if d.clk.lkStarted && !bit st 31 then loseLink z Ev.CLK_REF_LOST else z)) ∧
    (bit st 35 = true → bit st 32 = true → exec (.pllUnlock true) s = s.goes (loseLink d Ev.CLK_UNLOCK)) ∧
    (bit st 35 = true → bit st 34 = true → idleEntries → exec (.pllUnlock false) s = s.goes (loseTb d Ev.CLK_UNLOCK)) ∧
    (bit st 35 = true → bit st (if link then 32 else 34) = false → exec (.pllUnlock link) s = s.stays) ∧
    (exec .refReturn s = s.goes (if d.clk.tbStarted || d.clk.lkStarted then d.wf R.CLK_STATUS 35 35 1 else d)) ∧
    (bit st 35 = false → ∀ band, exec (.pllRelock link band) s = s.stays) ∧
    (bit st 35 = true → bit st 33 = true → exec (.pllRelock false false) s = s.goes
      ((((d.wr R.CLK_TB_UNCERT d.tbUncert).wf R.CLK_STATUS 33 33 0).wf R.CLK_STATUS 34 34 1).log Ev.CLK_RELOCK 0 0)) ∧
    (bit st 35 = true → bit st 33 = true → ∃ y : Dev, exec (.pllRelock false true) s = s.goes y ∧ y.clk.extra = d.clk.extra + 2000 ∧
      bit (y.rd R.CLK_STATUS) 34 = true ∧ bit (y.rd R.CLK_STATUS) 33 = false ∧
      field (y.rd R.CLK_STATUS) 5 0 ≠ field st 5 0) ∧
    (bit st 35 = true → d.clk.lkStarted = true → bit st 32 = false → bit st 31 = true → bit st 30 = false →
      exec (.pllRelock true false) s = s.goes
        ((((d.wf R.CLK_STATUS 32 32 1).wf R.CLK_STATUS 31 31 0).wf R.CLK_STATUS 30 30 0).log Ev.CLK_RELOCK 0 0)) ∧
    (bit st 35 = true → d.clk.lkStarted = true → bit st 32 = false → bit st 31 = true → bit st 30 = true → d.dark = false →
      exec (.pllRelock true false) s = s.goes (
        let y := (((d.wf R.CLK_STATUS 32 32 1).wf R.CLK_STATUS 31 31 0).wf R.CLK_STATUS 30 30 0).log Ev.CLK_RELOCK 0 0
        match d.boot.step with
        | none => y.startTraining false false 0
        | some n => if 9 ≤ n then y.startTraining (n == 9) false 0 else y)) ∧
    (d.boot.step = some 7 → d.clk.failed.testBit (b2n link) = false → exec (.pllLockTimeout link) s =
      s.goes ((onClk d { d.clk with failed := d.clk.failed + 2 ^ b2n link }).log Ev.CLK_LOCK_FAIL (if link then 2 else 1) 0)) ∧
    (d.boot.step ≠ some 7 → exec (.pllLockTimeout link) s = s.stays)
/-! ### Calibration -/

/-- Items become due by a write of CAL.RUN, by their PERIOD in the background, and item 5 by a spare being matched; items 0 to 3 run one at a time, the lowest due first and item 3 only while no pour runs, items 4 and 5 alongside. A rejected result is counted, shown, logged with item and reason and
posted as event 13, and changes no target; an accepted one (shown for items 1, 2 and 5) becomes the target, is counted and timed, and posts event 13. An item overdue is logged once. Each millisecond moves every idle delay line and every bias generator one step towards its target. A store writes the snapshot into the
older slot without its check word, then the check word; a request while it runs is kept for one more store. -/
def Obligations.CalibrationItems : Prop :=
  ∀ (s : State) (p : Owner) (v : Word) (i : Fin 6) (m : CalMeas),
    let d := s.dev.hold
    let e := s.ready
    let run := d.dark = false
    let onCal := fun (d : Dev) (c : Cal) => { d with cal := c }
    let put := fun (d : Dev) (i : Fin 6) (x : CalItem) => onCal d { d.cal with items := d.cal.items.set i.val x i.isLt }
    let x := d.item i
    let idle := fun (x : CalItem) => x.dueAt = none ∧ x.running = false
    let matching := d.cnv.matching.any (fun k => !k.matched) = true
    let period := (d.rd (R.CAL_ITEMi i)).toNat % 2 ^ 32 * 4000000
    let due := d.to (x.lastEnd + period)
    let background := bit (d.rd R.CAL_CTRL) 0 = true ∧ bit (d.rd (R.CAL_ITEMi i)) 35 = true
    let ended := fun (d : Dev) => put d i { d.item i with running := false, dueAt := none, overdue := false, lastEnd := d.tick }
    let rejected := fun (d : Dev) (reason bank : Nat) =>
      let y := (d.bump R.CAL_REJECTS).wr R.CAL_REJECT_LAST (BitVec.ofNat 36 (2 ^ 35 + bank * 2 ^ 12 + i.val * 2 ^ 8 + reason))
      (y.log Ev.CAL_REJECT i.val reason).post 13 d.tb
    let accepted := fun (d : Dev) =>
      ((((d.bump R.CAL_COUNT).wr72 R.CAL_LAST_TIME_LO d.tb).wf R.CAL_LAST_INFO 2 0 i.val).stale R.CAL_LAST_INFO 35).post 13 d.tb
    let left := d.cnv.matching.filter (fun k => !k.matched)
    let ready := left.filter (fun k => decide (16 ≤ k.pours))
    let gap := d.to (d.cal.idleFrom + rowTime (field (d.rd R.CNV_CTRL) 1 0) + 4000)
    let runs := run ∧ x.running = true ∧ d.cal.boot = false ∧ d.cal.discarded = []
    let most := max ((d.rd R.CAL_COLOFS).toNat % 2 ^ 16) 1
    let noStore := bit (d.rd R.CAL_CTRL) 1 = false
    let wildMon := fun (off : Int) (gain : Nat) => 64 < off.natAbs ∨ 16384 < 50 * (max gain 16384 - min gain 16384)
    let farTap := fun (set : List Nat) => ∃ k : Fin 72, 16 < max (set.getD k.val 256 % 512) d.cal.taps[k] - min (set.getD k.val 256 % 512) d.cal.taps[k]
    let older := if bit (e.rd (R.CAL_SLOTs 0)) 35 = false then 0 else if bit (e.rd (R.CAL_SLOTs 1)) 35 = false then 1
      else if newerSeq ((e.rd (R.CAL_SLOTs 1)).toNat % 2 ^ 32) ((e.rd (R.CAL_SLOTs 0)).toNat % 2 ^ 32) then 0 else 1
    (Now d p → exec (.calRun p v) s = s.wrote p R.CAL_RUN (onCal e { e.cal with
      items := Vector.ofFn (fun (k : Fin 6) => let y := e.cal.items[k]
        if bit v k.val = true ∧ idle y then { y with dueAt := some e.tick, overdue := false } else y) })) ∧
    (run → i.val ≠ 5 → background → idle x → exec (.calItemDue i) s = s.goes (put due i { x with dueAt := some due.tick, overdue := false })) ∧
    (i.val ≠ 5 → ¬ (background ∧ idle x) → exec (.calItemDue i) s = s.stays) ∧
    (run → i.val = 5 → matching → idle x → exec (.calItemDue i) s = s.goes (put d i { x with dueAt := some d.tick, overdue := false })) ∧
    (run → i.val < 4 → x.dueAt.isSome = true → (∀ j : Fin 6, j.val < 4 → (d.item j).running = false) →
      (∀ j : Fin 6, j.val < i.val → (d.item j).dueAt = none) → (i.val = 3 → d.rdo.pour = none) →
      exec (.calItemStart i) s = s.goes (
        let y := put d i { x with running := true }
        if i.val = 2 then y.discard ((List.range 72).filter y.lineBusy) else y)) ∧
    (run → i.val = 5 → x.dueAt.isSome = true → x.running = false → exec (.calItemStart i) s = s.goes (put d i { x with running := true })) ∧
    (run → i.val = 4 → x.dueAt.isSome = true → x.running = false → exec (.calItemStart i) s = s.goes (
      onCal d { (put d i { x with running := true }).cal with gather := {} })) ∧
    (i.val ≠ 5 → x.dueAt = none → exec (.calItemStart i) s = s.stays) ∧
    (∀ j : Fin 6, i.val < 4 → j.val < 4 → (d.item j).running = true ∨ (j.val < i.val ∧ (d.item j).dueAt.isSome = true) →
      exec (.calItemStart i) s = s.stays) ∧
    (i.val = 3 → d.rdo.pour.isSome = true → exec (.calItemStart i) s = s.stays) ∧
    (x.running = false → exec (.calItemComplete i m) s = s.stays) ∧
    (runs → i.val = 0 → ∀ bad oa ga ob gb,
      (bad = true → exec (.calItemComplete i (.mon bad oa ga ob gb)) s = s.goes (rejected (ended d) 3 0)) ∧
      (bad = false → wildMon oa ga ∨ wildMon ob gb → exec (.calItemComplete i (.mon bad oa ga ob gb)) s = s.goes (rejected (ended d) 1 0))) ∧
    (run → x.running = true → i.val = 2 → (∃ l ∈ d.cal.discarded, l < 72 ∧ d.lineBusy l = true) → exec (.calItemComplete i m) s = s.stays) ∧
    (runs → i.val = 1 → ∀ bad dev codes, let beyond := ∃ y ∈ dev, 1000 < Int.natAbs y
      (bad = true → exec (.calItemComplete i (.bias bad dev codes)) s = s.goes (rejected (ended d) 3 0)) ∧
      (bad = false → beyond → exec (.calItemComplete i (.bias bad dev codes)) s = s.goes (rejected (ended d) 1 0)) ∧
      (bad = false → ¬ beyond → noStore → exec (.calItemComplete i (.bias bad dev codes)) s = s.goes (
        accepted (onCal d { (ended d).cal with biasTarget := Vector.ofFn (fun k => codes.getD k.val 0) })))) ∧
    (runs → i.val = 2 → ∀ bad delays set, let beyond := ∃ y ∈ delays, y < 5000 ∨ 15000 < y
      (bad = true → exec (.calItemComplete i (.taps bad delays set)) s = s.goes (rejected (ended d) 3 0)) ∧
      (bad = false → beyond ∨ farTap set → exec (.calItemComplete i (.taps bad delays set)) s = s.goes (rejected (ended d) 1 0)) ∧
      (bad = false → ¬ beyond → ¬ farTap set → noStore → exec (.calItemComplete i (.taps bad delays set)) s = s.goes (
        accepted (onCal d { (ended d).cal with tapTarget := Vector.ofFn (fun k => set.getD k.val 256 % 512) })))) ∧
    (runs → i.val = 3 → d.cal.bank < 4 → ∀ bad check gains missing, bad = true ∨ 50 < Int.natAbs check →
      exec (.calItemComplete i (.ramp bad check gains missing)) s = s.goes (
        rejected (onCal d { (ended d).cal with bank := (d.cal.bank + 1) % 4 }) (if bad then 3 else 1) d.cal.bank)) ∧
    (runs → i.val = 4 → d.cal.gather.pours < most → exec (.calItemComplete i .colofs) s = s.stays) ∧
    (runs → i.val = 4 → most ≤ d.cal.gather.pours → ∀ b, b < 4 → d.cal.gather.bad = some b →
      exec (.calItemComplete i .colofs) s = s.goes (rejected (ended d) 3 b)) ∧
    (runs → i.val = 5 → left = [] → noStore → exec (.calItemComplete i (.spares false [])) s = s.goes (accepted (ended d))) ∧
    (runs → i.val = 5 → left ≠ [] → ready = [] ∨ (∃ k ∈ ready, d.bankUsed k.bank = true) → exec (.calItemComplete i m) s = s.stays) ∧
    (runs → i.val = 5 → ready ≠ [] → d.rdo.pour = none → ∀ bad l, bad = true ∨ (∃ k ∈ ready, k.bad = true) →
      exec (.calItemComplete i (.spares bad l)) s = s.goes (
        let y := ended gap
        rejected { y with cnv := { y.cnv with matching := y.cnv.matching.map (fun k =>
          if k.matched || decide (k.pours < 16) then k else { k with pours := 0, sum := (0, 0), mid := (0, 1), bad := false }) } } 3 0)) ∧
    (run → i.val ≠ 5 → ∀ t, x.dueAt = some t → x.overdue = false → 0 < period → exec (.calItemOverdue i) s = s.goes (
      (put (d.to (t + 4 * period)) i { x with overdue := true }).log Ev.CAL_OVERDUE i.val 0)) ∧
    (x.dueAt = none ∨ x.overdue = true ∨ period = 0 ∨ i.val = 5 → exec (.calItemOverdue i) s = s.stays) ∧
    (run → ∃ y : Dev, exec .calSlewTick s = s.goes y ∧ y.tick = max d.tick (d.cal.lastSlew + 4000000) ∧ y.cal.lastSlew = y.tick ∧
      (∀ l : Fin 72, y.cal.taps[l] = if d.lineBusy l.val then d.cal.taps[l]
        else if d.cal.taps[l] < d.cal.tapTarget[l] then d.cal.taps[l] + 1
        else if d.cal.tapTarget[l] < d.cal.taps[l] then d.cal.taps[l] - 1 else d.cal.taps[l]) ∧
      (∀ k : Fin 32, y.cal.bias[k] = if d.cal.bias[k] < d.cal.biasTarget[k] then d.cal.bias[k] + 1
        else if d.cal.biasTarget[k] < d.cal.bias[k] then d.cal.bias[k] - 1 else d.cal.bias[k]) ∧
      y.cal.tapTarget = d.cal.tapTarget ∧ y.cal.biasTarget = d.cal.biasTarget ∧ y.cal.ofs = d.cal.ofs ∧
      y.cal.gain = d.cal.gain ∧ y.cal.items = d.cal.items ∧ y.ctl = d.ctl) ∧
    (Now d p → e.dark = true → exec (.calStore p v) s = s.wrote p R.CAL_STORE e) ∧
    (Now d p → e.dark = false → e.cal.storing.isSome = true → exec (.calStore p v) s = s.wrote p R.CAL_STORE (onCal e { e.cal with again := true })) ∧
    (Now d p → e.dark = false → e.cal.storing = none → ∀ k, e.newestSlot 2 = some k → exec (.calStore p v) s = s.wrote p R.CAL_STORE (
      let seq := ((e.rd (R.CAL_SLOTs k)).toNat % 2 ^ 32 + 1) % 2 ^ 32
      let img := slotImage 2 (e.caddyBytes seq)
      onCal ((e.nvmWrite (slotBase 2 older) (img.take 131068)).wf (R.CAL_SLOTs older) 35 35 0) { e.cal with
        storing := some ⟨older, seq, img⟩, lastStore := some e.tick })) ∧
    (d.cal.storing = none → ∀ ok, exec (.calStoreComplete ok) s = s.stays) ∧
    (run → ∀ st, d.cal.storing = some st → d.cal.again = false →
      exec (.calStoreComplete true) s = s.goes (
        (onCal ((d.nvmWrite (slotBase 2 st.slot + 131068) (st.bytes.drop 131068)).wf (R.CAL_SLOTs st.slot) 35 0 (st.seq + 2 ^ 35))
          { d.cal with storing := none }).log Ev.CAL_STORE 0 0) ∧
      exec (.calStoreComplete false) s = s.goes ((onCal d { d.cal with storing := none }).log Ev.CAL_STORE_FAIL st.slot 0))
/-! ### Security -/

/-- GO programs a fuse field unless it is programmed, the writer is neither the host port nor the management bus, or no image could boot afterwards; the outcome stands in RESULT and is logged, and the data are cleared. The end of a programming changes its field; when its verification fails the
content is free (log entry 3). -/
def Obligations.FuseProgramming : Prop :=
  ∀ (s : State) (p : Owner) (v : Word),
    let d := s.dev.hold
    let e := s.ready
    let f := s.fuses
    let code := v.toNat % 8
    let on := Now d p ∧ e.isShut = false
    let usable0 := f.vk0.isSome = true ∧ f.rev0 = false
    let usable1 := f.vk1.isSome = true ∧ f.rev1 = false
    let programmed := (code = 0 ∧ f.secure = true) ∨ (code = 1 ∧ f.kd.isSome = true) ∨ (code = 2 ∧ f.vk0.isSome = true) ∨
      (code = 3 ∧ f.vk1.isSome = true) ∨ (code = 4 ∧ f.rev0 = true) ∨ (code = 5 ∧ f.rev1 = true) ∨ (code = 6 ∧ 64 ≤ f.svn)
    let bricks := (code = 0 ∧ (f.kd = none ∨ ¬ (usable0 ∨ usable1))) ∨ (code = 4 ∧ (f.vk0 = none ∨ (f.secure = true ∧ ¬ usable1))) ∨
      (code = 5 ∧ (f.vk1 = none ∨ (f.secure = true ∧ ¬ usable0)))
    let cleared := { e with sec := { e.sec with fuseData := Vector.replicate 8 0 } }
    let ends := fun (d : Dev) (r : Nat) => (d.wf R.SEC_FUSE_CTRL 33 31 r).log Ev.SEC_FUSE 0 0
    let data := beNat ((List.finRange 8).flatMap (fun j => natBytes 4 (e.sec.fuseData[j].toNat % 2 ^ 32)))
    let result := fun (c w : Nat) => if c = 0 then { f with secure := true } else if c = 1 then { f with kd := some w }
      else if c = 2 then { f with vk0 := some w } else if c = 3 then { f with vk1 := some w } else if c = 4 then { f with rev0 := true }
      else if c = 5 then { f with rev1 := true } else { f with svn := f.svn + 1 }
    let done := fun (r : Nat) => ends { (d.wf R.SEC_FUSE_CTRL 34 34 0) with sec := { d.sec with fuseBusy := none } } r
    (Now d p → code = 7 ∨ e.sec.fuseBusy.isSome = true → exec (.fuseProgram p v) s = s.wrote p R.SEC_FUSE_CTRL e) ∧
    (Now d p → e.isShut = true → exec (.fuseProgram p v) s = s.wrote p R.SEC_FUSE_CTRL e) ∧
    (on → e.sec.fuseBusy = none → code ≠ 7 → programmed → exec (.fuseProgram p v) s = s.wrote p R.SEC_FUSE_CTRL (ends cleared 1)) ∧
    (on → e.sec.fuseBusy = none → code ≠ 7 → ¬ programmed → p = .relay →
      exec (.fuseProgram p v) s = s.wrote p R.SEC_FUSE_CTRL (ends cleared 2)) ∧
    (on → e.sec.fuseBusy = none → ¬ programmed → p ≠ .relay → bricks →
      exec (.fuseProgram p v) s = s.wrote p R.SEC_FUSE_CTRL (ends cleared 3)) ∧
    (on → e.sec.fuseBusy = none → code ≠ 7 → ¬ programmed → p ≠ .relay → ¬ bricks →
      exec (.fuseProgram p v) s = s.wrote p R.SEC_FUSE_CTRL
        { (cleared.wf R.SEC_FUSE_CTRL 34 34 1) with sec := { cleared.sec with fuseBusy := some (code, data) } }) ∧
    (d.sec.fuseBusy = none ∨ d.isShut = true → ∀ ok, exec (.fuseProgramDone ok) s = s.stays) ∧
    (d.isShut = false → ∀ c w, d.sec.fuseBusy = some (c, w) → exec (.fuseProgramDone true) s =
      .next { s with dev := (done 0).decided s.dev, fuses := result c w }) ∧
    (d.isShut = false → ∀ c w, d.sec.fuseBusy = some (c, w) → ∃ x g, exec (.fuseProgramDone false) s =
      .next { s with dev := ({ done 4 with free := d.free + 1 } : Dev).decided s.dev, fuses := g } ∧ (c ≠ 6 → g = result c x) ∧
      (c = 6 → f.svn ≤ 64 → x ≤ 64 - f.svn ∧ g = { f with svn := f.svn + x }))

/-- TAG_EN keeps the tag from being turned on without KD and off while SECURE is set; REKEY takes a new session number, stored before it is used, and one that cannot be stored sets TAG_FAULT. An attestation ends at once without a valid AK, can be aborted, and answers the signed 256-byte
response, or the reason why there is none. -/
def Obligations.SessionAndAttestation : Prop :=
  ∀ (s : State) (p : Owner) (v : Word) (ok : Bool) (r : AttReq),
    let d := s.dev.hold
    let e := s.ready
    let x := (s.storing ok).ready
    let onSec := fun (d : Dev) (c : Sec) => { d with sec := c }
    let kd := fun (d : Dev) => d.sec.sensed.kd.isSome = true ∧ d.isShut = false
    let tagEn := fun (d : Dev) =>
      if bit v 0 then (if d.sec.sensed.kd.isSome then d.wf R.SEC_CTRL 0 0 1 else d)
      else if d.sec.sensed.secure then d.log Ev.SECURE_LOCKED 0 0 else d.wf R.SEC_CTRL 0 0 0
    let number := (x.nvm.session + 1) % 2 ^ 32
    let y := tagEn x
    let st := e.store R.SEC_ATT_CTRL (2 ^ 33) v
    let fails := fun (d : Dev) (n : Nat) =>
      onSec (((d.wf R.SEC_ATT_CTRL 32 32 0).wf R.SEC_ATT_CTRL 30 30 1).wf R.SEC_ATT_CTRL 2 0 n) { d.sec with att := none }
    let fresh := (st.wf R.SEC_ATT_CTRL 31 31 0).wf R.SEC_ATT_CTRL 30 30 0
    let chal := (List.range 8).flatMap (fun j => natBytes 4 ((e.rd (R.SEC_CHALj j)).toNat % 2 ^ 32))
    let range := if bit v 33 then some ((e.rd R.SEC_ATT_BASE).toNat % 2 ^ 29, (e.rd R.SEC_ATT_WORDS).toNat % 2 ^ 30) else none
    let body := beBytes 4 1 ++ beBytes 8 d.sec.uid ++ wordBytes (d.rd R.ID_DEVICE) ++ wordBytes (d.rd R.ID_REVISION) ++
      wordBytes d.idProfile ++ wordBytes d.secStatus ++ beBytes 4 d.sec.slotSeq ++ beBytes 32 d.sec.imageHash ++ beBytes 32 d.sec.vkHash ++
      beBytes 4 d.sec.session ++ beBytes 9 r.stamp.toNat ++ r.chal ++ List.replicate 40 0 ++ List.replicate 7 0
    (Now d p → bit v 35 = false → exec (.tagEnWrite p v) s = s.wrote p R.SEC_CTRL (tagEn e)) ∧
    (Now d p → ¬ kd x → exec (.rekey p v ok) s = (s.storing ok).wrote p R.SEC_CTRL y) ∧
    (Now d p → kd x → x.nvm.ok = true → exec (.rekey p v ok) s = (s.storing ok).wrote p R.SEC_CTRL (
      { y with nvm := y.nvm.store number true, sec := { y.sec with sNext := number, tagFault := false } }.log Ev.SEC_REKEY 0 number)) ∧
    (Now d p → kd x → x.nvm.ok = false → exec (.rekey p v ok) s = (s.storing ok).wrote p R.SEC_CTRL (
      let w := { y with nvm := y.nvm.store number false }
      let z := if x.sec.tagFault then w else w.log Ev.SEC_TAG_FAIL 0 0
      (onSec z { z.sec with tagFault := true }).alertClass 5)) ∧
    ((∀ k : Fin 2, x.nvm.sessions[k].number < 2 ^ 32) → (x.nvm.store number true).session = number) ∧
    (Now d p → bit v 34 = true → exec (.attest p v) s = s.wrote p R.SEC_ATT_CTRL e) ∧
    (Now d p → bit v 34 = false → e.sec.att.isSome = true ∨ e.dark = true → exec (.attest p v) s = s.wrote p R.SEC_ATT_CTRL st) ∧
    (Now d p → e.dark = false → bit v 34 = false → e.sec.att = none → e.sec.akValid = false →
      exec (.attest p v) s = s.wrote p R.SEC_ATT_CTRL (fails fresh 1)) ∧
    (Now d p → e.dark = false → bit v 34 = false → e.sec.att = none → e.sec.akValid = true → exec (.attest p v) s = s.wrote p R.SEC_ATT_CTRL (
      onSec (fresh.wf R.SEC_ATT_CTRL 32 32 1) { e.sec with att := some ⟨range, e.tb, chal⟩ })) ∧
    (Now d p → bit v 35 = true → exec (.attestAbort p v) s = s.wrote p R.SEC_ATT_CTRL e) ∧
    (Now d p → e.dark = false → bit v 35 = false → e.sec.att.isSome = true → exec (.attestAbort p v) s = s.wrote p R.SEC_ATT_CTRL (fails st 4)) ∧
    (Now d p → bit v 35 = false → e.sec.att = none ∨ e.dark = true → exec (.attestAbort p v) s = s.wrote p R.SEC_ATT_CTRL st) ∧
    (d.sec.att = none → exec .attestComplete s = s.stays) ∧
    (d.dark = false → d.sec.att = some r → ∀ b n, r.range = some (b, n) → n = 0 ∨ d.usableTop < b + n →
      exec .attestComplete s = s.goes ((fails d 2).alertClass 5)) ∧
    (d.dark = false → d.sec.att = some r → r.range = none → ∃ (sig : Nat × Nat) (y : Dev), exec .attestComplete s = s.goes y ∧
      (∀ g, ecdsaSign Config.ak (sha256 body) = some g → sig = g) ∧ y.sec = { d.sec with att := none } ∧
      bit (y.rd R.SEC_ATT_CTRL) 32 = false ∧ bit (y.rd R.SEC_ATT_CTRL) 31 = true ∧
      (∀ j, j < 64 → y.rd (R.SEC_ATT_OUTj j) =
        BitVec.ofNat 36 (bytesNat (((body ++ beBytes 32 sig.1 ++ beBytes 32 sig.2).drop (4 * j)).take 4))))
/-! ### Power, boot and the configuration copies -/

/-- A supply fault shows its rails, asserts NFAULT, is logged and makes CRITICAL pending. A reset returns every register to its reset value and begins a start at step 0 with its cause: power-on and brown-out clear the sticky fields and count one start, a brown-out holding the device until every rail is back, NRST and a soft reset by the host port or the management
bus keep the sticky fields and the shutdown latch and count the start. MRAM and fuses live on. -/
def Obligations.ResetsAndSupplyFaults : Prop :=
  ∀ (s : State) (p : Owner) (v : Word) (uv ov : BitVec 6) (strap : BitVec 4) (sampled : Option (BitVec 4)),
    let d := s.dev.hold
    let rails := uv ||| ov
    let masked := fun (w : Word) (m : Nat) => w &&& BitVec.ofNat 36 m
    let began := fun (b u : Dev) (cause rails : Nat) (kept : Bool) (strap : BitVec 4) =>
      let st := b.rd R.PWR_STATE
      u.rd R.PWR_STATE = BitVec.ofNat 36 (2 ^ 33 + cause * 2 ^ 27 +
        (if kept then 2 ^ 30 * b2n (bit st 30) + min (st.toNat % 2 ^ 24 + 1) 0xFFFFFF else 1)) ∧
      (kept = true → u.rd R.PWR_FAULT = masked (b.rd R.PWR_FAULT) 0x3F02 ∧ u.rd R.CFG_CTRL = masked (b.rd R.CFG_CTRL) 1 ∧
        u.rd R.CNV_EDGE_FAIL_L = b.rd R.CNV_EDGE_FAIL_L ∧ u.rd R.CNV_EDGE_FAIL_R = b.rd R.CNV_EDGE_FAIL_R) ∧
      u.rd R.PWR_RAILS = BitVec.ofNat 36 (rails % 2 ^ 12) ∧
      (∀ a, a ≠ R.PWR_STATE → a ≠ R.PWR_RAILS → (kept = false ∨ a ∉ [R.PWR_FAULT, R.CFG_CTRL, R.CNV_EDGE_FAIL_L, R.CNV_EDGE_FAIL_R]) → u.rd a = resetOf a) ∧
      u.boot = { rails := rails, inReset := if cause = 1 then decide (rails ≠ 0) else decide (rails % 64 ≠ 0) } ∧ u.tick = b.tick ∧ u.tb = 0 ∧
      u.tbRun = false ∧ u.evt = { held := some [] } ∧ u.seq = {} ∧ u.cnv = { edgeBad := if kept then b.cnv.edgeBad else [] } ∧ u.mgt = { strap := strap } ∧
      u.claims = [] ∧ u.stp = {} ∧ u.frm = {} ∧ u.rdo = {} ∧ u.mem = {} ∧ u.pip = {} ∧ u.lnk = {} ∧ u.tim = {} ∧ u.fab = {} ∧ u.clk = {} ∧
      u.mon = {} ∧ u.ktl = { lastEval := b.tick } ∧ u.cal = { lastSlew := b.tick, items := Vector.replicate 6 { lastEnd := b.tick } } ∧ u.hst = {} ∧ u.sec.sensed = {} ∧ u.sec.session = 0 ∧ u.sec.att = none ∧
      u.nvm.fallback = b.nvm.fallback ∧ u.nvm.sessions = b.nvm.sessions ∧ u.nvm.startNo = (b.nvm.startNo + 1) % 2 ^ 32
    let shown := { d with boot := { d.boot with rails := uv.toNat + 64 * ov.toNat } }.wr R.PWR_RAILS (BitVec.ofNat 36 (64 * ov.toNat + uv.toNat))
    (uv = 0 → ov = 0 → exec (.supplyFault uv ov) s = s.goes ({ d with boot := { d.boot with rails := 0, inReset := false } }.wr R.PWR_RAILS 0)) ∧
    (rails ≠ 0 → d.boot.inReset = true → exec (.supplyFault uv ov) s = s.goes
      ({ shown with boot := { shown.boot with inReset := decide (field (d.rd R.PWR_STATE) 29 27 = 1 ∨ uv ≠ 0) } })) ∧
    (rails ≠ 0 → d.boot.inReset = false → exec (.supplyFault uv ov) s = s.goes (
      let y := (shown.wf R.PWR_FAULT 13 8 (field (shown.rd R.PWR_FAULT) 13 8 ||| rails.toNat)).wf R.PWR_FAULT 0 0 1
      (y.log Ev.SUPPLY_FAULT rails.toNat 0).alertClass 0)) ∧
    (∃ y : Dev, exec (.powerOnReset sampled) s = s.goes y ∧ y.nvm.bytes = d.nvm.bytes ∧
      began d y 0 (d.boot.rails / 64 * 64) false (sampled.getD d.mgt.strap)) ∧
    (∃ y : Dev, exec (.brownOutReset false) s = s.goes y ∧ y.nvm.bytes = d.nvm.bytes ∧ began d y 1 d.boot.rails false d.mgt.strap) ∧
    (∃ y : Dev, exec (.brownOutReset true) s = s.goes y ∧ began d y 1 d.boot.rails false d.mgt.strap) ∧
    (∃ y : Dev, exec (.nrstReset strap) s = s.goes y ∧ y.nvm.bytes = d.nvm.bytes ∧ began d y 2 d.boot.rails true strap) ∧
    (Now d p → p ≠ .relay → ∃ y : Dev, exec (.softReset p v) s = s.goes y ∧ y.nvm.bytes = s.ready.nvm.bytes ∧
      began s.ready y 3 s.ready.boot.rails true s.ready.mgt.strap) ∧
    (Now d p → p = .relay → exec (.softReset p v) s = s.wrote p R.PWR_CTRL s.ready)

/-- Each boot step ends with its result and hands on to the next: step 1 senses the fuses, goes back to SHUTDOWN under the latch and into maintenance when forced or when MRAM or the fuses cannot be read; step 2 takes the newer valid slot left; step 3 is skipped without SECURE and excludes a slot
without a signature; step 4 shows which copies it lacks; step 5 clears the trained channels, and a channel that fails is recorded and restarts the start; an optional step, 6 or 8 to 10, waits for what it started, counts its failures in a row and keeps them in the fallback record; step 7 starts the timebase, and a
timebase PLL that fails leads to a restart or maintenance; step 11 enters RUN. -/
def Obligations.BootSteps : Prop :=
  ∀ (s : State) (x : BitVec 8),
    let d := s.dev.hold
    let at_ := fun (k : Nat) => d.boot.step = some k
    let maintained := fun (u : Dev) (cause : Nat) =>
      field (u.rd R.PWR_STATE) 35 33 = 3 ∧ field (u.rd R.PWR_STATE) 26 24 = cause ∧ bit (u.rd R.PWR_FAULT) 2 = true ∧
      bit (u.rd R.MGT_ALERT) 4 = true ∧ field (u.rd R.MEM_STATUS) 15 0 = 0xFFFF ∧ u.tb = 0 ∧ u.tbRun = false ∧
      u.boot.step = none ∧ u.boot.outcome = 3
    let restarted := fun (u : Dev) => u.boot.step = some 1 ∧ field (u.rd R.PWR_STATE) 35 33 = 1 ∧
      field (u.rd R.PWR_STATE) 29 27 = 4 ∧ bit (u.rd R.MGT_ALERT) 4 = true ∧ u.boot.results = d.boot.results.take 1
    let early := (∀ f : Fin 4, (d.port f).st = 0) ∧ d.lnk.cur = none ∧ d.lnk.pv = none ∧ d.lnk.state = 0
    let held := if field (d.rd R.PWR_STATE) 29 27 = 1 then d.boot.rails ≠ 0 else d.boot.rails % 64 ≠ 0
    let done := fun (u : Dev) (code : Nat) => u.boot.results = d.boot.results ++ [(if code = 0 then 1 else 2, code)]
    let rec_ := d.nvm.fallback
    let counted := fun (u : Dev) (k code : Nat) => u.nvm.fallback.counts.getD k 0 = if code = 0 then 0 else min (rec_.counts.getD k 0 + 1) 3
    let follows := fun (u : Dev) (k : Nat) => u.boot.step = some k
    let shaped := rec_.counts.length = 4 ∧ rec_.chans.length = 8
    let failing := (List.range 8).foldl (fun n c => if x.getLsbD c && rec_.chans.getD c 0 != 2 then n + 2 ^ c else n) 0
    let ports := (List.finRange 4).foldl (fun n f => if (d.port f).st = 5 then n + 2 ^ f.val else n) 0
    let lanes := lanesLess (field (d.rd R.LNK_LANE_FAIL) 33 0) rec_.lanes
    let link := if lanes = 0 then 0 else if d.lnk.state ≠ 2 then 3 else if d.lnk.wide then 1 else 2
    let calibrated := ∀ k : Fin 6, k.val < 4 → (d.item k).running = false ∧ (d.item k).dueAt = none
    let latch := bit (d.rd R.PWR_STATE) 30
    let valid := fun (k : Nat) => bit (d.rd (R.CFG_SLOTs k)) 35 = true ∧ d.boot.excluded.testBit k = false
    let seq := fun (k : Nat) => (d.rd (R.CFG_SLOTs k)).toNat % 2 ^ 32
    let slot := d.boot.slot.getD 0
    let records := slotBase 0 slot + 0x40
    (d.boot.step = none → exec (.bootStepComplete x) s = s.stays) ∧
    (at_ 0 → held → exec (.bootStepComplete x) s = s.stays) ∧
    (at_ 0 → ¬ held → ∃ u : Dev, exec (.bootStepComplete x) s = s.goes u ∧ u.boot.step = some 1 ∧
      u.boot.results = d.boot.results ++ [(1, 0)] ∧ u.ctl = d.ctl) ∧
    (at_ 1 → d.sec.fuseCut = none → x.toNat % 4 = 0 → ∃ u : Dev, exec (.bootStepComplete x) s = s.goes u ∧
      u.sec.sensed = s.fuses ∧ u.sec.uid = Config.uid.toNat ∧
      (latch = true → field (u.rd R.PWR_STATE) 35 33 = 4 ∧ u.boot.step = none) ∧
      (latch = false → bit (d.rd R.CFG_CTRL) 0 = false → u.boot.step = some 2 ∧ u.boot.results = d.boot.results ++ [(1, 0)]) ∧
      (latch = false → bit (d.rd R.CFG_CTRL) 0 = true → early → maintained u 5)) ∧
    (at_ 1 → d.sec.fuseCut = none → latch = false → early → x.toNat % 4 ≠ 0 → ∃ u : Dev, exec (.bootStepComplete x) s = s.goes u ∧
      maintained u 2 ∧ (x.getLsbD 1 = false → u.sec.sensed = s.fuses ∧ u.sec.uid = Config.uid.toNat) ∧
      u.boot.results = d.boot.results ++ [(2, if x.toNat % 2 = 1 then 1 else 2)]) ∧
    (at_ 1 → d.sec.fuseCut = none → latch = true → x.toNat % 4 ≠ 0 → ∃ u : Dev, exec (.bootStepComplete x) s = s.goes u ∧
      field (u.rd R.PWR_STATE) 35 33 = 4 ∧ u.boot.step = none ∧ ∃ e ∈ u.evt.held.getD [], e.code = Ev.BOOT_STEP_FAIL ∧ e.source = 1) ∧
    (at_ 2 → ∃ u : Dev, exec (.bootStepComplete x) s = s.goes u ∧
      (valid 0 → ¬ valid 1 ∨ newerSeq (seq 1) (seq 0) = false → u.boot.slot = some 0 ∧ u.boot.step = some 3) ∧
      (valid 1 → ¬ valid 0 ∨ newerSeq (seq 1) (seq 0) = true → u.boot.slot = some 1 ∧ u.boot.step = some 3) ∧
      (¬ valid 0 → ¬ valid 1 → early → maintained u (if d.boot.excluded = 0 then 1 else 6))) ∧
    (at_ 3 → d.sec.sensed.secure = false → ∃ u : Dev, exec (.bootStepComplete x) s = s.goes u ∧ u.boot.step = some 4 ∧
      u.boot.results = d.boot.results ++ [(3, 0)] ∧ u.boot.slot = d.boot.slot) ∧
    (at_ 3 → d.boot.results ≠ [] → d.sec.sensed.secure = true → (d.sigBlock slot).all (fun b => b == 0) = true →
      ∃ u : Dev, exec (.bootStepComplete x) s = s.goes u ∧ restarted u ∧ u.boot.excluded = d.boot.excluded ||| 2 ^ slot) ∧
    (at_ 4 → ∃ (u : Dev) (c : Nat), exec (.bootStepComplete x) s = s.goes u ∧ follows u 5 ∧ u.boot.results = d.boot.results ++ [(1, c)] ∧
      c < 4 ∧ (c % 2 = 1 ↔ d.newestSlot 2 = none) ∧ (d.boot.dmapSlot = none → c / 2 = 1) ∧ (c / 2 = 1 → u.pip.dmap = [])) ∧
    (at_ 5 → x = 0 → d.nvm.fallback.maint = false → d.nvm.fallback.counts.getD 0 0 ≠ 3 → ∃ u : Dev, exec (.bootStepComplete x) s = s.goes u ∧
      u.boot.step = some 6 ∧ u.boot.results = d.boot.results ++ [(1, 0)] ∧
      field (u.rd R.MEM_STATUS) 15 0 = pack2 d.nvm.fallback.chans % 2 ^ 16 ∧ u.mem.words = [] ∧ u.mem.ecc = []) ∧
    (at_ 5 → d.boot.results ≠ [] → rec_.maint = false → rec_.chans = List.replicate 8 0 → d.boot.masked = false → x ≠ 0 →
      ∃ u : Dev, exec (.bootStepComplete x) s = s.goes u ∧ restarted u ∧
      ∀ c, c < 8 → u.nvm.fallback.chans.getD c 0 = if x.getLsbD c then 1 else 0) ∧
    (at_ 6 → shaped → ∃ u : Dev, exec (.bootStepComplete x) s = s.goes u ∧ follows u 7 ∧ done u failing ∧ counted u 0 failing ∧
      u.mem.words = [] ∧ (∀ c, c < 8 → x.getLsbD c = true → rec_.chans.getD c 0 = 0 → u.nvm.fallback.chans.getD c 0 = 1)) ∧
    (at_ 7 → d.clk.failed.testBit 0 = false → d.clk.failed < 4 → rec_.counts.getD 1 0 ≠ 3 →
      ∃ u : Dev, exec (.bootStepComplete x) s = s.goes u ∧ follows u 8 ∧ done u d.clk.failed ∧ u.boot.pllFails = 0 ∧ u.tb = 0 ∧ u.tbRun = true ∧
      bit (u.rd R.CLK_STATUS) 34 = true ∧ bit (u.rd R.CLK_STATUS) 32 = !d.clk.failed.testBit 1) ∧
    (at_ 8 → (∃ f : Fin 4, (d.port f).st = 2) → exec (.bootStepComplete x) s = s.stays) ∧
    (at_ 8 → shaped → (∀ f : Fin 4, (d.port f).st ≠ 2) → rec_.counts.getD 2 0 ≠ 3 → d.clk.failed.testBit 1 = false →
      ∃ u : Dev, exec (.bootStepComplete x) s = s.goes u ∧ follows u 9 ∧ done u ports ∧ counted u 1 ports ∧
      u.nvm.fallback.ports = rec_.ports ||| ports) ∧
    (at_ 9 → d.lnk.train.isSome = true → exec (.bootStepComplete x) s = s.stays) ∧
    (at_ 9 → shaped → d.lnk.train = none → rec_.counts.getD 3 0 ≠ 3 → ∃ u : Dev, exec (.bootStepComplete x) s = s.goes u ∧ follows u 10 ∧
      done u link ∧ counted u 2 link ∧ u.nvm.fallback.lanes = rec_.lanes ||| lanes) ∧
    (at_ 10 → ¬ calibrated → exec (.bootStepComplete x) s = s.stays) ∧
    (at_ 10 → shaped → calibrated → ∃ u : Dev, exec (.bootStepComplete x) s = s.goes u ∧ follows u 11 ∧ done u d.cal.bootRejects ∧
      counted u 3 d.cal.bootRejects ∧ u.cal.boot = false) ∧
    (at_ 7 → d.boot.results ≠ [] → d.clk.failed.testBit 0 = true → ∃ u : Dev, exec (.bootStepComplete x) s = s.goes u ∧
      (d.boot.pllFails < 2 → restarted u ∧ u.boot.pllFails = d.boot.pllFails + 1) ∧ (2 ≤ d.boot.pllFails → early → maintained u 4)) ∧
    (at_ 11 → 24 ≤ d.imageLength → d.nvmNat (records + 16) 3 = 0xFFFFFF → d.nvmNat (records + 4) 1 = 0 →
      ∃ u : Dev, exec (.bootStepComplete x) s = s.goes u ∧ u.boot.step = none ∧ u.boot.outcome = 1 ∧
      field (u.rd R.PWR_STATE) 35 33 = 2 ∧ bit (u.rd R.SEQ_CTRL) 0 = true)

/-- The fallback record is cleared; LOAD copies the newer valid slot into staging, COMMIT writes staging into the older slot without its check word, which follows a good read-back with the slot valid; anything else answers its RESULT. -/
def Obligations.ConfigurationCopies : Prop :=
  ∀ (s : State) (p : Owner) (v : Word),
    let d := s.dev.hold
    let e := s.ready
    let region := v.toNat % 8
    let onBoot := fun (d : Dev) (b : Boot) => { d with boot := b }
    let result := fun (d : Dev) (r : Nat) => d.wf R.CFG_NVM_CMD 33 31 r
    let idle := e.isShut = false ∧ e.boot.commit = none
    let kept := e.store R.CFG_CTRL 1 v
    let cleared := fun (d : Dev) =>
      let k := 1 - d.nvm.newer % 2
      let copies : Vector (Option Nat) 2 := Vector.ofFn (fun (i : Fin 2) => if i.val = k then some d.free else d.nvm.copies[i])
      if d.nvm.fallback = {} then d
      else { d with free := d.free + 1, nvm := { d.nvm with fallback := {}, newer := k, copies := copies } }
    let copy := fun (k : Fin 2) => natBytes 256 ((e.nvm.copies[k].map Config.freeNat).getD 0 % 2 ^ 2048)
    let reg := fun (k : Nat) => if region = 2 then R.CAL_SLOTs k else R.CFG_SLOTs (2 * region + k)
    let seq := fun (k : Nat) => (e.rd (reg k)).toNat % 2 ^ 32
    let valid := fun (k : Nat) => bit (e.rd (reg k)) 35
    let newest := if valid 1 && (!valid 0 || newerSeq (seq 1) (seq 0)) then 1 else 0
    let older := if valid 0 = false then 0 else if valid 1 = false then 1 else if newerSeq (seq 1) (seq 0) then 0 else 1
    let anyValid := valid 0 = true ∨ valid 1 = true
    (Now d p → e.isShut = false → exec (.fallbackClear p v) s = s.wrote p R.CFG_CTRL (cleared kept)) ∧
    (Now d p → e.isShut = true → exec (.fallbackClear p v) s = s.wrote p R.CFG_CTRL kept ∧
      exec (.nvmLoad p v) s = s.wrote p R.CFG_NVM_CMD e ∧ exec (.nvmCommit p v) s = s.wrote p R.CFG_NVM_CMD e) ∧
    (Now d p → e.isShut = false → e.boot.commit.isSome = true → exec (.nvmLoad p v) s = s.wrote p R.CFG_NVM_CMD (result e 2) ∧
      exec (.nvmCommit p v) s = s.wrote p R.CFG_NVM_CMD (result e 2)) ∧
    (Now d p → idle → region ≤ 2 → ¬ anyValid → exec (.nvmLoad p v) s = s.wrote p R.CFG_NVM_CMD (result e 4)) ∧
    (Now d p → idle → 3 < region → exec (.nvmLoad p v) s = s.wrote p R.CFG_NVM_CMD (result e 1)) ∧
    (Now d p → idle → 1 < region → exec (.nvmCommit p v) s = s.wrote p R.CFG_NVM_CMD (result e 1)) ∧
    (Now d p → idle → region = 0 ∨ region = 2 → anyValid → exec (.nvmLoad p v) s = s.wrote p R.CFG_NVM_CMD (
      result (onBoot e { e.boot with staging := stageFill (e.nvmRead (slotBase region newest) (slotSize region)) }) 0)) ∧
    (Now d p → idle → region = 1 → anyValid → ∃ y : Dev, exec (.nvmLoad p v) s = s.wrote p R.CFG_NVM_CMD (result y 0) ∧
      y = { e with pip := { e.pip with staging := y.pip.staging } } ∧
      ∀ i, i < 262081 → Cells.get stageZero y.pip.staging i = bytesWord (e.nvmRead (slotBase 1 newest + 16 + 5 * i) 5)) ∧
    (Now d p → idle → region = 3 → exec (.nvmLoad p v) s = s.wrote p R.CFG_NVM_CMD (
      result (onBoot e { e.boot with staging := stageFill (copy 0 ++ copy 1 ++ e.nvmRead (logBase + 512) (logSize - 512)) }) 0)) ∧
    (Now d p → idle → region ≤ 1 → anyValid → exec (.nvmCommit p v) s = s.wrote p R.CFG_NVM_CMD (
      let img := e.commitImage region ((seq newest + 1) % 2 ^ 32)
      let y := (e.nvmWrite (slotBase region older) (img.take (slotSize region - 4))).wf (R.CFG_SLOTs (2 * region + older)) 35 35 0
      onBoot (y.wf R.CFG_NVM_CMD 34 34 1) { e.boot with commit := some ⟨region, older, (seq newest + 1) % 2 ^ 32, img⟩ })) ∧
    (d.boot.commit = none ∨ d.isShut = true → ∀ ok, exec (.nvmCommitDone ok) s = s.stays) ∧
    (d.isShut = false → ∀ c, d.boot.commit = some c → c.region ≤ 1 →
      let y := onBoot (d.wf R.CFG_NVM_CMD 34 34 0) { d.boot with commit := none }
      let z := (y.nvmWrite (slotBase c.region c.slot + slotSize c.region - 4) (c.bytes.drop (slotSize c.region - 4))).wf
        (R.CFG_SLOTs (2 * c.region + c.slot)) 35 0 (c.seq + 2 ^ 35)
      exec (.nvmCommitDone false) s = s.goes ((result y 3).log Ev.NVM_COMMIT_FAIL 0 0) ∧
      (c.region = 1 → exec (.nvmCommitDone true) s = s.goes ((result z 0).log Ev.NVM_COMMIT 0 0)) ∧
      (c.region = 0 → exec (.nvmCommitDone true) s = s.goes (cleared ((result z 0).log Ev.NVM_COMMIT 0 0))))
end

