-- ==== Sys2Proof/Laws/Cells.lean ====
section
/-! SUPPORT. The laws of sparse storage: a read after a write, and the canonical form is kept. -/

namespace Sys2Proof.Machine

variable {α : Type} (d : Nat → α)

theorem Cells.get_drop (m : Cells α) (a b : Nat) : Cells.get d (Cells.drop m a) b = if b = a then d b else Cells.get d m b := by
  induction m with
  | nil => simp [Cells.drop, Cells.get]
  | cons x rest ih =>
    obtain ⟨k, w⟩ := x
    by_cases h : k = a
    · subst h
      simp only [Cells.drop, if_true, ih, Cells.get]
      by_cases hb : b = k
      · simp [hb]
      · have hb' : ¬ k = b := fun e => hb e.symm
        simp [hb, hb']
    · simp only [Cells.drop, h, if_false, Cells.get, ih]
      by_cases hk : k = b
      · subst hk; simp [h]
      · simp [hk]

theorem Cells.drop_avoids (m : Cells α) (a : Nat) : ∀ x ∈ Cells.drop m a, x.1 ≠ a := by
  induction m with
  | nil => simp [Cells.drop]
  | cons x rest ih =>
    obtain ⟨k, w⟩ := x
    by_cases h : k = a
    · simpa [Cells.drop, h] using ih
    · simp only [Cells.drop, h, if_false, List.mem_cons, forall_eq_or_imp]
      exact ⟨h, ih⟩

theorem Cells.get_place (m : Cells α) (a b : Nat) (v : α) (h : ∀ x ∈ m, x.1 ≠ a) :
    Cells.get d (Cells.place m a v) b = if b = a then v else Cells.get d m b := by
  induction m with
  | nil =>
    by_cases hb : b = a
    · simp [Cells.place, Cells.get, hb]
    · have hb' : ¬ a = b := fun e => hb e.symm
      simp [Cells.place, Cells.get, hb, hb']
  | cons x rest ih =>
    obtain ⟨k, w⟩ := x
    have hk : k ≠ a := h (k, w) (by simp)
    have ih := ih (fun x hx => h x (by simp [hx]))
    by_cases hlt : a < k
    · by_cases hb : b = a
      · simp [Cells.place, hlt, Cells.get, hb]
      · have hb' : ¬ a = b := fun e => hb e.symm
        simp [Cells.place, hlt, Cells.get, hb, hb']
    · simp only [Cells.place, hlt, if_false, Cells.get, ih]
      by_cases hb : b = a
      · subst hb; simp [hk]
      · simp [hb]

/-- A read after a write: the value written at its address, what stood there at every other. -/
theorem Cells.get_put [DecidableEq α] (m : Cells α) (a b : Nat) (v : α) :
    Cells.get d (Cells.put d m a v) b = if b = a then v else Cells.get d m b := by
  unfold Cells.put
  split
  · rename_i h
    rw [Cells.get_drop]
    by_cases hb : b = a
    · simp [hb, h]
    · simp [hb]
  · rw [Cells.get_place d _ _ _ _ (Cells.drop_avoids m a), Cells.get_drop]
    by_cases hb : b = a <;> simp [hb]

/-! ### The canonical form -/

theorem Cells.drop_wfFrom [DecidableEq α] (m : Cells α) (a lo : Nat) (h : Cells.wfFrom d lo m = true) :
    Cells.wfFrom d lo (Cells.drop m a) = true := by
  induction m generalizing lo with
  | nil => rfl
  | cons x rest ih =>
    obtain ⟨k, w⟩ := x
    simp only [Cells.wfFrom, Bool.and_eq_true, decide_eq_true_eq] at h
    have mono : ∀ (m : Cells α) (l l' : Nat), l ≤ l' → Cells.wfFrom d l' m = true → Cells.wfFrom d l m = true := by
      intro m l l' hl hm
      cases m with
      | nil => rfl
      | cons y r => simp only [Cells.wfFrom, Bool.and_eq_true, decide_eq_true_eq] at hm ⊢; exact ⟨⟨by omega, hm.1.2⟩, hm.2⟩
    by_cases hk : k = a
    · simp only [Cells.drop, hk, if_true]
      exact mono _ _ _ (by omega) (ih (k + 1) h.2)
    · simp only [Cells.drop, hk, if_false, Cells.wfFrom, Bool.and_eq_true, decide_eq_true_eq]
      exact ⟨h.1, ih _ h.2⟩

theorem Cells.place_wfFrom [DecidableEq α] (m : Cells α) (a lo : Nat) (v : α) (hlo : lo ≤ a) (hv : v ≠ d a)
    (ha : ∀ x ∈ m, x.1 ≠ a) (h : Cells.wfFrom d lo m = true) : Cells.wfFrom d lo (Cells.place m a v) = true := by
  induction m generalizing lo with
  | nil => simp [Cells.place, Cells.wfFrom, hlo, hv]
  | cons x rest ih =>
    obtain ⟨k, w⟩ := x
    have hk : k ≠ a := ha (k, w) (by simp)
    simp only [Cells.wfFrom, Bool.and_eq_true, decide_eq_true_eq] at h
    by_cases hlt : a < k
    · simp only [Cells.place, hlt, if_true, Cells.wfFrom, Bool.and_eq_true, decide_eq_true_eq]
      exact ⟨⟨hlo, by simp [hv]⟩, ⟨by omega, h.1.2⟩, h.2⟩
    · simp only [Cells.place, hlt, if_false, Cells.wfFrom, Bool.and_eq_true, decide_eq_true_eq]
      exact ⟨h.1, ih (k + 1) (by omega) (fun x hx => ha x (by simp [hx])) h.2⟩

/-- A write keeps the canonical form. -/
theorem Cells.put_wf [DecidableEq α] (m : Cells α) (a : Nat) (v : α) (h : Cells.wf d m = true) :
    Cells.wf d (Cells.put d m a v) = true := by
  unfold Cells.put Cells.wf at *
  split
  · exact Cells.drop_wfFrom d m a 0 h
  · rename_i hv
    exact Cells.place_wfFrom d _ a 0 v (by omega) hv (Cells.drop_avoids m a) (Cells.drop_wfFrom d m a 0 h)

/-- A run of writes keeps the canonical form. -/
theorem Cells.putRun_wf [DecidableEq α] (m : Cells α) (a : Nat) (l : List α) (h : Cells.wf d m = true) :
    Cells.wf d (Cells.putRun d m a l) = true := by
  induction l generalizing m a with
  | nil => exact h
  | cons v vs ih => exact ih _ _ (Cells.put_wf d m a v h)

end Sys2Proof.Machine
end

