-- ==== Sys2Proof/Laws/State.lean ====
section
/-! SUPPORT. What each update of the block leaves alone and what it changes: one lemma for the fields an update leaves, one for the field it
changes, so that no proof unfolds a record update. -/

namespace Sys2Proof.Machine

variable (s : Dev)

@[simp] theorem Dev.wr_frame (a : Nat) (v : Word) :
    (s.wr a v).tick = s.tick ∧ (s.wr a v).tb = s.tb ∧ (s.wr a v).tbRun = s.tbRun
    ∧ (s.wr a v).free = s.free ∧ (s.wr a v).latches = s.latches ∧ (s.wr a v).claims = s.claims
    ∧ (s.wr a v).asks = s.asks ∧ (s.wr a v).suppressed = s.suppressed ∧ (s.wr a v).handovers = s.handovers
    ∧ (s.wr a v).pinLow = s.pinLow ∧ (s.wr a v).drives = s.drives ∧ (s.wr a v).evt = s.evt ∧ (s.wr a v).seq = s.seq
    ∧ (s.wr a v).stp = s.stp ∧ (s.wr a v).frm = s.frm ∧ (s.wr a v).cnv = s.cnv
    ∧ (s.wr a v).rdo = s.rdo ∧ (s.wr a v).mem = s.mem ∧ (s.wr a v).pip = s.pip
    ∧ (s.wr a v).lnk = s.lnk ∧ (s.wr a v).tim = s.tim ∧ (s.wr a v).fab = s.fab
    ∧ (s.wr a v).clk = s.clk ∧ (s.wr a v).mon = s.mon ∧ (s.wr a v).ktl = s.ktl
    ∧ (s.wr a v).cal = s.cal ∧ (s.wr a v).sec = s.sec ∧ (s.wr a v).nvm = s.nvm
    ∧ (s.wr a v).boot = s.boot ∧ (s.wr a v).hst = s.hst ∧ (s.wr a v).mgt = s.mgt :=
  ⟨rfl, rfl, rfl, rfl, rfl, rfl, rfl, rfl, rfl, rfl, rfl, rfl, rfl, rfl, rfl, rfl, rfl, rfl, rfl, rfl, rfl, rfl, rfl, rfl, rfl, rfl, rfl, rfl, rfl, rfl, rfl⟩

@[simp] theorem Dev.wf_frame (a hi lo v : Nat) :
    (s.wf a hi lo v).tick = s.tick ∧ (s.wf a hi lo v).tb = s.tb ∧ (s.wf a hi lo v).tbRun = s.tbRun
    ∧ (s.wf a hi lo v).free = s.free ∧ (s.wf a hi lo v).latches = s.latches ∧ (s.wf a hi lo v).claims = s.claims
    ∧ (s.wf a hi lo v).asks = s.asks ∧ (s.wf a hi lo v).suppressed = s.suppressed ∧ (s.wf a hi lo v).handovers = s.handovers
    ∧ (s.wf a hi lo v).pinLow = s.pinLow ∧ (s.wf a hi lo v).drives = s.drives ∧ (s.wf a hi lo v).evt = s.evt ∧ (s.wf a hi lo v).seq = s.seq
    ∧ (s.wf a hi lo v).stp = s.stp ∧ (s.wf a hi lo v).frm = s.frm ∧ (s.wf a hi lo v).cnv = s.cnv
    ∧ (s.wf a hi lo v).rdo = s.rdo ∧ (s.wf a hi lo v).mem = s.mem ∧ (s.wf a hi lo v).pip = s.pip
    ∧ (s.wf a hi lo v).lnk = s.lnk ∧ (s.wf a hi lo v).tim = s.tim ∧ (s.wf a hi lo v).fab = s.fab
    ∧ (s.wf a hi lo v).clk = s.clk ∧ (s.wf a hi lo v).mon = s.mon ∧ (s.wf a hi lo v).ktl = s.ktl
    ∧ (s.wf a hi lo v).cal = s.cal ∧ (s.wf a hi lo v).sec = s.sec ∧ (s.wf a hi lo v).nvm = s.nvm
    ∧ (s.wf a hi lo v).boot = s.boot ∧ (s.wf a hi lo v).hst = s.hst ∧ (s.wf a hi lo v).mgt = s.mgt :=
  ⟨rfl, rfl, rfl, rfl, rfl, rfl, rfl, rfl, rfl, rfl, rfl, rfl, rfl, rfl, rfl, rfl, rfl, rfl, rfl, rfl, rfl, rfl, rfl, rfl, rfl, rfl, rfl, rfl, rfl, rfl, rfl⟩

@[simp] theorem Dev.wb_frame (a i : Nat) (v : Bool) :
    (s.wb a i v).tick = s.tick ∧ (s.wb a i v).tb = s.tb ∧ (s.wb a i v).tbRun = s.tbRun
    ∧ (s.wb a i v).free = s.free ∧ (s.wb a i v).latches = s.latches ∧ (s.wb a i v).claims = s.claims
    ∧ (s.wb a i v).asks = s.asks ∧ (s.wb a i v).suppressed = s.suppressed ∧ (s.wb a i v).handovers = s.handovers
    ∧ (s.wb a i v).pinLow = s.pinLow ∧ (s.wb a i v).drives = s.drives ∧ (s.wb a i v).evt = s.evt ∧ (s.wb a i v).seq = s.seq
    ∧ (s.wb a i v).stp = s.stp ∧ (s.wb a i v).frm = s.frm ∧ (s.wb a i v).cnv = s.cnv
    ∧ (s.wb a i v).rdo = s.rdo ∧ (s.wb a i v).mem = s.mem ∧ (s.wb a i v).pip = s.pip
    ∧ (s.wb a i v).lnk = s.lnk ∧ (s.wb a i v).tim = s.tim ∧ (s.wb a i v).fab = s.fab
    ∧ (s.wb a i v).clk = s.clk ∧ (s.wb a i v).mon = s.mon ∧ (s.wb a i v).ktl = s.ktl
    ∧ (s.wb a i v).cal = s.cal ∧ (s.wb a i v).sec = s.sec ∧ (s.wb a i v).nvm = s.nvm
    ∧ (s.wb a i v).boot = s.boot ∧ (s.wb a i v).hst = s.hst ∧ (s.wb a i v).mgt = s.mgt :=
  ⟨rfl, rfl, rfl, rfl, rfl, rfl, rfl, rfl, rfl, rfl, rfl, rfl, rfl, rfl, rfl, rfl, rfl, rfl, rfl, rfl, rfl, rfl, rfl, rfl, rfl, rfl, rfl, rfl, rfl, rfl, rfl⟩

@[simp] theorem Dev.bump_frame (a : Nat) :
    (s.bump a).tick = s.tick ∧ (s.bump a).tb = s.tb ∧ (s.bump a).tbRun = s.tbRun
    ∧ (s.bump a).free = s.free ∧ (s.bump a).latches = s.latches ∧ (s.bump a).claims = s.claims
    ∧ (s.bump a).asks = s.asks ∧ (s.bump a).suppressed = s.suppressed ∧ (s.bump a).handovers = s.handovers
    ∧ (s.bump a).pinLow = s.pinLow ∧ (s.bump a).drives = s.drives ∧ (s.bump a).evt = s.evt ∧ (s.bump a).seq = s.seq
    ∧ (s.bump a).stp = s.stp ∧ (s.bump a).frm = s.frm ∧ (s.bump a).cnv = s.cnv
    ∧ (s.bump a).rdo = s.rdo ∧ (s.bump a).mem = s.mem ∧ (s.bump a).pip = s.pip
    ∧ (s.bump a).lnk = s.lnk ∧ (s.bump a).tim = s.tim ∧ (s.bump a).fab = s.fab
    ∧ (s.bump a).clk = s.clk ∧ (s.bump a).mon = s.mon ∧ (s.bump a).ktl = s.ktl
    ∧ (s.bump a).cal = s.cal ∧ (s.bump a).sec = s.sec ∧ (s.bump a).nvm = s.nvm
    ∧ (s.bump a).boot = s.boot ∧ (s.bump a).hst = s.hst ∧ (s.bump a).mgt = s.mgt :=
  ⟨rfl, rfl, rfl, rfl, rfl, rfl, rfl, rfl, rfl, rfl, rfl, rfl, rfl, rfl, rfl, rfl, rfl, rfl, rfl, rfl, rfl, rfl, rfl, rfl, rfl, rfl, rfl, rfl, rfl, rfl, rfl⟩

@[simp] theorem Dev.latch_frame (p : Owner) (a : Nat) (w : Word) :
    (s.latch p a w).tick = s.tick ∧ (s.latch p a w).tb = s.tb ∧ (s.latch p a w).tbRun = s.tbRun
    ∧ (s.latch p a w).free = s.free ∧ (s.latch p a w).ctl = s.ctl ∧ (s.latch p a w).claims = s.claims
    ∧ (s.latch p a w).asks = s.asks ∧ (s.latch p a w).suppressed = s.suppressed ∧ (s.latch p a w).handovers = s.handovers
    ∧ (s.latch p a w).pinLow = s.pinLow ∧ (s.latch p a w).drives = s.drives ∧ (s.latch p a w).evt = s.evt ∧ (s.latch p a w).seq = s.seq
    ∧ (s.latch p a w).stp = s.stp ∧ (s.latch p a w).frm = s.frm ∧ (s.latch p a w).cnv = s.cnv
    ∧ (s.latch p a w).rdo = s.rdo ∧ (s.latch p a w).mem = s.mem ∧ (s.latch p a w).pip = s.pip
    ∧ (s.latch p a w).lnk = s.lnk ∧ (s.latch p a w).tim = s.tim ∧ (s.latch p a w).fab = s.fab
    ∧ (s.latch p a w).clk = s.clk ∧ (s.latch p a w).mon = s.mon ∧ (s.latch p a w).ktl = s.ktl
    ∧ (s.latch p a w).cal = s.cal ∧ (s.latch p a w).sec = s.sec ∧ (s.latch p a w).nvm = s.nvm
    ∧ (s.latch p a w).boot = s.boot ∧ (s.latch p a w).hst = s.hst ∧ (s.latch p a w).mgt = s.mgt :=
  ⟨rfl, rfl, rfl, rfl, rfl, rfl, rfl, rfl, rfl, rfl, rfl, rfl, rfl, rfl, rfl, rfl, rfl, rfl, rfl, rfl, rfl, rfl, rfl, rfl, rfl, rfl, rfl, rfl, rfl, rfl, rfl⟩

@[simp] theorem Dev.latchRead_frame (p : Owner) (a : Nat) :
    (s.latchRead p a).tick = s.tick ∧ (s.latchRead p a).tb = s.tb ∧ (s.latchRead p a).tbRun = s.tbRun
    ∧ (s.latchRead p a).free = s.free ∧ (s.latchRead p a).ctl = s.ctl ∧ (s.latchRead p a).claims = s.claims
    ∧ (s.latchRead p a).asks = s.asks ∧ (s.latchRead p a).suppressed = s.suppressed ∧ (s.latchRead p a).handovers = s.handovers
    ∧ (s.latchRead p a).pinLow = s.pinLow ∧ (s.latchRead p a).drives = s.drives ∧ (s.latchRead p a).evt = s.evt ∧ (s.latchRead p a).seq = s.seq
    ∧ (s.latchRead p a).stp = s.stp ∧ (s.latchRead p a).frm = s.frm ∧ (s.latchRead p a).cnv = s.cnv
    ∧ (s.latchRead p a).rdo = s.rdo ∧ (s.latchRead p a).mem = s.mem ∧ (s.latchRead p a).pip = s.pip
    ∧ (s.latchRead p a).lnk = s.lnk ∧ (s.latchRead p a).tim = s.tim ∧ (s.latchRead p a).fab = s.fab
    ∧ (s.latchRead p a).clk = s.clk ∧ (s.latchRead p a).mon = s.mon ∧ (s.latchRead p a).ktl = s.ktl
    ∧ (s.latchRead p a).cal = s.cal ∧ (s.latchRead p a).sec = s.sec ∧ (s.latchRead p a).nvm = s.nvm
    ∧ (s.latchRead p a).boot = s.boot ∧ (s.latchRead p a).hst = s.hst ∧ (s.latchRead p a).mgt = s.mgt :=
  ⟨rfl, rfl, rfl, rfl, rfl, rfl, rfl, rfl, rfl, rfl, rfl, rfl, rfl, rfl, rfl, rfl, rfl, rfl, rfl, rfl, rfl, rfl, rfl, rfl, rfl, rfl, rfl, rfl, rfl, rfl, rfl⟩

@[simp] theorem Dev.stale_frame (a i : Nat) :
    (s.stale a i).tick = s.tick ∧ (s.stale a i).tb = s.tb ∧ (s.stale a i).tbRun = s.tbRun
    ∧ (s.stale a i).free = s.free ∧ (s.stale a i).ctl = s.ctl ∧ (s.stale a i).claims = s.claims
    ∧ (s.stale a i).asks = s.asks ∧ (s.stale a i).suppressed = s.suppressed ∧ (s.stale a i).handovers = s.handovers
    ∧ (s.stale a i).pinLow = s.pinLow ∧ (s.stale a i).drives = s.drives ∧ (s.stale a i).evt = s.evt ∧ (s.stale a i).seq = s.seq
    ∧ (s.stale a i).stp = s.stp ∧ (s.stale a i).frm = s.frm ∧ (s.stale a i).cnv = s.cnv
    ∧ (s.stale a i).rdo = s.rdo ∧ (s.stale a i).mem = s.mem ∧ (s.stale a i).pip = s.pip
    ∧ (s.stale a i).lnk = s.lnk ∧ (s.stale a i).tim = s.tim ∧ (s.stale a i).fab = s.fab
    ∧ (s.stale a i).clk = s.clk ∧ (s.stale a i).mon = s.mon ∧ (s.stale a i).ktl = s.ktl
    ∧ (s.stale a i).cal = s.cal ∧ (s.stale a i).sec = s.sec ∧ (s.stale a i).nvm = s.nvm
    ∧ (s.stale a i).boot = s.boot ∧ (s.stale a i).hst = s.hst ∧ (s.stale a i).mgt = s.mgt :=
  ⟨rfl, rfl, rfl, rfl, rfl, rfl, rfl, rfl, rfl, rfl, rfl, rfl, rfl, rfl, rfl, rfl, rfl, rfl, rfl, rfl, rfl, rfl, rfl, rfl, rfl, rfl, rfl, rfl, rfl, rfl, rfl⟩

@[simp] theorem Dev.setTh_frame (n : Fin 8) (t : Thread) :
    (s.setTh n t).tick = s.tick ∧ (s.setTh n t).tb = s.tb ∧ (s.setTh n t).tbRun = s.tbRun
    ∧ (s.setTh n t).free = s.free ∧ (s.setTh n t).ctl = s.ctl ∧ (s.setTh n t).latches = s.latches
    ∧ (s.setTh n t).claims = s.claims ∧ (s.setTh n t).asks = s.asks ∧ (s.setTh n t).suppressed = s.suppressed
    ∧ (s.setTh n t).handovers = s.handovers ∧ (s.setTh n t).pinLow = s.pinLow ∧ (s.setTh n t).drives = s.drives ∧ (s.setTh n t).evt = s.evt
    ∧ (s.setTh n t).stp = s.stp ∧ (s.setTh n t).frm = s.frm ∧ (s.setTh n t).cnv = s.cnv
    ∧ (s.setTh n t).rdo = s.rdo ∧ (s.setTh n t).mem = s.mem ∧ (s.setTh n t).pip = s.pip
    ∧ (s.setTh n t).lnk = s.lnk ∧ (s.setTh n t).tim = s.tim ∧ (s.setTh n t).fab = s.fab
    ∧ (s.setTh n t).clk = s.clk ∧ (s.setTh n t).mon = s.mon ∧ (s.setTh n t).ktl = s.ktl
    ∧ (s.setTh n t).cal = s.cal ∧ (s.setTh n t).sec = s.sec ∧ (s.setTh n t).nvm = s.nvm
    ∧ (s.setTh n t).boot = s.boot ∧ (s.setTh n t).hst = s.hst ∧ (s.setTh n t).mgt = s.mgt :=
  ⟨rfl, rfl, rfl, rfl, rfl, rfl, rfl, rfl, rfl, rfl, rfl, rfl, rfl, rfl, rfl, rfl, rfl, rfl, rfl, rfl, rfl, rfl, rfl, rfl, rfl, rfl, rfl, rfl, rfl, rfl, rfl⟩

@[simp] theorem Dev.setTx_frame (p : Owner) (t : Tx) :
    (s.setTx p t).tick = s.tick ∧ (s.setTx p t).tb = s.tb ∧ (s.setTx p t).tbRun = s.tbRun
    ∧ (s.setTx p t).free = s.free ∧ (s.setTx p t).ctl = s.ctl ∧ (s.setTx p t).latches = s.latches
    ∧ (s.setTx p t).claims = s.claims ∧ (s.setTx p t).asks = s.asks ∧ (s.setTx p t).suppressed = s.suppressed
    ∧ (s.setTx p t).handovers = s.handovers ∧ (s.setTx p t).pinLow = s.pinLow ∧ (s.setTx p t).drives = s.drives ∧ (s.setTx p t).evt = s.evt
    ∧ (s.setTx p t).stp = s.stp ∧ (s.setTx p t).frm = s.frm ∧ (s.setTx p t).cnv = s.cnv
    ∧ (s.setTx p t).rdo = s.rdo ∧ (s.setTx p t).mem = s.mem ∧ (s.setTx p t).pip = s.pip
    ∧ (s.setTx p t).lnk = s.lnk ∧ (s.setTx p t).tim = s.tim ∧ (s.setTx p t).fab = s.fab
    ∧ (s.setTx p t).clk = s.clk ∧ (s.setTx p t).mon = s.mon ∧ (s.setTx p t).ktl = s.ktl
    ∧ (s.setTx p t).cal = s.cal ∧ (s.setTx p t).sec = s.sec ∧ (s.setTx p t).nvm = s.nvm
    ∧ (s.setTx p t).boot = s.boot ∧ (s.setTx p t).hst = s.hst ∧ (s.setTx p t).mgt = s.mgt :=
  ⟨rfl, rfl, rfl, rfl, rfl, rfl, rfl, rfl, rfl, rfl, rfl, rfl, rfl, rfl, rfl, rfl, rfl, rfl, rfl, rfl, rfl, rfl, rfl, rfl, rfl, rfl, rfl, rfl, rfl, rfl, rfl⟩

@[simp] theorem Dev.setLock_frame (k : Fin 32) (o : Option Owner) :
    (s.setLock k o).tick = s.tick ∧ (s.setLock k o).tb = s.tb ∧ (s.setLock k o).tbRun = s.tbRun
    ∧ (s.setLock k o).free = s.free ∧ (s.setLock k o).ctl = s.ctl ∧ (s.setLock k o).latches = s.latches
    ∧ (s.setLock k o).claims = s.claims ∧ (s.setLock k o).asks = s.asks ∧ (s.setLock k o).suppressed = s.suppressed
    ∧ (s.setLock k o).handovers = s.handovers ∧ (s.setLock k o).pinLow = s.pinLow ∧ (s.setLock k o).drives = s.drives ∧ (s.setLock k o).evt = s.evt
    ∧ (s.setLock k o).stp = s.stp ∧ (s.setLock k o).frm = s.frm ∧ (s.setLock k o).cnv = s.cnv
    ∧ (s.setLock k o).rdo = s.rdo ∧ (s.setLock k o).mem = s.mem ∧ (s.setLock k o).pip = s.pip
    ∧ (s.setLock k o).lnk = s.lnk ∧ (s.setLock k o).tim = s.tim ∧ (s.setLock k o).fab = s.fab
    ∧ (s.setLock k o).clk = s.clk ∧ (s.setLock k o).mon = s.mon ∧ (s.setLock k o).ktl = s.ktl
    ∧ (s.setLock k o).cal = s.cal ∧ (s.setLock k o).sec = s.sec ∧ (s.setLock k o).nvm = s.nvm
    ∧ (s.setLock k o).boot = s.boot ∧ (s.setLock k o).hst = s.hst ∧ (s.setLock k o).mgt = s.mgt :=
  ⟨rfl, rfl, rfl, rfl, rfl, rfl, rfl, rfl, rfl, rfl, rfl, rfl, rfl, rfl, rfl, rfl, rfl, rfl, rfl, rfl, rfl, rfl, rfl, rfl, rfl, rfl, rfl, rfl, rfl, rfl, rfl⟩

@[simp] theorem Dev.setEn_frame (n : Fin 8) (e : Entry) :
    (s.setEn n e).tick = s.tick ∧ (s.setEn n e).tb = s.tb ∧ (s.setEn n e).tbRun = s.tbRun
    ∧ (s.setEn n e).free = s.free ∧ (s.setEn n e).ctl = s.ctl ∧ (s.setEn n e).latches = s.latches
    ∧ (s.setEn n e).claims = s.claims ∧ (s.setEn n e).asks = s.asks ∧ (s.setEn n e).suppressed = s.suppressed
    ∧ (s.setEn n e).handovers = s.handovers ∧ (s.setEn n e).pinLow = s.pinLow ∧ (s.setEn n e).drives = s.drives ∧ (s.setEn n e).evt = s.evt
    ∧ (s.setEn n e).seq = s.seq ∧ (s.setEn n e).frm = s.frm ∧ (s.setEn n e).cnv = s.cnv
    ∧ (s.setEn n e).rdo = s.rdo ∧ (s.setEn n e).mem = s.mem ∧ (s.setEn n e).pip = s.pip
    ∧ (s.setEn n e).lnk = s.lnk ∧ (s.setEn n e).tim = s.tim ∧ (s.setEn n e).fab = s.fab
    ∧ (s.setEn n e).clk = s.clk ∧ (s.setEn n e).mon = s.mon ∧ (s.setEn n e).ktl = s.ktl
    ∧ (s.setEn n e).cal = s.cal ∧ (s.setEn n e).sec = s.sec ∧ (s.setEn n e).nvm = s.nvm
    ∧ (s.setEn n e).boot = s.boot ∧ (s.setEn n e).hst = s.hst ∧ (s.setEn n e).mgt = s.mgt :=
  ⟨rfl, rfl, rfl, rfl, rfl, rfl, rfl, rfl, rfl, rfl, rfl, rfl, rfl, rfl, rfl, rfl, rfl, rfl, rfl, rfl, rfl, rfl, rfl, rfl, rfl, rfl, rfl, rfl, rfl, rfl, rfl⟩

@[simp] theorem Dev.onStp_frame (f : Stp → Stp) :
    (s.onStp f).tick = s.tick ∧ (s.onStp f).tb = s.tb ∧ (s.onStp f).tbRun = s.tbRun
    ∧ (s.onStp f).free = s.free ∧ (s.onStp f).ctl = s.ctl ∧ (s.onStp f).latches = s.latches
    ∧ (s.onStp f).claims = s.claims ∧ (s.onStp f).asks = s.asks ∧ (s.onStp f).suppressed = s.suppressed
    ∧ (s.onStp f).handovers = s.handovers ∧ (s.onStp f).pinLow = s.pinLow ∧ (s.onStp f).drives = s.drives ∧ (s.onStp f).evt = s.evt
    ∧ (s.onStp f).seq = s.seq ∧ (s.onStp f).frm = s.frm ∧ (s.onStp f).cnv = s.cnv
    ∧ (s.onStp f).rdo = s.rdo ∧ (s.onStp f).mem = s.mem ∧ (s.onStp f).pip = s.pip
    ∧ (s.onStp f).lnk = s.lnk ∧ (s.onStp f).tim = s.tim ∧ (s.onStp f).fab = s.fab
    ∧ (s.onStp f).clk = s.clk ∧ (s.onStp f).mon = s.mon ∧ (s.onStp f).ktl = s.ktl
    ∧ (s.onStp f).cal = s.cal ∧ (s.onStp f).sec = s.sec ∧ (s.onStp f).nvm = s.nvm
    ∧ (s.onStp f).boot = s.boot ∧ (s.onStp f).hst = s.hst ∧ (s.onStp f).mgt = s.mgt :=
  ⟨rfl, rfl, rfl, rfl, rfl, rfl, rfl, rfl, rfl, rfl, rfl, rfl, rfl, rfl, rfl, rfl, rfl, rfl, rfl, rfl, rfl, rfl, rfl, rfl, rfl, rfl, rfl, rfl, rfl, rfl, rfl⟩

@[simp] theorem Dev.onStp_stp (f : Stp → Stp) : (s.onStp f).stp = f s.stp := rfl

@[simp] theorem Dev.onFrm_frame (f : Frm → Frm) :
    (s.onFrm f).tick = s.tick ∧ (s.onFrm f).tb = s.tb ∧ (s.onFrm f).tbRun = s.tbRun
    ∧ (s.onFrm f).free = s.free ∧ (s.onFrm f).ctl = s.ctl ∧ (s.onFrm f).latches = s.latches
    ∧ (s.onFrm f).claims = s.claims ∧ (s.onFrm f).asks = s.asks ∧ (s.onFrm f).suppressed = s.suppressed
    ∧ (s.onFrm f).handovers = s.handovers ∧ (s.onFrm f).pinLow = s.pinLow ∧ (s.onFrm f).drives = s.drives ∧ (s.onFrm f).evt = s.evt
    ∧ (s.onFrm f).seq = s.seq ∧ (s.onFrm f).stp = s.stp ∧ (s.onFrm f).cnv = s.cnv
    ∧ (s.onFrm f).rdo = s.rdo ∧ (s.onFrm f).mem = s.mem ∧ (s.onFrm f).pip = s.pip
    ∧ (s.onFrm f).lnk = s.lnk ∧ (s.onFrm f).tim = s.tim ∧ (s.onFrm f).fab = s.fab
    ∧ (s.onFrm f).clk = s.clk ∧ (s.onFrm f).mon = s.mon ∧ (s.onFrm f).ktl = s.ktl
    ∧ (s.onFrm f).cal = s.cal ∧ (s.onFrm f).sec = s.sec ∧ (s.onFrm f).nvm = s.nvm
    ∧ (s.onFrm f).boot = s.boot ∧ (s.onFrm f).hst = s.hst ∧ (s.onFrm f).mgt = s.mgt :=
  ⟨rfl, rfl, rfl, rfl, rfl, rfl, rfl, rfl, rfl, rfl, rfl, rfl, rfl, rfl, rfl, rfl, rfl, rfl, rfl, rfl, rfl, rfl, rfl, rfl, rfl, rfl, rfl, rfl, rfl, rfl, rfl⟩

@[simp] theorem Dev.onFrm_frm (f : Frm → Frm) : (s.onFrm f).frm = f s.frm := rfl

@[simp] theorem Dev.onCnv_frame (f : Cnv → Cnv) :
    (s.onCnv f).tick = s.tick ∧ (s.onCnv f).tb = s.tb ∧ (s.onCnv f).tbRun = s.tbRun
    ∧ (s.onCnv f).free = s.free ∧ (s.onCnv f).ctl = s.ctl ∧ (s.onCnv f).latches = s.latches
    ∧ (s.onCnv f).claims = s.claims ∧ (s.onCnv f).asks = s.asks ∧ (s.onCnv f).suppressed = s.suppressed
    ∧ (s.onCnv f).handovers = s.handovers ∧ (s.onCnv f).pinLow = s.pinLow ∧ (s.onCnv f).drives = s.drives ∧ (s.onCnv f).evt = s.evt
    ∧ (s.onCnv f).seq = s.seq ∧ (s.onCnv f).stp = s.stp ∧ (s.onCnv f).frm = s.frm
    ∧ (s.onCnv f).rdo = s.rdo ∧ (s.onCnv f).mem = s.mem ∧ (s.onCnv f).pip = s.pip
    ∧ (s.onCnv f).lnk = s.lnk ∧ (s.onCnv f).tim = s.tim ∧ (s.onCnv f).fab = s.fab
    ∧ (s.onCnv f).clk = s.clk ∧ (s.onCnv f).mon = s.mon ∧ (s.onCnv f).ktl = s.ktl
    ∧ (s.onCnv f).cal = s.cal ∧ (s.onCnv f).sec = s.sec ∧ (s.onCnv f).nvm = s.nvm
    ∧ (s.onCnv f).boot = s.boot ∧ (s.onCnv f).hst = s.hst ∧ (s.onCnv f).mgt = s.mgt :=
  ⟨rfl, rfl, rfl, rfl, rfl, rfl, rfl, rfl, rfl, rfl, rfl, rfl, rfl, rfl, rfl, rfl, rfl, rfl, rfl, rfl, rfl, rfl, rfl, rfl, rfl, rfl, rfl, rfl, rfl, rfl, rfl⟩

@[simp] theorem Dev.onCnv_cnv (f : Cnv → Cnv) : (s.onCnv f).cnv = f s.cnv := rfl

@[simp] theorem Dev.onRdo_frame (f : Rdo → Rdo) :
    (s.onRdo f).tick = s.tick ∧ (s.onRdo f).tb = s.tb ∧ (s.onRdo f).tbRun = s.tbRun
    ∧ (s.onRdo f).free = s.free ∧ (s.onRdo f).ctl = s.ctl ∧ (s.onRdo f).latches = s.latches
    ∧ (s.onRdo f).claims = s.claims ∧ (s.onRdo f).asks = s.asks ∧ (s.onRdo f).suppressed = s.suppressed
    ∧ (s.onRdo f).handovers = s.handovers ∧ (s.onRdo f).pinLow = s.pinLow ∧ (s.onRdo f).drives = s.drives ∧ (s.onRdo f).evt = s.evt
    ∧ (s.onRdo f).seq = s.seq ∧ (s.onRdo f).stp = s.stp ∧ (s.onRdo f).frm = s.frm
    ∧ (s.onRdo f).cnv = s.cnv ∧ (s.onRdo f).mem = s.mem ∧ (s.onRdo f).pip = s.pip
    ∧ (s.onRdo f).lnk = s.lnk ∧ (s.onRdo f).tim = s.tim ∧ (s.onRdo f).fab = s.fab
    ∧ (s.onRdo f).clk = s.clk ∧ (s.onRdo f).mon = s.mon ∧ (s.onRdo f).ktl = s.ktl
    ∧ (s.onRdo f).cal = s.cal ∧ (s.onRdo f).sec = s.sec ∧ (s.onRdo f).nvm = s.nvm
    ∧ (s.onRdo f).boot = s.boot ∧ (s.onRdo f).hst = s.hst ∧ (s.onRdo f).mgt = s.mgt :=
  ⟨rfl, rfl, rfl, rfl, rfl, rfl, rfl, rfl, rfl, rfl, rfl, rfl, rfl, rfl, rfl, rfl, rfl, rfl, rfl, rfl, rfl, rfl, rfl, rfl, rfl, rfl, rfl, rfl, rfl, rfl, rfl⟩

@[simp] theorem Dev.onRdo_rdo (f : Rdo → Rdo) : (s.onRdo f).rdo = f s.rdo := rfl

@[simp] theorem Dev.onMem_frame (f : Mem → Mem) :
    (s.onMem f).tick = s.tick ∧ (s.onMem f).tb = s.tb ∧ (s.onMem f).tbRun = s.tbRun
    ∧ (s.onMem f).free = s.free ∧ (s.onMem f).ctl = s.ctl ∧ (s.onMem f).latches = s.latches
    ∧ (s.onMem f).claims = s.claims ∧ (s.onMem f).asks = s.asks ∧ (s.onMem f).suppressed = s.suppressed
    ∧ (s.onMem f).handovers = s.handovers ∧ (s.onMem f).pinLow = s.pinLow ∧ (s.onMem f).drives = s.drives ∧ (s.onMem f).evt = s.evt
    ∧ (s.onMem f).seq = s.seq ∧ (s.onMem f).stp = s.stp ∧ (s.onMem f).frm = s.frm
    ∧ (s.onMem f).cnv = s.cnv ∧ (s.onMem f).rdo = s.rdo ∧ (s.onMem f).pip = s.pip
    ∧ (s.onMem f).lnk = s.lnk ∧ (s.onMem f).tim = s.tim ∧ (s.onMem f).fab = s.fab
    ∧ (s.onMem f).clk = s.clk ∧ (s.onMem f).mon = s.mon ∧ (s.onMem f).ktl = s.ktl
    ∧ (s.onMem f).cal = s.cal ∧ (s.onMem f).sec = s.sec ∧ (s.onMem f).nvm = s.nvm
    ∧ (s.onMem f).boot = s.boot ∧ (s.onMem f).hst = s.hst ∧ (s.onMem f).mgt = s.mgt :=
  ⟨rfl, rfl, rfl, rfl, rfl, rfl, rfl, rfl, rfl, rfl, rfl, rfl, rfl, rfl, rfl, rfl, rfl, rfl, rfl, rfl, rfl, rfl, rfl, rfl, rfl, rfl, rfl, rfl, rfl, rfl, rfl⟩

@[simp] theorem Dev.onMem_mem (f : Mem → Mem) : (s.onMem f).mem = f s.mem := rfl

@[simp] theorem Dev.onPip_frame (f : Pip → Pip) :
    (s.onPip f).tick = s.tick ∧ (s.onPip f).tb = s.tb ∧ (s.onPip f).tbRun = s.tbRun
    ∧ (s.onPip f).free = s.free ∧ (s.onPip f).ctl = s.ctl ∧ (s.onPip f).latches = s.latches
    ∧ (s.onPip f).claims = s.claims ∧ (s.onPip f).asks = s.asks ∧ (s.onPip f).suppressed = s.suppressed
    ∧ (s.onPip f).handovers = s.handovers ∧ (s.onPip f).pinLow = s.pinLow ∧ (s.onPip f).drives = s.drives ∧ (s.onPip f).evt = s.evt
    ∧ (s.onPip f).seq = s.seq ∧ (s.onPip f).stp = s.stp ∧ (s.onPip f).frm = s.frm
    ∧ (s.onPip f).cnv = s.cnv ∧ (s.onPip f).rdo = s.rdo ∧ (s.onPip f).mem = s.mem
    ∧ (s.onPip f).lnk = s.lnk ∧ (s.onPip f).tim = s.tim ∧ (s.onPip f).fab = s.fab
    ∧ (s.onPip f).clk = s.clk ∧ (s.onPip f).mon = s.mon ∧ (s.onPip f).ktl = s.ktl
    ∧ (s.onPip f).cal = s.cal ∧ (s.onPip f).sec = s.sec ∧ (s.onPip f).nvm = s.nvm
    ∧ (s.onPip f).boot = s.boot ∧ (s.onPip f).hst = s.hst ∧ (s.onPip f).mgt = s.mgt :=
  ⟨rfl, rfl, rfl, rfl, rfl, rfl, rfl, rfl, rfl, rfl, rfl, rfl, rfl, rfl, rfl, rfl, rfl, rfl, rfl, rfl, rfl, rfl, rfl, rfl, rfl, rfl, rfl, rfl, rfl, rfl, rfl⟩

@[simp] theorem Dev.onPip_pip (f : Pip → Pip) : (s.onPip f).pip = f s.pip := rfl

@[simp] theorem Dev.onLnk_frame (f : Lnk → Lnk) :
    (s.onLnk f).tick = s.tick ∧ (s.onLnk f).tb = s.tb ∧ (s.onLnk f).tbRun = s.tbRun
    ∧ (s.onLnk f).free = s.free ∧ (s.onLnk f).ctl = s.ctl ∧ (s.onLnk f).latches = s.latches
    ∧ (s.onLnk f).claims = s.claims ∧ (s.onLnk f).asks = s.asks ∧ (s.onLnk f).suppressed = s.suppressed
    ∧ (s.onLnk f).handovers = s.handovers ∧ (s.onLnk f).pinLow = s.pinLow ∧ (s.onLnk f).drives = s.drives ∧ (s.onLnk f).evt = s.evt
    ∧ (s.onLnk f).seq = s.seq ∧ (s.onLnk f).stp = s.stp ∧ (s.onLnk f).frm = s.frm
    ∧ (s.onLnk f).cnv = s.cnv ∧ (s.onLnk f).rdo = s.rdo ∧ (s.onLnk f).mem = s.mem
    ∧ (s.onLnk f).pip = s.pip ∧ (s.onLnk f).tim = s.tim ∧ (s.onLnk f).fab = s.fab
    ∧ (s.onLnk f).clk = s.clk ∧ (s.onLnk f).mon = s.mon ∧ (s.onLnk f).ktl = s.ktl
    ∧ (s.onLnk f).cal = s.cal ∧ (s.onLnk f).sec = s.sec ∧ (s.onLnk f).nvm = s.nvm
    ∧ (s.onLnk f).boot = s.boot ∧ (s.onLnk f).hst = s.hst ∧ (s.onLnk f).mgt = s.mgt :=
  ⟨rfl, rfl, rfl, rfl, rfl, rfl, rfl, rfl, rfl, rfl, rfl, rfl, rfl, rfl, rfl, rfl, rfl, rfl, rfl, rfl, rfl, rfl, rfl, rfl, rfl, rfl, rfl, rfl, rfl, rfl, rfl⟩

@[simp] theorem Dev.onLnk_lnk (f : Lnk → Lnk) : (s.onLnk f).lnk = f s.lnk := rfl

@[simp] theorem Dev.onTim_frame (f : Tim → Tim) :
    (s.onTim f).tick = s.tick ∧ (s.onTim f).tb = s.tb ∧ (s.onTim f).tbRun = s.tbRun
    ∧ (s.onTim f).free = s.free ∧ (s.onTim f).ctl = s.ctl ∧ (s.onTim f).latches = s.latches
    ∧ (s.onTim f).claims = s.claims ∧ (s.onTim f).asks = s.asks ∧ (s.onTim f).suppressed = s.suppressed
    ∧ (s.onTim f).handovers = s.handovers ∧ (s.onTim f).pinLow = s.pinLow ∧ (s.onTim f).drives = s.drives ∧ (s.onTim f).evt = s.evt
    ∧ (s.onTim f).seq = s.seq ∧ (s.onTim f).stp = s.stp ∧ (s.onTim f).frm = s.frm
    ∧ (s.onTim f).cnv = s.cnv ∧ (s.onTim f).rdo = s.rdo ∧ (s.onTim f).mem = s.mem
    ∧ (s.onTim f).pip = s.pip ∧ (s.onTim f).lnk = s.lnk ∧ (s.onTim f).fab = s.fab
    ∧ (s.onTim f).clk = s.clk ∧ (s.onTim f).mon = s.mon ∧ (s.onTim f).ktl = s.ktl
    ∧ (s.onTim f).cal = s.cal ∧ (s.onTim f).sec = s.sec ∧ (s.onTim f).nvm = s.nvm
    ∧ (s.onTim f).boot = s.boot ∧ (s.onTim f).hst = s.hst ∧ (s.onTim f).mgt = s.mgt :=
  ⟨rfl, rfl, rfl, rfl, rfl, rfl, rfl, rfl, rfl, rfl, rfl, rfl, rfl, rfl, rfl, rfl, rfl, rfl, rfl, rfl, rfl, rfl, rfl, rfl, rfl, rfl, rfl, rfl, rfl, rfl, rfl⟩

@[simp] theorem Dev.onTim_tim (f : Tim → Tim) : (s.onTim f).tim = f s.tim := rfl

@[simp] theorem Dev.onFab_frame (f : Fab → Fab) :
    (s.onFab f).tick = s.tick ∧ (s.onFab f).tb = s.tb ∧ (s.onFab f).tbRun = s.tbRun
    ∧ (s.onFab f).free = s.free ∧ (s.onFab f).ctl = s.ctl ∧ (s.onFab f).latches = s.latches
    ∧ (s.onFab f).claims = s.claims ∧ (s.onFab f).asks = s.asks ∧ (s.onFab f).suppressed = s.suppressed
    ∧ (s.onFab f).handovers = s.handovers ∧ (s.onFab f).pinLow = s.pinLow ∧ (s.onFab f).drives = s.drives ∧ (s.onFab f).evt = s.evt
    ∧ (s.onFab f).seq = s.seq ∧ (s.onFab f).stp = s.stp ∧ (s.onFab f).frm = s.frm
    ∧ (s.onFab f).cnv = s.cnv ∧ (s.onFab f).rdo = s.rdo ∧ (s.onFab f).mem = s.mem
    ∧ (s.onFab f).pip = s.pip ∧ (s.onFab f).lnk = s.lnk ∧ (s.onFab f).tim = s.tim
    ∧ (s.onFab f).clk = s.clk ∧ (s.onFab f).mon = s.mon ∧ (s.onFab f).ktl = s.ktl
    ∧ (s.onFab f).cal = s.cal ∧ (s.onFab f).sec = s.sec ∧ (s.onFab f).nvm = s.nvm
    ∧ (s.onFab f).boot = s.boot ∧ (s.onFab f).hst = s.hst ∧ (s.onFab f).mgt = s.mgt :=
  ⟨rfl, rfl, rfl, rfl, rfl, rfl, rfl, rfl, rfl, rfl, rfl, rfl, rfl, rfl, rfl, rfl, rfl, rfl, rfl, rfl, rfl, rfl, rfl, rfl, rfl, rfl, rfl, rfl, rfl, rfl, rfl⟩

@[simp] theorem Dev.onFab_fab (f : Fab → Fab) : (s.onFab f).fab = f s.fab := rfl

@[simp] theorem Dev.onClk_frame (f : Clk → Clk) :
    (s.onClk f).tick = s.tick ∧ (s.onClk f).tb = s.tb ∧ (s.onClk f).tbRun = s.tbRun
    ∧ (s.onClk f).free = s.free ∧ (s.onClk f).ctl = s.ctl ∧ (s.onClk f).latches = s.latches
    ∧ (s.onClk f).claims = s.claims ∧ (s.onClk f).asks = s.asks ∧ (s.onClk f).suppressed = s.suppressed
    ∧ (s.onClk f).handovers = s.handovers ∧ (s.onClk f).pinLow = s.pinLow ∧ (s.onClk f).drives = s.drives ∧ (s.onClk f).evt = s.evt
    ∧ (s.onClk f).seq = s.seq ∧ (s.onClk f).stp = s.stp ∧ (s.onClk f).frm = s.frm
    ∧ (s.onClk f).cnv = s.cnv ∧ (s.onClk f).rdo = s.rdo ∧ (s.onClk f).mem = s.mem
    ∧ (s.onClk f).pip = s.pip ∧ (s.onClk f).lnk = s.lnk ∧ (s.onClk f).tim = s.tim
    ∧ (s.onClk f).fab = s.fab ∧ (s.onClk f).mon = s.mon ∧ (s.onClk f).ktl = s.ktl
    ∧ (s.onClk f).cal = s.cal ∧ (s.onClk f).sec = s.sec ∧ (s.onClk f).nvm = s.nvm
    ∧ (s.onClk f).boot = s.boot ∧ (s.onClk f).hst = s.hst ∧ (s.onClk f).mgt = s.mgt :=
  ⟨rfl, rfl, rfl, rfl, rfl, rfl, rfl, rfl, rfl, rfl, rfl, rfl, rfl, rfl, rfl, rfl, rfl, rfl, rfl, rfl, rfl, rfl, rfl, rfl, rfl, rfl, rfl, rfl, rfl, rfl, rfl⟩

@[simp] theorem Dev.onClk_clk (f : Clk → Clk) : (s.onClk f).clk = f s.clk := rfl

@[simp] theorem Dev.onMon_frame (f : Mon → Mon) :
    (s.onMon f).tick = s.tick ∧ (s.onMon f).tb = s.tb ∧ (s.onMon f).tbRun = s.tbRun
    ∧ (s.onMon f).free = s.free ∧ (s.onMon f).ctl = s.ctl ∧ (s.onMon f).latches = s.latches
    ∧ (s.onMon f).claims = s.claims ∧ (s.onMon f).asks = s.asks ∧ (s.onMon f).suppressed = s.suppressed
    ∧ (s.onMon f).handovers = s.handovers ∧ (s.onMon f).pinLow = s.pinLow ∧ (s.onMon f).drives = s.drives ∧ (s.onMon f).evt = s.evt
    ∧ (s.onMon f).seq = s.seq ∧ (s.onMon f).stp = s.stp ∧ (s.onMon f).frm = s.frm
    ∧ (s.onMon f).cnv = s.cnv ∧ (s.onMon f).rdo = s.rdo ∧ (s.onMon f).mem = s.mem
    ∧ (s.onMon f).pip = s.pip ∧ (s.onMon f).lnk = s.lnk ∧ (s.onMon f).tim = s.tim
    ∧ (s.onMon f).fab = s.fab ∧ (s.onMon f).clk = s.clk ∧ (s.onMon f).ktl = s.ktl
    ∧ (s.onMon f).cal = s.cal ∧ (s.onMon f).sec = s.sec ∧ (s.onMon f).nvm = s.nvm
    ∧ (s.onMon f).boot = s.boot ∧ (s.onMon f).hst = s.hst ∧ (s.onMon f).mgt = s.mgt :=
  ⟨rfl, rfl, rfl, rfl, rfl, rfl, rfl, rfl, rfl, rfl, rfl, rfl, rfl, rfl, rfl, rfl, rfl, rfl, rfl, rfl, rfl, rfl, rfl, rfl, rfl, rfl, rfl, rfl, rfl, rfl, rfl⟩

@[simp] theorem Dev.onMon_mon (f : Mon → Mon) : (s.onMon f).mon = f s.mon := rfl

@[simp] theorem Dev.onKtl_frame (f : Ktl → Ktl) :
    (s.onKtl f).tick = s.tick ∧ (s.onKtl f).tb = s.tb ∧ (s.onKtl f).tbRun = s.tbRun
    ∧ (s.onKtl f).free = s.free ∧ (s.onKtl f).ctl = s.ctl ∧ (s.onKtl f).latches = s.latches
    ∧ (s.onKtl f).claims = s.claims ∧ (s.onKtl f).asks = s.asks ∧ (s.onKtl f).suppressed = s.suppressed
    ∧ (s.onKtl f).handovers = s.handovers ∧ (s.onKtl f).pinLow = s.pinLow ∧ (s.onKtl f).drives = s.drives ∧ (s.onKtl f).evt = s.evt
    ∧ (s.onKtl f).seq = s.seq ∧ (s.onKtl f).stp = s.stp ∧ (s.onKtl f).frm = s.frm
    ∧ (s.onKtl f).cnv = s.cnv ∧ (s.onKtl f).rdo = s.rdo ∧ (s.onKtl f).mem = s.mem
    ∧ (s.onKtl f).pip = s.pip ∧ (s.onKtl f).lnk = s.lnk ∧ (s.onKtl f).tim = s.tim
    ∧ (s.onKtl f).fab = s.fab ∧ (s.onKtl f).clk = s.clk ∧ (s.onKtl f).mon = s.mon
    ∧ (s.onKtl f).cal = s.cal ∧ (s.onKtl f).sec = s.sec ∧ (s.onKtl f).nvm = s.nvm
    ∧ (s.onKtl f).boot = s.boot ∧ (s.onKtl f).hst = s.hst ∧ (s.onKtl f).mgt = s.mgt :=
  ⟨rfl, rfl, rfl, rfl, rfl, rfl, rfl, rfl, rfl, rfl, rfl, rfl, rfl, rfl, rfl, rfl, rfl, rfl, rfl, rfl, rfl, rfl, rfl, rfl, rfl, rfl, rfl, rfl, rfl, rfl, rfl⟩

@[simp] theorem Dev.onKtl_ktl (f : Ktl → Ktl) : (s.onKtl f).ktl = f s.ktl := rfl

@[simp] theorem Dev.onCal_frame (f : Cal → Cal) :
    (s.onCal f).tick = s.tick ∧ (s.onCal f).tb = s.tb ∧ (s.onCal f).tbRun = s.tbRun
    ∧ (s.onCal f).free = s.free ∧ (s.onCal f).ctl = s.ctl ∧ (s.onCal f).latches = s.latches
    ∧ (s.onCal f).claims = s.claims ∧ (s.onCal f).asks = s.asks ∧ (s.onCal f).suppressed = s.suppressed
    ∧ (s.onCal f).handovers = s.handovers ∧ (s.onCal f).pinLow = s.pinLow ∧ (s.onCal f).drives = s.drives ∧ (s.onCal f).evt = s.evt
    ∧ (s.onCal f).seq = s.seq ∧ (s.onCal f).stp = s.stp ∧ (s.onCal f).frm = s.frm
    ∧ (s.onCal f).cnv = s.cnv ∧ (s.onCal f).rdo = s.rdo ∧ (s.onCal f).mem = s.mem
    ∧ (s.onCal f).pip = s.pip ∧ (s.onCal f).lnk = s.lnk ∧ (s.onCal f).tim = s.tim
    ∧ (s.onCal f).fab = s.fab ∧ (s.onCal f).clk = s.clk ∧ (s.onCal f).mon = s.mon
    ∧ (s.onCal f).ktl = s.ktl ∧ (s.onCal f).sec = s.sec ∧ (s.onCal f).nvm = s.nvm
    ∧ (s.onCal f).boot = s.boot ∧ (s.onCal f).hst = s.hst ∧ (s.onCal f).mgt = s.mgt :=
  ⟨rfl, rfl, rfl, rfl, rfl, rfl, rfl, rfl, rfl, rfl, rfl, rfl, rfl, rfl, rfl, rfl, rfl, rfl, rfl, rfl, rfl, rfl, rfl, rfl, rfl, rfl, rfl, rfl, rfl, rfl, rfl⟩

@[simp] theorem Dev.onCal_cal (f : Cal → Cal) : (s.onCal f).cal = f s.cal := rfl

@[simp] theorem Dev.onSec_frame (f : Sec → Sec) :
    (s.onSec f).tick = s.tick ∧ (s.onSec f).tb = s.tb ∧ (s.onSec f).tbRun = s.tbRun
    ∧ (s.onSec f).free = s.free ∧ (s.onSec f).ctl = s.ctl ∧ (s.onSec f).latches = s.latches
    ∧ (s.onSec f).claims = s.claims ∧ (s.onSec f).asks = s.asks ∧ (s.onSec f).suppressed = s.suppressed
    ∧ (s.onSec f).handovers = s.handovers ∧ (s.onSec f).pinLow = s.pinLow ∧ (s.onSec f).drives = s.drives ∧ (s.onSec f).evt = s.evt
    ∧ (s.onSec f).seq = s.seq ∧ (s.onSec f).stp = s.stp ∧ (s.onSec f).frm = s.frm
    ∧ (s.onSec f).cnv = s.cnv ∧ (s.onSec f).rdo = s.rdo ∧ (s.onSec f).mem = s.mem
    ∧ (s.onSec f).pip = s.pip ∧ (s.onSec f).lnk = s.lnk ∧ (s.onSec f).tim = s.tim
    ∧ (s.onSec f).fab = s.fab ∧ (s.onSec f).clk = s.clk ∧ (s.onSec f).mon = s.mon
    ∧ (s.onSec f).ktl = s.ktl ∧ (s.onSec f).cal = s.cal ∧ (s.onSec f).nvm = s.nvm
    ∧ (s.onSec f).boot = s.boot ∧ (s.onSec f).hst = s.hst ∧ (s.onSec f).mgt = s.mgt :=
  ⟨rfl, rfl, rfl, rfl, rfl, rfl, rfl, rfl, rfl, rfl, rfl, rfl, rfl, rfl, rfl, rfl, rfl, rfl, rfl, rfl, rfl, rfl, rfl, rfl, rfl, rfl, rfl, rfl, rfl, rfl, rfl⟩

@[simp] theorem Dev.onSec_sec (f : Sec → Sec) : (s.onSec f).sec = f s.sec := rfl

@[simp] theorem Dev.onNvm_frame (f : Nvm → Nvm) :
    (s.onNvm f).tick = s.tick ∧ (s.onNvm f).tb = s.tb ∧ (s.onNvm f).tbRun = s.tbRun
    ∧ (s.onNvm f).free = s.free ∧ (s.onNvm f).ctl = s.ctl ∧ (s.onNvm f).latches = s.latches
    ∧ (s.onNvm f).claims = s.claims ∧ (s.onNvm f).asks = s.asks ∧ (s.onNvm f).suppressed = s.suppressed
    ∧ (s.onNvm f).handovers = s.handovers ∧ (s.onNvm f).pinLow = s.pinLow ∧ (s.onNvm f).drives = s.drives ∧ (s.onNvm f).evt = s.evt
    ∧ (s.onNvm f).seq = s.seq ∧ (s.onNvm f).stp = s.stp ∧ (s.onNvm f).frm = s.frm
    ∧ (s.onNvm f).cnv = s.cnv ∧ (s.onNvm f).rdo = s.rdo ∧ (s.onNvm f).mem = s.mem
    ∧ (s.onNvm f).pip = s.pip ∧ (s.onNvm f).lnk = s.lnk ∧ (s.onNvm f).tim = s.tim
    ∧ (s.onNvm f).fab = s.fab ∧ (s.onNvm f).clk = s.clk ∧ (s.onNvm f).mon = s.mon
    ∧ (s.onNvm f).ktl = s.ktl ∧ (s.onNvm f).cal = s.cal ∧ (s.onNvm f).sec = s.sec
    ∧ (s.onNvm f).boot = s.boot ∧ (s.onNvm f).hst = s.hst ∧ (s.onNvm f).mgt = s.mgt :=
  ⟨rfl, rfl, rfl, rfl, rfl, rfl, rfl, rfl, rfl, rfl, rfl, rfl, rfl, rfl, rfl, rfl, rfl, rfl, rfl, rfl, rfl, rfl, rfl, rfl, rfl, rfl, rfl, rfl, rfl, rfl, rfl⟩

@[simp] theorem Dev.onNvm_nvm (f : Nvm → Nvm) : (s.onNvm f).nvm = f s.nvm := rfl

@[simp] theorem Dev.onBoot_frame (f : Boot → Boot) :
    (s.onBoot f).tick = s.tick ∧ (s.onBoot f).tb = s.tb ∧ (s.onBoot f).tbRun = s.tbRun
    ∧ (s.onBoot f).free = s.free ∧ (s.onBoot f).ctl = s.ctl ∧ (s.onBoot f).latches = s.latches
    ∧ (s.onBoot f).claims = s.claims ∧ (s.onBoot f).asks = s.asks ∧ (s.onBoot f).suppressed = s.suppressed
    ∧ (s.onBoot f).handovers = s.handovers ∧ (s.onBoot f).pinLow = s.pinLow ∧ (s.onBoot f).drives = s.drives ∧ (s.onBoot f).evt = s.evt
    ∧ (s.onBoot f).seq = s.seq ∧ (s.onBoot f).stp = s.stp ∧ (s.onBoot f).frm = s.frm
    ∧ (s.onBoot f).cnv = s.cnv ∧ (s.onBoot f).rdo = s.rdo ∧ (s.onBoot f).mem = s.mem
    ∧ (s.onBoot f).pip = s.pip ∧ (s.onBoot f).lnk = s.lnk ∧ (s.onBoot f).tim = s.tim
    ∧ (s.onBoot f).fab = s.fab ∧ (s.onBoot f).clk = s.clk ∧ (s.onBoot f).mon = s.mon
    ∧ (s.onBoot f).ktl = s.ktl ∧ (s.onBoot f).cal = s.cal ∧ (s.onBoot f).sec = s.sec
    ∧ (s.onBoot f).nvm = s.nvm ∧ (s.onBoot f).hst = s.hst ∧ (s.onBoot f).mgt = s.mgt :=
  ⟨rfl, rfl, rfl, rfl, rfl, rfl, rfl, rfl, rfl, rfl, rfl, rfl, rfl, rfl, rfl, rfl, rfl, rfl, rfl, rfl, rfl, rfl, rfl, rfl, rfl, rfl, rfl, rfl, rfl, rfl, rfl⟩

@[simp] theorem Dev.onBoot_boot (f : Boot → Boot) : (s.onBoot f).boot = f s.boot := rfl

@[simp] theorem Dev.onHst_frame (f : Hst → Hst) :
    (s.onHst f).tick = s.tick ∧ (s.onHst f).tb = s.tb ∧ (s.onHst f).tbRun = s.tbRun
    ∧ (s.onHst f).free = s.free ∧ (s.onHst f).ctl = s.ctl ∧ (s.onHst f).latches = s.latches
    ∧ (s.onHst f).claims = s.claims ∧ (s.onHst f).asks = s.asks ∧ (s.onHst f).suppressed = s.suppressed
    ∧ (s.onHst f).handovers = s.handovers ∧ (s.onHst f).pinLow = s.pinLow ∧ (s.onHst f).drives = s.drives ∧ (s.onHst f).evt = s.evt
    ∧ (s.onHst f).seq = s.seq ∧ (s.onHst f).stp = s.stp ∧ (s.onHst f).frm = s.frm
    ∧ (s.onHst f).cnv = s.cnv ∧ (s.onHst f).rdo = s.rdo ∧ (s.onHst f).mem = s.mem
    ∧ (s.onHst f).pip = s.pip ∧ (s.onHst f).lnk = s.lnk ∧ (s.onHst f).tim = s.tim
    ∧ (s.onHst f).fab = s.fab ∧ (s.onHst f).clk = s.clk ∧ (s.onHst f).mon = s.mon
    ∧ (s.onHst f).ktl = s.ktl ∧ (s.onHst f).cal = s.cal ∧ (s.onHst f).sec = s.sec
    ∧ (s.onHst f).nvm = s.nvm ∧ (s.onHst f).boot = s.boot ∧ (s.onHst f).mgt = s.mgt :=
  ⟨rfl, rfl, rfl, rfl, rfl, rfl, rfl, rfl, rfl, rfl, rfl, rfl, rfl, rfl, rfl, rfl, rfl, rfl, rfl, rfl, rfl, rfl, rfl, rfl, rfl, rfl, rfl, rfl, rfl, rfl, rfl⟩

@[simp] theorem Dev.onHst_hst (f : Hst → Hst) : (s.onHst f).hst = f s.hst := rfl

@[simp] theorem Dev.onMgt_frame (f : Mgt → Mgt) :
    (s.onMgt f).tick = s.tick ∧ (s.onMgt f).tb = s.tb ∧ (s.onMgt f).tbRun = s.tbRun
    ∧ (s.onMgt f).free = s.free ∧ (s.onMgt f).ctl = s.ctl ∧ (s.onMgt f).latches = s.latches
    ∧ (s.onMgt f).claims = s.claims ∧ (s.onMgt f).asks = s.asks ∧ (s.onMgt f).suppressed = s.suppressed
    ∧ (s.onMgt f).handovers = s.handovers ∧ (s.onMgt f).pinLow = s.pinLow ∧ (s.onMgt f).drives = s.drives ∧ (s.onMgt f).evt = s.evt
    ∧ (s.onMgt f).seq = s.seq ∧ (s.onMgt f).stp = s.stp ∧ (s.onMgt f).frm = s.frm
    ∧ (s.onMgt f).cnv = s.cnv ∧ (s.onMgt f).rdo = s.rdo ∧ (s.onMgt f).mem = s.mem
    ∧ (s.onMgt f).pip = s.pip ∧ (s.onMgt f).lnk = s.lnk ∧ (s.onMgt f).tim = s.tim
    ∧ (s.onMgt f).fab = s.fab ∧ (s.onMgt f).clk = s.clk ∧ (s.onMgt f).mon = s.mon
    ∧ (s.onMgt f).ktl = s.ktl ∧ (s.onMgt f).cal = s.cal ∧ (s.onMgt f).sec = s.sec
    ∧ (s.onMgt f).nvm = s.nvm ∧ (s.onMgt f).boot = s.boot ∧ (s.onMgt f).hst = s.hst :=
  ⟨rfl, rfl, rfl, rfl, rfl, rfl, rfl, rfl, rfl, rfl, rfl, rfl, rfl, rfl, rfl, rfl, rfl, rfl, rfl, rfl, rfl, rfl, rfl, rfl, rfl, rfl, rfl, rfl, rfl, rfl, rfl⟩

@[simp] theorem Dev.onMgt_mgt (f : Mgt → Mgt) : (s.onMgt f).mgt = f s.mgt := rfl

/-- The beginning of a decision touches the log alone (R523). -/
@[simp] theorem Dev.hold_frame :
    (s.hold).tick = s.tick ∧ (s.hold).tb = s.tb ∧ (s.hold).tbRun = s.tbRun
    ∧ (s.hold).free = s.free ∧ (s.hold).ctl = s.ctl ∧ (s.hold).latches = s.latches
    ∧ (s.hold).claims = s.claims ∧ (s.hold).asks = s.asks ∧ (s.hold).suppressed = s.suppressed
    ∧ (s.hold).handovers = s.handovers ∧ (s.hold).pinLow = s.pinLow ∧ (s.hold).drives = s.drives
    ∧ (s.hold).seq = s.seq ∧ (s.hold).stp = s.stp ∧ (s.hold).frm = s.frm
    ∧ (s.hold).cnv = s.cnv ∧ (s.hold).rdo = s.rdo ∧ (s.hold).mem = s.mem
    ∧ (s.hold).pip = s.pip ∧ (s.hold).lnk = s.lnk ∧ (s.hold).tim = s.tim
    ∧ (s.hold).fab = s.fab ∧ (s.hold).clk = s.clk ∧ (s.hold).mon = s.mon
    ∧ (s.hold).ktl = s.ktl ∧ (s.hold).cal = s.cal ∧ (s.hold).sec = s.sec
    ∧ (s.hold).nvm = s.nvm ∧ (s.hold).boot = s.boot ∧ (s.hold).hst = s.hst
    ∧ (s.hold).mgt = s.mgt :=
  ⟨rfl, rfl, rfl, rfl, rfl, rfl, rfl, rfl, rfl, rfl, rfl, rfl, rfl, rfl, rfl, rfl, rfl, rfl, rfl, rfl, rfl, rfl, rfl, rfl, rfl, rfl, rfl, rfl, rfl, rfl, rfl⟩

@[simp] theorem Dev.hold_evt : s.hold.evt = { s.evt with held := some [] } := rfl

/-- Remembering who drives a pin changes nothing else (R350). -/
@[simp] theorem Dev.keepDrive_frame (t : Nat) :
    (s.keepDrive t).tick = s.tick ∧ (s.keepDrive t).tb = s.tb ∧ (s.keepDrive t).tbRun = s.tbRun
    ∧ (s.keepDrive t).free = s.free ∧ (s.keepDrive t).ctl = s.ctl ∧ (s.keepDrive t).latches = s.latches
    ∧ (s.keepDrive t).claims = s.claims ∧ (s.keepDrive t).asks = s.asks ∧ (s.keepDrive t).suppressed = s.suppressed
    ∧ (s.keepDrive t).handovers = s.handovers ∧ (s.keepDrive t).pinLow = s.pinLow ∧ (s.keepDrive t).evt = s.evt
    ∧ (s.keepDrive t).seq = s.seq ∧ (s.keepDrive t).stp = s.stp ∧ (s.keepDrive t).frm = s.frm
    ∧ (s.keepDrive t).cnv = s.cnv ∧ (s.keepDrive t).rdo = s.rdo ∧ (s.keepDrive t).mem = s.mem
    ∧ (s.keepDrive t).pip = s.pip ∧ (s.keepDrive t).lnk = s.lnk ∧ (s.keepDrive t).tim = s.tim
    ∧ (s.keepDrive t).fab = s.fab ∧ (s.keepDrive t).clk = s.clk ∧ (s.keepDrive t).mon = s.mon
    ∧ (s.keepDrive t).ktl = s.ktl ∧ (s.keepDrive t).cal = s.cal ∧ (s.keepDrive t).sec = s.sec
    ∧ (s.keepDrive t).nvm = s.nvm ∧ (s.keepDrive t).boot = s.boot ∧ (s.keepDrive t).hst = s.hst
    ∧ (s.keepDrive t).mgt = s.mgt :=
  ⟨rfl, rfl, rfl, rfl, rfl, rfl, rfl, rfl, rfl, rfl, rfl, rfl, rfl, rfl, rfl, rfl, rfl, rfl, rfl, rfl, rfl, rfl, rfl, rfl, rfl, rfl, rfl, rfl, rfl, rfl, rfl⟩

@[simp] theorem Dev.rd_hold (a : Nat) : s.hold.rd a = s.rd a := rfl

@[simp] theorem Dev.th_hold (n : Fin 8) : s.hold.th n = s.th n := rfl

@[simp] theorem Dev.en_hold (n : Fin 8) : s.hold.en n = s.en n := rfl

@[simp] theorem Dev.tx_hold (p : Owner) : s.hold.tx p = s.tx p := rfl

@[simp] theorem Dev.lock_hold (k : Fin 32) : s.hold.lock k = s.lock k := rfl

@[simp] theorem Dev.dark_hold : s.hold.dark = s.dark := rfl

@[simp] theorem Dev.rd_keepDrive (t a : Nat) : (s.keepDrive t).rd a = s.rd a := rfl

@[simp] theorem Dev.setTh_other (n : Fin 8) (t : Thread) : (s.setTh n t).seq.txs = s.seq.txs ∧ (s.setTh n t).seq.locks = s.seq.locks :=
  ⟨rfl, rfl⟩

@[simp] theorem Dev.th_setTh (n : Fin 8) (t : Thread) : (s.setTh n t).th n = t := by simp [Dev.th, Dev.setTh]

theorem Dev.th_setTh_ne (n m : Fin 8) (t : Thread) (h : m ≠ n) : (s.setTh n t).th m = s.th m := by
  have h' : n.val ≠ m.val := fun e => h (Fin.ext e.symm)
  simp [Dev.th, Dev.setTh, h']

@[simp] theorem Dev.en_setEn (n : Fin 8) (e : Entry) : (s.setEn n e).en n = e := by simp [Dev.en, Dev.setEn]

theorem Dev.en_setEn_ne (n m : Fin 8) (e : Entry) (h : m ≠ n) : (s.setEn n e).en m = s.en m := by
  have h' : n.val ≠ m.val := fun e => h (Fin.ext e.symm)
  simp [Dev.en, Dev.setEn, h']

@[simp] theorem Dev.lock_setLock (k : Fin 32) (o : Option Owner) : (s.setLock k o).lock k = o := by simp [Dev.lock, Dev.setLock]

@[simp] theorem Dev.tx_setTx (p : Owner) (t : Tx) : (s.setTx p t).tx p = t := by simp [Dev.tx, Dev.setTx]

@[simp] theorem Dev.th_wr (a : Nat) (v : Word) (n : Fin 8) : (s.wr a v).th n = s.th n := rfl

@[simp] theorem Dev.en_wr (a : Nat) (v : Word) (n : Fin 8) : (s.wr a v).en n = s.en n := rfl

@[simp] theorem Dev.tx_wr (a : Nat) (v : Word) (p : Owner) : (s.wr a v).tx p = s.tx p := rfl

@[simp] theorem Dev.rd_setTh (n : Fin 8) (t : Thread) (a : Nat) : (s.setTh n t).rd a = s.rd a := rfl

@[simp] theorem Dev.rd_setEn (n : Fin 8) (e : Entry) (a : Nat) : (s.setEn n e).rd a = s.rd a := rfl

@[simp] theorem Dev.rd_setTx (p : Owner) (t : Tx) (a : Nat) : (s.setTx p t).rd a = s.rd a := rfl

end Sys2Proof.Machine
end

