-- ==== Sys2Proof/Laws/Write.lean ====
section
/-! SUPPORT. Everything a write of a register by a path can do, said once: the provers cite these lemmas and never unfold the write. -/

namespace Sys2Proof.Machine

/-- A read of the control space after a write. -/
theorem Dev.rd_wr (s : Dev) (a b : Nat) (v : Word) : (s.wr a v).rd b = if b = a then v else s.rd b :=
  Cells.get_put resetOf s.ctl a b v

/-- The control space keeps its canonical form. -/
theorem Dev.wr_wf (s : Dev) (a : Nat) (v : Word) (h : Cells.wf resetOf s.ctl = true) : Cells.wf resetOf (s.wr a v).ctl = true :=
  Cells.put_wf resetOf s.ctl a v h

/-- With nothing asked for nothing is resolved. -/
theorem Dev.settle_nil (s : Dev) (h : s.asks = []) : s.settle = s := by
  unfold Dev.settle; simp [h]

/-- A path asks no claim by a write itself. -/
theorem Dev.askThread_path (s : Dev) (p : Owner) (a : Nat) (v : Word) (h : p.isPath = true) : s.askThread p a v = s := by
  cases p <;> first | rfl | cases h

/-- No word is out of a path's reach (R270). -/
theorem foreign_path (p : Owner) (a : Nat) (h : p.isPath = true) : foreign p a = false := by
  cases p <;> first | rfl | cases h

/-- From boot step 1 on the device answers its ports (R417, R420). -/
theorem Dev.hstAlive_booted (s : Dev) (h : s.boot.step ≠ some 0) : s.hstAlive = true := by
  unfold Dev.hstAlive
  exact bne_iff_ne.mpr h

/-- A decision that makes the block `f` of what it finds (R523). -/
theorem State.onDev_goes (s : State) (f : Dev → Dev) : s.onDev f = s.goes (f s.dev.hold) := rfl

/-- An access while the device answers. -/
theorem State.access_alive (s : State) (f : Dev → Dev) (h : s.dev.boot.step ≠ some 0) : s.access f = s.goes (f s.dev.hold) := by
  have e : s.dev.hold.hstAlive = true := Dev.hstAlive_booted _ h
  rw [State.access, State.onDev_goes, if_pos e]

/-- Before boot step 1 an access does nothing. -/
theorem State.access_dead (s : State) (f : Dev → Dev) (h : s.dev.boot.step = some 0) : s.access f = s.stays := by
  have e : s.dev.hold.hstAlive ≠ true := by simp [Dev.hstAlive, h]
  rw [State.access, State.onDev_goes, if_neg e]
  rfl

/-- A path's write needs no claim. -/
theorem Dev.threadMay_path (s : Dev) (p : Owner) (a : Nat) (v : Word) (h : p.isPath = true) : s.threadMay p a v = true := by
  cases p <;> first | rfl | cases h

/-- A path holds no claim of feature 7 that its write could end (R328). -/
theorem Dev.dropThread_path (s : Dev) (p : Owner) (a : Nat) (v : Word) (h : p.isPath = true) : s.dropThread p a v = s := by
  cases p <;> first | rfl | cases h

/-- A path's write of a register outside an OPEN transaction is its effect, followed by what a write resolves (R14, R25, R291, R296). -/
theorem Dev.anyWrite_now (d : Dev) (f : Fuses) (p : Owner) (a : Nat) (v : Word) (hp : p.isPath = true) (ht : (d.tx p).st ≠ .opened)
    (hr : (regAt a).isSome = true) (ha : a ≠ R.ID_PROFILE_APPLY) : d.anyWrite f p a v = (d.settle.ctlEff f p a v).written p a := by
  obtain ⟨r, hr⟩ := Option.isSome_iff_exists.mp hr
  have ho : ((d.tx p).st = .opened && !neverStaged a) = true ↔ False := by simp [ht]
  rw [Dev.anyWrite, if_neg ha, Dev.ctlWrite, hr]
  simp only [ho, if_false, foreign_path _ _ hp, Bool.false_eq_true, Dev.askThread_path _ _ _ _ hp, Dev.threadMay_path _ _ _ _ hp, if_true,
    Dev.dropThread_path _ _ _ _ hp, Dev.written]

/-- The same as a command (R14, R25, R291, R296). -/
theorem State.write_now (s : State) (p : Owner) (a : Nat) (v : Word) (h : Now s.dev p) (hr : (regAt a).isSome = true)
    (ha : a ≠ R.ID_PROFILE_APPLY) : s.write p a v = s.wrote p a (s.ready.ctlEff s.fuses p a v) := by
  rw [State.write, State.access_alive _ _ h.2.2, Dev.anyWrite_now s.dev.hold _ _ _ _ h.1 h.2.1 hr ha]
  rfl

/-- A path's write of a register inside its OPEN transaction is staged (R291, R292). -/
theorem State.write_staged (s : State) (p : Owner) (a : Nat) (v : Word) (hb : s.dev.boot.step ≠ some 0) (h : (s.dev.tx p).st = .opened)
    (hn : neverStaged a = false) (hr : (regAt a).isSome = true) (ha : a ≠ R.ID_PROFILE_APPLY) :
    s.write p a v = s.goes (s.dev.hold.stage p a v) := by
  obtain ⟨r, hr⟩ := Option.isSome_iff_exists.mp hr
  have ho : (s.dev.hold.tx p).st = .opened := h
  rw [State.write, State.access_alive _ _ hb, Dev.anyWrite, if_neg ha, Dev.ctlWrite, hr]
  simp only [ho, hn, decide_true, Bool.not_false, Bool.and_self, if_true]

/-- A write to an address that no register occupies is reported and changes nothing else (R14). -/
theorem State.write_bad (s : State) (p : Owner) (a : Nat) (v : Word) (hb : s.dev.boot.step ≠ some 0) (hr : regAt a = none) :
    s.write p a v = s.goes (s.dev.hold.badAddress p a true) := by
  have ha : a ≠ R.ID_PROFILE_APPLY := by intro e; subst e; revert hr; decide
  rw [State.write, State.access_alive _ _ hb, Dev.anyWrite, if_neg ha, Dev.ctlWrite, hr]

end Sys2Proof.Machine
end

