-- ==== Sys2Proof/Laws/Ops.lean ====
section
/-! SUPPORT. What the shared operations leave alone, said once: posting and logging an event, resolving claims, and aborting the transactions
that staged a word. -/

namespace Sys2Proof.Machine

/-- What posting an event, logging one and aborting a transaction leave alone. -/
structure Dev.Calm (s t : Dev) : Prop where
  tick : t.tick = s.tick
  tb : t.tb = s.tb
  tbRun : t.tbRun = s.tbRun
  free : t.free = s.free
  claims : t.claims = s.claims
  asks : t.asks = s.asks
  suppressed : t.suppressed = s.suppressed
  handovers : t.handovers = s.handovers
  pinLow : t.pinLow = s.pinLow
  stp : t.stp = s.stp
  frm : t.frm = s.frm
  cnv : t.cnv = s.cnv
  rdo : t.rdo = s.rdo
  mem : t.mem = s.mem
  pip : t.pip = s.pip
  tim : t.tim = s.tim
  fab : t.fab = s.fab
  clk : t.clk = s.clk
  mon : t.mon = s.mon
  ktl : t.ktl = s.ktl
  cal : t.cal = s.cal
  sec : t.sec = s.sec
  nvm : t.nvm = s.nvm
  boot : t.boot = s.boot
  hst : t.hst = s.hst
  mgt : t.mgt = s.mgt

theorem Dev.Calm.refl (s : Dev) : Dev.Calm s s := ⟨rfl, rfl, rfl, rfl, rfl, rfl, rfl, rfl, rfl, rfl, rfl, rfl, rfl, rfl, rfl, rfl, rfl, rfl, rfl, rfl, rfl, rfl, rfl, rfl, rfl, rfl⟩

theorem Dev.Calm.trans {a b c : Dev} (h : Dev.Calm a b) (k : Dev.Calm b c) : Dev.Calm a c :=
  ⟨k.tick.trans h.tick, k.tb.trans h.tb, k.tbRun.trans h.tbRun, k.free.trans h.free, k.claims.trans h.claims, k.asks.trans h.asks,
   k.suppressed.trans h.suppressed, k.handovers.trans h.handovers, k.pinLow.trans h.pinLow, k.stp.trans h.stp, k.frm.trans h.frm,
   k.cnv.trans h.cnv, k.rdo.trans h.rdo, k.mem.trans h.mem, k.pip.trans h.pip, k.tim.trans h.tim, k.fab.trans h.fab, k.clk.trans h.clk,
   k.mon.trans h.mon, k.ktl.trans h.ktl, k.cal.trans h.cal, k.sec.trans h.sec, k.nvm.trans h.nvm, k.boot.trans h.boot, k.hst.trans h.hst,
   k.mgt.trans h.mgt⟩

/-- What resolving claims leaves alone as well. -/
structure Dev.Steady (s t : Dev) : Prop where
  tick : t.tick = s.tick
  tb : t.tb = s.tb
  tbRun : t.tbRun = s.tbRun
  free : t.free = s.free
  pinLow : t.pinLow = s.pinLow
  cnv : t.cnv = s.cnv
  rdo : t.rdo = s.rdo
  mem : t.mem = s.mem
  pip : t.pip = s.pip
  tim : t.tim = s.tim
  fab : t.fab = s.fab
  clk : t.clk = s.clk
  mon : t.mon = s.mon
  ktl : t.ktl = s.ktl
  cal : t.cal = s.cal
  sec : t.sec = s.sec
  nvm : t.nvm = s.nvm
  boot : t.boot = s.boot
  hst : t.hst = s.hst
  mgt : t.mgt = s.mgt

theorem Dev.Steady.refl (s : Dev) : Dev.Steady s s := ⟨rfl, rfl, rfl, rfl, rfl, rfl, rfl, rfl, rfl, rfl, rfl, rfl, rfl, rfl, rfl, rfl, rfl, rfl, rfl, rfl⟩

theorem Dev.Steady.trans {a b c : Dev} (h : Dev.Steady a b) (k : Dev.Steady b c) : Dev.Steady a c :=
  ⟨k.tick.trans h.tick, k.tb.trans h.tb, k.tbRun.trans h.tbRun, k.free.trans h.free, k.pinLow.trans h.pinLow, k.cnv.trans h.cnv,
   k.rdo.trans h.rdo, k.mem.trans h.mem, k.pip.trans h.pip, k.tim.trans h.tim, k.fab.trans h.fab, k.clk.trans h.clk, k.mon.trans h.mon,
   k.ktl.trans h.ktl, k.cal.trans h.cal, k.sec.trans h.sec, k.nvm.trans h.nvm, k.boot.trans h.boot, k.hst.trans h.hst, k.mgt.trans h.mgt⟩

theorem Dev.Calm.steady {s t : Dev} (h : Dev.Calm s t) : Dev.Steady s t :=
  ⟨h.tick, h.tb, h.tbRun, h.free, h.pinLow, h.cnv, h.rdo, h.mem, h.pip, h.tim, h.fab, h.clk, h.mon, h.ktl, h.cal, h.sec, h.nvm, h.boot, h.hst, h.mgt⟩

/-- A fold of calm steps is calm. -/
theorem Dev.Calm.fold {α : Type} (l : List α) (f : Dev → α → Dev) (h : ∀ s x, Dev.Calm s (f s x)) (s : Dev) :
    Dev.Calm s (l.foldl f s) := by
  induction l generalizing s with
  | nil => exact .refl s
  | cons x r ih => exact (h s x).trans (ih _)

/-- A fold of steady steps is steady. -/
theorem Dev.Steady.fold {α : Type} (l : List α) (f : Dev → α → Dev) (h : ∀ s x, Dev.Steady s (f s x)) (s : Dev) :
    Dev.Steady s (l.foldl f s) := by
  induction l generalizing s with
  | nil => exact .refl s
  | cons x r ih => exact (h s x).trans (ih _)

theorem Dev.wr_calm (s : Dev) (a : Nat) (v : Word) : Dev.Calm s (s.wr a v) := by constructor <;> rfl
theorem Dev.setTh_calm (s : Dev) (n : Fin 8) (t : Thread) : Dev.Calm s (s.setTh n t) := by constructor <;> rfl
theorem Dev.setTx_calm (s : Dev) (p : Owner) (t : Tx) : Dev.Calm s (s.setTx p t) := by constructor <;> rfl
theorem Dev.stale_calm (s : Dev) (a b : Nat) : Dev.Calm s (s.stale a b) := by constructor <;> rfl

theorem Dev.postTo_calm (s : Dev) (n : Fin 8) (e : Nat) (st : Stamp) : Dev.Calm s (s.postTo n e st) := by
  unfold Dev.postTo
  split
  · dsimp only
    split
    · split
      · exact .refl s
      · exact s.wr_calm _ _
    · split
      · split <;> exact (s.stale_calm _ _).trans (Dev.setTh_calm _ _ _)
      · exact (s.stale_calm _ _).trans (Dev.setTh_calm _ _ _)
  · exact .refl s

/-- Posting an event changes threads, lost counts and latches at most (R284). -/
theorem Dev.post_calm (s : Dev) (e : Nat) (st : Stamp) : Dev.Calm s (s.post e st) :=
  Dev.Calm.fold _ _ (fun s n => s.postTo_calm n e st) s

theorem Dev.routeEvent_calm (s : Dev) (c : Nat) : Dev.Calm s (s.routeEvent c) := by
  unfold Dev.routeEvent Dev.alertClass Dev.wb Dev.wf
  dsimp only
  split <;> split <;> first | exact .refl s | exact Dev.wr_calm _ _ _ | exact (Dev.wr_calm _ _ _).trans (Dev.wr_calm _ _ _)

theorem Dev.toVc3_calm (s : Dev) (p : LinkPacket) : Dev.Calm s (s.toVc3 p) := by
  unfold Dev.toVc3
  split
  · split
    · constructor <;> rfl
    · exact s.wr_calm _ _
  · exact .refl s

theorem Dev.takeEntry_calm (s : Dev) (e : LogEntry) : Dev.Calm s (s.takeEntry e) := by
  unfold Dev.takeEntry
  split
  · split
    · split
      · constructor <;> rfl
      · split
        · exact Dev.Calm.trans (by constructor <;> rfl) ((Dev.post_calm _ _ _).trans (Dev.toVc3_calm _ _))
        · constructor <;> rfl
    · exact Dev.Calm.trans (by constructor <;> rfl) ((Dev.post_calm _ _ _).trans (Dev.toVc3_calm _ _))
  · exact .refl s

/-- Handling an event changes the log, its counts, routes' alerts, VC3's queue and threads at most (R523). -/
theorem Dev.happen_calm (s : Dev) (e : LogEntry) : Dev.Calm s (s.happen e) :=
  (s.wr_calm _ _).trans ((Dev.routeEvent_calm _ _).trans (Dev.takeEntry_calm _ _))

/-- An event that happens is held, or handled (R523). -/
theorem Dev.logAt_calm (s : Dev) (st : Stamp) (c a b : Nat) : Dev.Calm s (s.logAt st c a b) := by
  unfold Dev.logAt
  dsimp only
  split
  · exact s.happen_calm _
  · constructor <;> rfl

theorem Dev.log_calm (s : Dev) (c a b : Nat) : Dev.Calm s (s.log c a b) := s.logAt_calm _ _ _ _

/-- The end of a decision handles its events and does nothing else (R523). -/
theorem Dev.endDecision_calm (s old : Dev) : Dev.Calm s (s.endDecision old) := by
  have begun : Dev.Calm s { s with evt := { s.evt with held := none } } := by constructor <;> rfl
  have handled := Dev.Calm.fold ((s.evt.held.getD []).foldl (fun l e => insertEntry e l) []) Dev.happen (fun s e => s.happen_calm e)
    { s with evt := { s.evt with held := none } }
  exact (begun.trans handled).trans (by constructor <;> rfl)

/-- With no control field waiting for a retirement, none comes due (R272). -/
theorem Dev.threadsDue_nil (s : Dev) (h : ∀ n, (s.th n).ctl = []) : s.threadsDue = s := by
  have one : ∀ n, s.threadDue n = s := fun n => by
    unfold Dev.threadDue
    simp [h n]
  have all : ∀ l : List (Fin 8), l.foldl (fun s n => s.threadDue n) s = s := by
    intro l
    induction l with
    | nil => rfl
    | cons n r ih => rw [List.foldl_cons, one n, ih]
  exact all _

/-- With no group of the management page being read, none turns stale (R426). -/
theorem Dev.watchGroups_nil (s : Dev) (h : ∀ g ∈ s.mgt.groups, g.fresh = false) : s.watchGroups = s := by
  unfold Dev.watchGroups
  rw [if_neg]
  simpa using h

/-- The end of a decision of a quiet block is the handling of its events (R523). -/
theorem Dev.decided_quiet (s old : Dev) (h : s.Quiet) : s.decided old = s.endDecision old := by
  rw [Dev.decided, Dev.threadsDue_nil s h.1, Dev.watchGroups_nil]
  rw [(s.endDecision_calm old).mgt]
  exact h.2

/-- The end of a quiet block's decision leaves alone what handling events leaves alone. -/
theorem Dev.decided_calm (s old : Dev) (h : s.Quiet) : Dev.Calm s (s.decided old) := by
  rw [s.decided_quiet old h]
  exact s.endDecision_calm old

theorem Dev.abortTx_calm (s : Dev) (p : Owner) (c : Nat) : Dev.Calm s (s.abortTx p c) := by
  unfold Dev.abortTx
  dsimp only
  split
  · exact (s.setTx_calm _ _).trans ((Dev.log_calm _ _ _ _).trans (Dev.postTo_calm _ _ _ _))
  · exact (s.setTx_calm _ _).trans (Dev.log_calm _ _ _ _)

/-- Aborting the transactions that staged a word changes transactions and what their logging changes at most (R296). -/
theorem Dev.abortStagers_calm (s : Dev) (p : Owner) (a : Nat) : Dev.Calm s (s.abortStagers p a) := by
  refine Dev.Calm.fold _ _ (fun s i => ?_) s
  dsimp only
  split
  · exact s.abortTx_calm _ _
  · exact .refl s

/-- With no transaction of another owner live, nothing aborts. -/
theorem Dev.abortStagers_none (s : Dev) (p : Owner) (a : Nat) (h : ∀ o, (s.tx o).live = false) : s.abortStagers p a = s := by
  unfold Dev.abortStagers
  have step : ∀ i : Fin 12, (if Owner.ofIdx i ≠ p ∧ (s.tx (Owner.ofIdx i)).live ∧
      (s.tx (Owner.ofIdx i)).staged.any (fun x => x.1 == a) then s.abortTx (Owner.ofIdx i) 1 else s) = s := by
    intro i
    rw [if_neg]
    rintro ⟨-, hl, -⟩
    rw [h] at hl
    exact absurd hl (by decide)
  have all : ∀ l : List (Fin 12), l.foldl (fun s i =>
      let o := Owner.ofIdx i
      if o ≠ p ∧ (s.tx o).live ∧ (s.tx o).staged.any (fun x => x.1 == a) then s.abortTx o 1 else s) s = s := by
    intro l
    induction l with
    | nil => rfl
    | cons i r ih =>
      rw [List.foldl_cons]
      dsimp only
      rw [step i]
      exact ih
  exact all _

theorem Dev.conflict_calm (s : Dev) (r : Nat) (w l : Claim) : Dev.Calm s (s.conflict r w l) :=
  (s.wr_calm _ _).trans (Dev.log_calm _ _ _ _)

theorem Dev.suppress_steady (s : Dev) (l : List (Nat × Nat)) : Dev.Steady s { s with suppressed := l } := by constructor <;> rfl

theorem considerClaims_steady (l : List (Claim × Bool)) (g : List Claim) (s : Dev) : Dev.Steady s (considerClaims l g s).2 := by
  induction l generalizing g s with
  | nil => exact .refl s
  | cons x r ih =>
    obtain ⟨c, b⟩ := x
    unfold considerClaims
    dsimp only
    split
    · refine Dev.Steady.trans ?_ (ih _ _)
      exact s.suppress_steady _
    · refine Dev.Steady.trans ?_ (ih _ _)
      refine Dev.Steady.trans ?_ (Dev.suppress_steady _ _)
      exact (Dev.Calm.fold _ (fun (s : Dev) (x : Nat × Claim) => s.conflict x.1 x.2 c) (fun s x => s.conflict_calm x.1 x.2 c) s).steady

theorem Dev.resolve_steady (s : Dev) : Dev.Steady s s.resolve := by
  unfold Dev.resolve
  split
  · exact .refl s
  · dsimp only
    refine Dev.Steady.trans (b := { s.keepDrive s.tick with asks := [] }) (by constructor <;> rfl) ?_
    exact Dev.Steady.trans (considerClaims_steady _ _ _) (by constructor <;> rfl)

/-- Giving up a claim changes claims and what is remembered of who drove a pin (R28). -/
theorem Dev.releaseClaim_steady (s : Dev) (f i : Nat) : Dev.Steady s (s.releaseClaim f i) := by
  unfold Dev.releaseClaim
  dsimp only
  split <;> constructor <;> rfl

theorem Dev.dropTimer_steady (s : Dev) (c : Nat) : Dev.Steady s (s.dropTimer c) := by
  unfold Dev.dropTimer
  split
  · exact .refl s
  · exact s.releaseClaim_steady _ _

theorem Dev.refuseArm_steady (s : Dev) (n : Fin 8) (e : Entry) (r : Nat) (ev : Option (Nat × Nat)) :
    Dev.Steady s (s.refuseArm n e r ev) := by
  unfold Dev.refuseArm
  dsimp only
  have h1 : Dev.Steady s (s.setEn n { e with st := .refused, reason := r }) := by constructor <;> rfl
  split <;> split
  · exact h1.trans ((Dev.dropTimer_steady _ _).trans (Dev.log_calm _ _ _ _).steady)
  · exact h1.trans (Dev.log_calm _ _ _ _).steady
  · exact h1.trans (Dev.dropTimer_steady _ _)
  · exact h1

theorem Dev.frmRefuse_steady (s : Dev) (r : Nat) : Dev.Steady s (s.frmRefuse r) :=
  Dev.Steady.trans (by constructor <;> rfl) (Dev.post_calm _ _ _).steady

theorem Dev.refuseTimers_steady (s : Dev) (c : Nat) : Dev.Steady s ((List.finRange 8).foldl (fun (s : Dev) n =>
    let e := s.en n
    if e.st = .arming ∧ !e.member ∧ e.source = 2 ∧ e.srcId % 16 = c then s.refuseArm n e 4 none else s) s) := by
  refine Dev.Steady.fold _ _ (fun (s : Dev) (n : Fin 8) => ?_) s
  dsimp only
  split
  · exact s.refuseArm_steady _ _ _ _
  · exact .refl s

/-- Resolving the claims of a moment changes claims, what rested on them, and what their logging changes at most (R25 to R28). -/
theorem Dev.settle_steady (s : Dev) : Dev.Steady s s.settle := by
  unfold Dev.settle
  dsimp only
  split
  · exact .refl s
  · refine s.resolve_steady.trans (Dev.Steady.fold _ _ (fun (s : Dev) (c : Claim) => ?_) _)
    split
    · exact .refl s
    · split <;> split
      · exact (s.refuseTimers_steady _).trans (Dev.frmRefuse_steady _ _)
      · exact s.refuseTimers_steady _
      · exact s.frmRefuse_steady _
      · exact .refl s

/-- What follows the effect of a write leaves alone what resolving claims leaves alone. -/
theorem Dev.written_steady (s : Dev) (p : Owner) (a : Nat) : Dev.Steady s (s.written p a) :=
  s.settle_steady.trans (Dev.abortStagers_calm _ _ _).steady

/-! ### Registers that posting and logging leave -/

/-- Is the word none of those that posting or logging an event can write? -/
def apart (code a : Nat) : Prop :=
  a ≠ R.EVT_COUNTc code ∧ a ≠ R.MGT_ALERT ∧ a ≠ R.EVT_HST_ALERT ∧ a ≠ R.LNK_VC3_DROPPED ∧ ∀ n : Fin 8, a ≠ R.SEQ_THn_EVLOST n

theorem Dev.postTo_rd (s : Dev) (n : Fin 8) (e : Nat) (st : Stamp) (a : Nat) (h : a ≠ R.SEQ_THn_EVLOST n) :
    (s.postTo n e st).rd a = s.rd a := by
  unfold Dev.postTo
  split
  · dsimp only
    split
    · split
      · rfl
      · exact (Dev.rd_wr _ _ _ _).trans (if_neg h)
    · split
      · split <;> rfl
      · rfl
  · rfl

/-- Posting an event writes no register but the lost counts (R284). -/
theorem Dev.post_rd (s : Dev) (e : Nat) (st : Stamp) (a : Nat) (h : ∀ n : Fin 8, a ≠ R.SEQ_THn_EVLOST n) :
    (s.post e st).rd a = s.rd a := by
  have all : ∀ (l : List (Fin 8)) (s : Dev), (l.foldl (fun s n => s.postTo n e st) s).rd a = s.rd a := by
    intro l
    induction l with
    | nil => exact fun _ => rfl
    | cons n r ih => exact fun s => (ih _).trans (s.postTo_rd n e st a (h n))
  exact all _ _

theorem Dev.wf_rd (s : Dev) (b hi lo v a : Nat) (h : a ≠ b) : (s.wf b hi lo v).rd a = s.rd a :=
  (Dev.rd_wr _ _ _ _).trans (if_neg h)

theorem Dev.takeEntry_rd (s : Dev) (e : LogEntry) (a c : Nat) (h : apart c a) : (s.takeEntry e).rd a = s.rd a := by
  have vc : ∀ (s : Dev) (p : LinkPacket), (s.toVc3 p).rd a = s.rd a := by
    intro s p
    unfold Dev.toVc3
    split
    · split
      · rfl
      · exact (Dev.rd_wr _ _ _ _).trans (if_neg h.2.2.2.1)
    · rfl
  unfold Dev.takeEntry
  split
  · split
    · split
      · rfl
      · split
        · exact (vc _ _).trans (Dev.post_rd _ _ _ _ h.2.2.2.2)
        · rfl
    · exact (vc _ _).trans (Dev.post_rd _ _ _ _ h.2.2.2.2)
  · rfl

/-- Handling an event writes no register but its count, the alerts and the lost counts (R523, R524). -/
theorem Dev.happen_rd (s : Dev) (e : LogEntry) (a : Nat) (h : apart e.code a) : (s.happen e).rd a = s.rd a := by
  refine (Dev.takeEntry_rd _ _ _ e.code h).trans ?_
  have b : (s.bump (R.EVT_COUNTc e.code)).rd a = s.rd a := (Dev.rd_wr _ _ _ _).trans (if_neg h.1)
  refine Eq.trans ?_ b
  unfold Dev.routeEvent Dev.alertClass Dev.wb
  dsimp only
  split <;> split
  · exact (Dev.wf_rd _ _ _ _ _ _ h.2.2.1).trans (Dev.wf_rd _ _ _ _ _ _ h.2.1)
  · exact Dev.wf_rd _ _ _ _ _ _ h.2.2.1
  · exact Dev.wf_rd _ _ _ _ _ _ h.2.1
  · rfl

/-- Logging an event writes no register but its count, the alerts and the lost counts (R523, R524). -/
theorem Dev.log_rd (s : Dev) (c x y a : Nat) (h : apart c a) : (s.log c x y).rd a = s.rd a := by
  unfold Dev.log Dev.logAt
  dsimp only
  split
  · exact s.happen_rd _ a h
  · rfl

/-- Within a decision logging an event writes no register at all (R523). -/
theorem Dev.log_held_rd (s : Dev) (l : List LogEntry) (c x y a : Nat) (h : s.evt.held = some l) : (s.log c x y).rd a = s.rd a := by
  unfold Dev.log Dev.logAt
  simp only [h]
  rfl

/-! ### Time -/

theorem Dev.to_tick (d : Dev) (t : Nat) : (d.to t).tick = max d.tick t := by
  unfold Dev.to
  split
  · show t = _
    omega
  · omega

@[simp] theorem Dev.to_ctl (d : Dev) (t : Nat) : (d.to t).ctl = d.ctl := by unfold Dev.to; split <;> rfl
@[simp] theorem Dev.to_rd (d : Dev) (t a : Nat) : (d.to t).rd a = d.rd a := by unfold Dev.to; split <;> rfl
@[simp] theorem Dev.to_th (d : Dev) (t : Nat) (n : Fin 8) : (d.to t).th n = d.th n := by unfold Dev.to; split <;> rfl
@[simp] theorem Dev.to_en (d : Dev) (t : Nat) (n : Fin 8) : (d.to t).en n = d.en n := by unfold Dev.to; split <;> rfl
@[simp] theorem Dev.to_seq (d : Dev) (t : Nat) : (d.to t).seq = d.seq := by unfold Dev.to; split <;> rfl
@[simp] theorem Dev.to_dark (d : Dev) (t : Nat) : (d.to t).dark = d.dark := by unfold Dev.to; split <;> rfl

/-! ### Threads -/

@[simp] theorem Dev.setTh_setTh (d : Dev) (n : Fin 8) (a b : Thread) : (d.setTh n a).setTh n b = d.setTh n b := by
  simp [Dev.setTh]

@[simp] theorem Dev.setTh_th (d : Dev) (n : Fin 8) : d.setTh n (d.th n) = d := by
  simp [Dev.setTh, Dev.th]

/-! ### What happens while the device is dark -/

/-- A happening of an engine while the device runs. -/
theorem State.onRun_light (s : State) (f : Dev → Dev) (h : s.dev.dark = false) : s.onRun f = s.goes (f s.dev.hold) := by
  have e : s.dev.hold.dark ≠ true := by simp [h]
  rw [State.onRun, State.onDev_goes, if_neg e]

/-- In RESET, MAINTENANCE and SHUTDOWN nothing happens. -/
theorem State.onRun_dark (s : State) (f : Dev → Dev) (h : s.dev.dark = true) : s.onRun f = s.stays := by
  rw [State.onRun, State.onDev_goes, if_pos (show s.dev.hold.dark = true from h)]
  rfl

/-- A decision of a quiet block that logs nothing ends with nothing of its own (R523). -/
theorem State.goes_silent (s : State) (d : Dev) (h : d.Quiet) (hd : d.evt.held = some []) :
    s.goes d = .next (s.withDev { d with evt := { d.evt with held := s.dev.evt.held } }) := by
  rw [State.goes, d.decided_quiet _ h, Dev.endDecision, hd]
  rfl

end Sys2Proof.Machine
end

