-- ==== Sys2Proof/Laws/Taquin.lean ====
section
/-! SUPPORT. How a Taquin instruction is issued and retires, said once: what the thread's context becomes, and what the block becomes. -/

namespace Sys2Proof.Machine

/-- The slot a thread issues in does not lie in the past (R278). -/
theorem Dev.fetch_tick (d : Dev) (n : Fin 8) (t : Nat) (w : Option Word) (h : d.fetch n = some (t, w)) : d.tick ≤ t := by
  unfold Dev.fetch at h
  cases hi : d.issueAt n with
  | none => simp [hi] at h
  | some x =>
    simp [hi] at h
    obtain ⟨rfl, _⟩ := h
    unfold Dev.issueAt at hi
    simp only [] at hi
    split at hi
    · cases hi
    · have := List.mem_of_mem_head? (by rw [hi]; rfl : x ∈ _)
      simp at this
      exact this.2.1.1

/-- With no control field waiting, the thread is as it is (R272). -/
theorem Dev.catchUp_nil (d : Dev) (n : Fin 8) (h : (d.th n).ctl = []) : d.catchUp n = d := by
  unfold Dev.catchUp
  simp [h]

/-- A row of an instruction that its thread issues is that instruction's retirement (R301), once its word decodes to it. -/
theorem Dev.taquin_issues (d : Dev) (f : Fuses) (n : Fin 8) (t : Nat) (i : Tq) (h : Issues d n t i) (hdec : tqDecode (tqEncode i) = some i)
    (c : Instr) (hc : i.row n = c) : d.taquin f n c = (d.to t).retire f n i := by
  obtain ⟨-, -, hc', hf⟩ := h
  simp only [Dev.taquin, Dev.catchUp_nil _ _ hc', hf, hdec, hc, if_true]

/-- The same as a command. -/
theorem State.taquin_issues (s : State) (n : Fin 8) (t : Nat) (i : Tq) (h : Issues s.dev.hold n t i) (hdec : tqDecode (tqEncode i) = some i)
    (c : Instr) (hc : i.row n = c) : s.taquin n c = s.goes ((s.dev.hold.to t).retire s.fuses n i) := by
  have e := State.onRun_light s (fun d => d.taquin s.fuses n c) h.1
  rw [State.taquin, e, Dev.taquin_issues _ _ _ _ _ h hdec _ hc]

/-- The word after, inside instruction memory (R303). -/
theorem Thread.advance_inside (h : Thread) (m : Nat) (hm : h.pc + m < 16384) :
    h.advance m = { h with pc := h.pc + m, pastEnd := false } := by
  simp [Thread.advance, hm]

/-- A thread that has not run past instruction memory does not fault after its instruction (R303). -/
theorem Dev.runsOff_inside (d : Dev) (n : Fin 8) (i : Tq) (h : (d.th n).pastEnd = false) : d.runsOff n i = d := by
  unfold Dev.runsOff
  split <;> simp [h]

/-- An instruction that faults nothing, acts on nothing but its thread and does not wait: the block is the same with the thread's new context,
and the instruction counted (R301, R305). -/
theorem Dev.retire_own (d : Dev) (f : Fuses) (n : Fin 8) (t : Nat) (i : Tq) (ht : d.tick ≤ t) (H : Thread)
    (hfault : (d.to t).faultOf n (d.th n) i = none)
    (heff : ∀ (s : Dev) (h : Thread), s.effect f n h i = s)
    (hnw : ∀ a b c e, i ≠ .wait a b c e) (hnm : ∀ a b c, i ≠ .waitM a b c)
    (hH : (d.th n).compute (d.rd (R.SEQ_IMEM ((d.th n).pc + 1))) i
      (Thread.goOn { d.th n with lastPc := (d.th n).pc, after := some t, lost := none } i) =
        { H with lastPc := (d.th n).pc, after := some t, lost := none })
    (hp : H.pastEnd = false) : (d.to t).retire f n i = d.issued n t H := by
  have e : (d.to t).retire f n i =
      ((((d.to t).setTh n { d.th n with lastPc := (d.th n).pc, after := some t, lost := none }).setTh n
        ((d.th n).compute (d.rd (R.SEQ_IMEM ((d.th n).pc + 1))) i
          (Thread.goOn { d.th n with lastPc := (d.th n).pc, after := some t, lost := none } i))).effect f n (d.th n) i
            |>.bump (R.SEQ_THn_ISSUED n)).runsOff n i := by
    have tick : (d.to t).tick = t := by rw [Dev.to_tick]; omega
    unfold Dev.retire
    simp only [Dev.to_th, hfault, tick, Dev.th_setTh, Dev.imem, Dev.to_rd]
    try rfl
  rw [e, heff, hH, Dev.setTh_setTh, Dev.runsOff_inside]
  · rfl
  · show (((d.to t).setTh n _).th n).pastEnd = false
    rw [Dev.th_setTh]
    exact hp

end Sys2Proof.Machine
end

