-- ==== Sys2Proof/Tests/Slice0.lean ====
section
/-! SUPPORT. Tests: ill-formed commands are refused, worked examples of the spec, and for every statement with hypotheses a state and operands that
meet them. -/

namespace Sys2Proof.Tests

open Sys2Proof.Machine

-- One theorem after another: a thread for each would need more memory than the check allows.
set_option Elab.async false

/-! ### Small states -/

/-- The block that has booted, changed. -/
def up (f : Dev → Dev) : State := { State.reset with dev := f { State.reset.dev with boot := { State.reset.dev.boot with step := none } } }

/-- The block after a command (as before where the command gives no next state). -/
def after (c : Instr) (s : State) : Dev :=
  match exec c s with
  | .next t => t.dev
  | _ => s.dev

/-- The block in RUN. -/
def run (f : Dev → Dev) : State := up fun d => f (d.wr R.PWR_STATE 0x400000001)

/-- The words `ws` in instruction memory from `pc` on. -/
def load (pc : Nat) (ws : List Word) (d : Dev) : Dev :=
  ws.zipIdx.foldl (fun (d : Dev) x => d.wr (R.SEQ_IMEM (pc + x.2)) x.1) d

/-- Thread 0 with the context `h` runs at `pc`, where `ws` stands; the line period begins at tick 0. -/
def runs (h : Thread) (pc : Nat) (ws : List Word) (f : Dev → Dev := id) : State := run fun d =>
  load pc ws (({ f d with seq := { (f d).seq with lpStart := some 0, lpNext := some 4000 } }).setTh 0 { h with st := .running, pc := pc })

/-- The first word of `i` is what thread 0 fetches at tick 0 of the state, and all of `i` lies inside instruction memory. -/
abbrev Runs (s : State) (i : Tq) : Prop := Issues s.dev 0 0 i ∧ Inside (s.dev.th 0) i

/-! ### Well-formed commands -/

theorem test_wf_boot_sends_no_write :
    (Instr.controlSpaceWrite .boot 0 0).wf = false ∧ (Instr.controlSpaceWrite .host 0 0).wf = true := by decide

theorem test_wf_row_width : (RowInput.mk [] [] [] []).wf = false ∧
    (RowInput.mk (List.replicate 14336 0) (List.replicate 48 0) (List.replicate 48 0) []).wf = true := by decide +kernel

theorem test_wf_message_length : (Instr.messageReceived 0 0 0 [] false true).wf = false ∧ (Instr.messageReceived 0 0 0 [1] false true).wf = true ∧
    (Instr.messageReceived 0 0 0 (List.replicate 17 1) false true).wf = false := by decide

theorem test_wf_host_frames : (Instr.cread ⟨3, false, 0, [0, 0, 0, 0], []⟩ true).wf = false ∧
    (Instr.cread ⟨2, false, 1, [0, 0, 0, 0], []⟩ true).wf = false ∧ (Instr.cread ⟨2, false, 0, [0, 0, 0, 0, 0], []⟩ true).wf = false ∧
    (Instr.cwrite ⟨2, false, 0, [0], [1]⟩ 0).wf = false ∧ (Instr.cread ⟨2, false, 0, [0, 0, 0, 0], []⟩ true).wf = true ∧
    (Instr.cwrite ⟨2, true, 1, [0, 0, 0, 0], [1]⟩ 1).wf = true ∧ (Instr.portReset ⟨0, false, 0, [0], []⟩).wf = false ∧
    (Instr.portReset ⟨0, false, 0, [], []⟩).wf = true ∧ (Instr.lockCommand ⟨0, false, 0, [1], [2]⟩).wf = false := by decide

theorem test_wf_host_bad_command : (Instr.hostBadCommand 1).wf = false ∧ (Instr.hostBadCommand 0).wf = true ∧
    (Instr.hostBadCommand 0xC1).wf = true := by decide

theorem test_wf_management_addresses : (Instr.mgtWriteTransfer (.start 0x0C) [] .stop).wf = false ∧ (Instr.mgtReadTransfer (.start 0x0C) 0 .stop).wf = false ∧
    (Instr.mgtReadTransfer (.start 0x2A) 0 (.pause (.bit 3))).wf = true := by decide

theorem test_wf_calibration_item : (Instr.calItemComplete 0 (.colofs)).wf = false ∧ (Instr.calItemComplete 4 (.colofs)).wf = true := by decide

theorem test_wf_relay_words : (Instr.relayResponseReceived 0 0 0 0 0 1 [5] true).wf = false := by decide

/-! ### The machine -/

theorem test_wit_StepRunsFrontCommand : ∃ (s : State) (c : Instr) (rest : List Instr), s.pending = c :: rest ∧ rest ≠ [] :=
  ⟨{ (up id) with pending := [.brownOutReset true, .trainFrameOrigin] }, _, _, rfl, by decide⟩

/-- Nothing waits, and a control write is in progress or none (R405). -/
theorem test_wit_StepPassesOneTick : (up id).pending = [] ∧ (up id).dev.hst.writes = [] ∧
    (run fun d => { d with hst := { writes := [(0x14000, 1)] } }).pending = [] ∧
    (run fun d => { d with hst := { writes := [(0x14000, 1)] } }).dev.hst.writes = (0x14000, 1) :: [] := ⟨rfl, rfl, rfl, rfl⟩

theorem test_wit_FusesNeverGoBack :
    let s : State := { State.reset with pending := [.bootStepComplete 1] }
    s.dev.boot.step = some 0 ∧ (∃ t, step s = .next t) := ⟨rfl, _, rfl⟩

theorem test_wit_DarkDeviceRunsNoEngine : (up fun d => d.wr R.PWR_STATE 0x600000000).dev.dark = true ∧
    (up fun d => d.wr R.PWR_STATE 0x800000000).dev.dark = true ∧ (∀ n, ((up id).dev.th n).ctl = []) ∧ (up id).dev.mgt.groups = [] ∧ (Instr.pourStart).engine = true := by decide

/-! ### The control space -/

theorem test_wit_DirectWriteStoresFields : Now (up id).dev .host ∧ Now (up id).dev .mgt ∧
    ∀ a ∈ [0x14000, 0x18FFF, 0x10102, 0x101EA, 0x1C041, 0x1C0B4, 0x1C101, 0x1C108, 0xD010, 0xD02F, 0xE040, 0xE07F, 0x20400, 0x204CF],
      plainWord a = true ∧ (regAt a).isSome = true := by decide +kernel

theorem test_plain_write : (after (.controlSpaceWrite .host 0x18000 0xFFFFFFFFF) (up id)).rd 0x18000 = 0xFFFFFFFFF ∧
    (after (.controlSpaceWrite .relay 0x1C042 0xFFFFFFFFF) (up id)).rd 0x1C042 = 0xFFFFFFF := by decide +kernel

/-- A transaction of the host port that is OPEN, with `n` words staged. -/
def opened (n : Nat) : State := up fun d =>
  d.setTx .host { d.tx .host with st := .opened, staged := (List.range n).map (fun k => (R.SEQ_IMEM k, (5 : Word))) }

theorem test_wit_OpenTransactionStagesWrites : ((opened 256).dev.tx .host).st = .opened ∧ neverStaged (R.SEQ_IMEM 255) = false ∧
    (regAt (R.SEQ_IMEM 255)).isSome = true ∧ R.SEQ_IMEM 255 ≠ R.ID_PROFILE_APPLY ∧ (((opened 256).dev.tx .host).staged.map (·.1)).Nodup ∧
    ((opened 256).dev.tx .host).staged.length = 256 ∧ neverStaged (R.SEQ_IMEM 256) = false ∧ (regAt (R.SEQ_IMEM 256)).isSome = true := by
  decide +kernel

theorem test_stage_word_257 : (after (.controlSpaceWrite .host 0x14100 5) (opened 256)).tx .host = { st := .aborted, cause := 2 } ∧
    ((after (.controlSpaceWrite .host 0x140FF 6) (opened 256)).tx .host).staged.getLast? = some (0x140FF, 6) := by decide +kernel

/-- The reset state with `l` in the log. -/
def logged (l : List LogEntry) : State := up fun d => { d with evt := { d.evt with entries := l } }

theorem test_wit_EventsAreLogged : regAt 0xFFFFFF = none ∧ Now (up id).dev .host ∧
    bit ((up id).dev.rd (R.EVT_ROUTEc 207)) 0 = true ∧ bit ((up fun d => d.wr (R.EVT_ROUTEc 0) 0).dev.rd (R.EVT_ROUTEc 0)) 0 = false ∧
    (logged [⟨207, 1, 0, 0, 0⟩]).dev.evt.entries = [] ++ [⟨207, 65537 % 2 ^ 16, 0, 0, 0⟩] ∧
    (logged (List.replicate 63 ⟨3, 0, 0, 0, 0⟩)).dev.evt.entries.length = 63 ∧
    (∀ x, (logged (List.replicate 64 ⟨3, 0, 0, 0, 0⟩)).dev.evt.entries.getLast? = some x → ¬ (x.code = 4 ∧ x.source = 0)) ∧
    (logged (List.replicate 64 ⟨3, 0, 0, 0, 0⟩)).dev.evt.entries.length = 64 := by
  refine ⟨by decide +kernel, by decide +kernel, by decide +kernel, by decide +kernel, rfl, by decide, ?_, by decide⟩
  intro x hx
  have : x = ⟨3, 0, 0, 0, 0⟩ := by simpa [logged, up] using hx.symm
  simp [this]

/-- The events of the decision in hand are held back, and nothing waits for its end. -/
theorem test_wit_EventsAreLogged_held : ∀ l ∈ [[], [(⟨207, 1, 0, 0, 0⟩ : LogEntry), ⟨3, 0, 0, 0, 0⟩]],
    let d := (up fun d => { d with evt := { d.evt with held := some l } }).dev
    d.evt.held = some l ∧ (∀ n, (d.th n).ctl = []) ∧ (∀ g ∈ d.mgt.groups, g.fresh = false) ∧ ∀ x ∈ l, x.code < 208 := by decide +kernel

theorem test_wit_BadAddresses : regAt (0xFFFFFF : BitVec 24).toNat = none ∧ (up id).dev.boot.step ≠ some 0 := by decide +kernel

/-- The timebase, whose upper part a read of its lower part latches. -/
theorem test_wit_TaquinControlSpaceAccess_latches :
    let d := (run fun d => { d with tb := 0x123456789ABCDEF01 }).dev
    ((regAt 0x7001).isSome = true ∧ latchedPart 0x7001 = true) ∧
    ((0x7001, hiWord d.tb) ∈ d.upperParts .host 0x7000 ∧ (regAt 0x7000).isSome = true ∧ foreign .host 0x7000 = false ∧ d.rdo.pour = none ∧ 0x7000 % 8 ≠ 5) ∧
    Owner.host ≠ .mgt ∧ d.latches = [] := by decide +kernel

theorem test_wit_ClaimsAndProfile :
    let a := up fun d => { d with asks := [⟨6, 0, [0x010]⟩, ⟨7, 1, [0x010]⟩] }
    let b := up fun d => { d with claims := [⟨7, 1, [0x010]⟩], asks := [⟨6, 0, [0x010]⟩] }
    let c := up fun d => { d with claims := [⟨6, 0, [0x010]⟩], asks := [⟨7, 1, [0x010]⟩] }
    let h : Handover := ⟨0x010, 6, 0, 7, 1, some 1⟩
    let e := up fun d => { d with handovers := [h] }
    (a.dev.claims = [] ∧ a.dev.asks = [⟨6, 0, [0x010]⟩, ⟨7, 1, [0x010]⟩]) ∧ (b.dev.claims = [⟨7, 1, [0x010]⟩] ∧ b.dev.asks = [⟨6, 0, [0x010]⟩]) ∧
    (c.dev.claims = [⟨6, 0, [0x010]⟩] ∧ c.dev.asks = [⟨7, 1, [0x010]⟩]) ∧ 6 < 7 ∧ (up id).dev.handovers = [] ∧
    (e.dev.dark = false ∧ e.dev.handovers = [h] ∧ h.res = (0x010 : BitVec 12).toNat ∧ h.due = some 1) ∧
    (((opened 0).dev.tx .host).st = .opened ∧ ((opened 0).dev.tx .host).staged = []) ∧
    (up id).dev.boot.step ≠ some 0 ∧ ((up id).dev.setTx .host { st := .pending }).tx .host = { st := .pending } ∧
    (((up id).dev.tx .host).st ≠ .opened ∧ ((up id).dev.tx .host).st ≠ .pending) ∧ isPin h.res = true ∧ isPin 11 = true ∧ isPin 19 = true ∧
    ((up id).dev.claims = [] ∧ (up id).dev.pinLow = []) := by decide +kernel

/-- Two features ask for one pin at one moment: the lower number gets it (R25). -/
theorem test_lower_feature_wins :
    (up fun d => { d with asks := [⟨7, 1, [0x010]⟩, ⟨6, 0, [0x010]⟩] }).dev.settle.claims = [⟨6, 0, [0x010]⟩] := by decide +kernel

/-! ### Transactions, threads and locks -/

/-- The reset state where the host port's transaction is `t`. -/
def withTx (t : Tx) : State := up fun d => d.setTx .host t

theorem test_wit_TransactionCommandsOfPaths : Owner.host.isPath = true ∧ (up id).dev.boot.step ≠ some 0 ∧ ((withTx { st := .applied }).ready.tx .host).st ≠ .opened ∧
    ((withTx { st := .applied }).ready.tx .host).st ≠ .pending ∧ ((withTx { st := .pending }).ready.tx .host).st = .pending ∧
    ((withTx { st := .opened }).ready.tx .host).st = .opened ∧ ((withTx { st := .aborted }).ready.tx .host).st ≠ .opened := by decide +kernel

theorem test_second_begin_is_misuse :
    (after (.txCmdBegin .host 0x400000000) (opened 1)).evt.entries.map (·.code) = [Ev.TX_MISUSE] := by decide +kernel

theorem test_wit_ImmediateCommitAppliesAll :
    let s := withTx { st := .pending, boundary := 0, staged := [(0x14000, 5), (0x1C041, 7)], order := 3 }
    Owner.host.isPath = true ∧ s.dev.dark = false ∧ (s.dev.tx .host).st = .pending ∧ (s.dev.tx .host).boundary = 0 ∧
    (∀ x ∈ (s.dev.tx .host).staged, plainWord x.1 = true ∧ (regAt x.1).isSome = true) ∧ ((s.dev.tx .host).staged.map (·.1)).Nodup ∧
    (∀ o, o ≠ Owner.host → (s.dev.tx o).live = false) ∧
    (∀ o, (s.dev.tx o).st = .applied → (s.dev.tx o).order ≤ (s.dev.tx .host).order) := by
  refine ⟨rfl, by decide +kernel, rfl, rfl, by decide +kernel, by decide, ?_, ?_⟩
  · intro o ho
    cases o with
    | thread n => revert n; decide
    | host => exact absurd rfl ho
    | _ => decide
  · intro o ho
    cases o with
    | thread n => revert n; decide
    | _ => revert ho; decide

/-- The reset state where thread 7 is in a state. -/
def withTh (st : ThreadState) (w : Option WaitCtx) : State := up fun d => d.setTh 7 { d.th 7 with st := st, wait := w }

theorem test_wit_ThreadControl : Owner.mgt.isPath = true ∧ (withTh .halted none).dev.boot.step ≠ some 0 ∧ ((withTh .running none).ready.th 7).ctl = [] ∧
    ((withTh .running none).ready.th 7).lost = none ∧ (up fun d => d.setTh 7 { d.th 7 with lost := some 5, ctl := [.stop] }).ready.tick < 5 ∧
    ((up fun d => d.setTh 7 { d.th 7 with lost := some 5, ctl := [.stop] }).ready.th 7).lost = some 5 ∧ ((withTh .halted none).ready.th 7).st = .halted ∧
    ((withTh .halted none).ready.th 7).pastEnd = false ∧ ((withTh .running none).ready.th 7).st = .running ∧
    ((withTh .waiting (some ⟨1, none, 0⟩)).ready.th 7).st = .waiting ∧ ((withTh .faulted none).ready.th 7).st = .faulted := by decide +kernel

theorem test_reset_thread_enters_at_entry_point :
    let d := after (.threadReset .mgt 7 0x200000000) (up fun d => (d.wr (R.SEQ_THn_ENTRY 7) 0x3FFF).setTh 7 { st := .faulted, fz := true })
    (d.th 7).pc = 0x3FFF ∧ (d.th 7).st = .halted ∧ (d.th 7).fz = false := by decide +kernel

/-- Thread 2 with event `e` enabled and a context. -/
def masked (e : Nat) (t : Thread) : Dev :=
  (((up id).dev.wr (R.SEQ_THn_EVMASK_LO 2) (BitVec.ofNat 36 (2 ^ e % 2 ^ 36))).wr (R.SEQ_THn_EVMASK_HI 2) (BitVec.ofNat 36 (2 ^ e / 2 ^ 36))).setTh 2 t

theorem test_wit_EventPosting :
    (0 < 64 ∧ ((masked 0 { pend := [(0, 3)] }).rd (R.SEQ_THn_EVMASK_LO 2)).getLsbD 0 = true ∧ ∃ x ∈ ((masked 0 { pend := [(0, 3)] }).th 2).pend, x.1 = 0) ∧
    (((masked 35 { pend := [(35, 3)] }).rd (R.SEQ_THn_EVMASK_LO 2)).getLsbD 35 = true ∧ ∃ x ∈ ((masked 35 { pend := [(35, 3)] }).th 2).pend, x.1 = 35) ∧
    (((masked 36 {}).rd (R.SEQ_THn_EVMASK_HI 2)).getLsbD (36 - 36) = true ∧ (∀ x ∈ ((masked 36 {}).th 2).pend, x.1 ≠ 36) ∧ ((masked 36 {}).th 2).st ≠ .waiting) ∧
    (let d := masked 63 { st := .waiting, wait := some ⟨2 ^ 63, none, 4⟩, pend := [(1, 0)] }
     (d.rd (R.SEQ_THn_EVMASK_HI 2)).getLsbD (63 - 36) = true ∧ (d.th 2).st = .waiting ∧ (d.th 2).wait = some ⟨2 ^ 63, none, 4⟩ ∧
      (d.th 2).cutPend d.tick = d.th 2 ∧ (d.th 2).leftWait d.tick = false ∧ (2 ^ 63 : BitVec 64).getLsbD 63 = true ∧ (∀ x ∈ (d.th 2).pend, (2 ^ 63 : BitVec 64).getLsbD x.1 = false) ∧ (d.th 2).pc + 1 < 16384) ∧
    ((up id).dev.rd (R.SEQ_THn_EVMASK_LO 2)).getLsbD 5 = false := by decide +kernel

/-- The reset state where the management bus holds the highest lock. -/
def lockHeld : State := up fun d => d.setLock 31 (some .mgt)

theorem test_wit_LocksAndSoftwareEvents :
    (Owner.mgt.isPath = true ∧ Owner.relay.isPath = true ∧ (up id).ready.lock 0 = none ∧ lockHeld.ready.lock 31 = some .mgt ∧
      lockHeld.ready.lock 31 ≠ some .relay ∧ lockHeld.dev.boot.step ≠ some 0 ∧ lockHeld.ready.threadsDue.lock 31 = some .mgt) ∧ Now (up id).dev .mgt ∧ Now (up id).dev .relay ∧
    (bit (0x0010B : Word) 12 = false ∧ bit (0x0100B : Word) 12 = true ∧ (0x0100B : Word).toNat % 2 ^ 12 < 0x00C) ∧
    (bit (0x01013 : Word) 12 = true ∧ 0x010 ≤ (0x01013 : Word).toNat % 2 ^ 12 ∧ (0x01013 : Word).toNat % 2 ^ 12 < 0x014) ∧
    (bit (0x0100C : Word) 12 = true ∧
      ¬((0x0100C : Word).toNat % 2 ^ 12 < 0x00C ∨ (0x010 ≤ (0x0100C : Word).toNat % 2 ^ 12 ∧ (0x0100C : Word).toNat % 2 ^ 12 < 0x014))) ∧
    (let s := up fun d => { d with seq := { d.seq with pulseEnd := d.seq.pulseEnd.set 3 (some 100) } }
     s.dev.dark = false ∧ s.dev.seq.pulseEnd[(3 : Fin 4)] = some 100 ∧ s.dev.tick ≤ 100) := by decide +kernel

theorem test_wit_LinePeriodAndSlots :
    let s := run fun d => { d with seq := { d.seq with lpNext := some 4000, slotPending := true } }
    let u := run fun d => d.setTh 3 { st := .waiting, wait := some ⟨1, some 900, 15⟩, pc := 16382 }
    let r := runs { after := some 0 } 0 [0]
    (s.dev.dark = false ∧ s.dev.seq.lpNext = some 4000 ∧ s.dev.tick ≤ 4000 ∧ ∀ m, (s.dev.th m).lost = none) ∧
    (u.dev.dark = false ∧ (u.dev.th 3).st = .waiting ∧ (u.dev.th 3).wait = some ⟨1, some 900, 15⟩ ∧ u.dev.tick ≤ 900 ∧ (u.dev.th 3).leftWait 900 = false ∧
      (∀ x ∈ (u.dev.th 3).pend, (1 : BitVec 64).getLsbD x.1 = false) ∧ (u.dev.th 3).pc + 1 < 16384) ∧
    (runs { after := some 125, lost := some 200 } 0 [0] fun d => d.wr (R.SEQ_SLOT_ACTIVEj 0) 0).dev.lostSlot 0 = some 250 ∧
    (r.dev.dark = false ∧ r.dev.runEnd 0 = some 125 ∧ r.dev.tick ≤ 125) := by decide +kernel

/-! ### Taquin instructions -/

/-- The program of the worked example (ch. "Taquin Instruction Set"): every word decodes to the source line beside it. -/
theorem test_decode_worked_example :
    [0x1C4000000, 0x1C8000000, 0x20C000000, 0x1D7FFFFFF, 0x510000023, 0x30510011A, 0x9E0000000, 0x30A00010B, 0x512C00015, 0x280000107,
      0x418018001, 0x41C018000, 0xA00000000, 0x2C5840105, 0x900000000, 0x45C01C043, 0x940000000, 0x512A00035, 0x3050AC117, 0x105800000,
      0x088800001, 0x600000000, 0x8E41D4000].map tqDecode =
    [some (.liShort 1 0), some (.liShort 2 0), some (.liLong 3), some (.liShort 5 0x3FFFFFF), some (.wait 4 0 2 3), some (.bccImm 1 4 64 0x11A),
      some (.lock 8 0), some (.bccImm 2 8 0 0x10B), some (.wait 4 44 1 5), some (.bCc 0 0x107), some (.ldAbs 6 0x18001), some (.ldAbs 7 0x18000),
      some (.unlock 0), some (.bccReg 1 6 1 0x105), some .txBegin, some (.stAbs 7 0x1C043), some (.txCommit 0), some (.wait 4 42 3 5),
      some (.bccImm 1 4 43 0x117), some (.logic .or 1 6 0), some (.addi 2 2 1), some (.signal 0), some (.fabSched 9 7 (some 10))] := by
  decide +kernel

/-- Words written out field by field from the encoding tables (R306 to R333). -/
theorem test_decode_fields :
    tqDecode 0b000001_1111_0001_0010_001011_000000000000 = some (.alu .mul 15 1 2) ∧
    tqDecode 0b000110_0001_0010_01_00000000000000_100011 = some (.shift .shr 1 2 35) ∧
    tqDecode 0b001001_0000_0101_0000000000000000000111 = some (.cmpi 5 7) ∧
    tqDecode 0b001011_0011_0001_0010_0000_11111111111111 = some (.bccReg 3 1 2 16383) ∧
    tqDecode 0b001101_0111_0000_00000000_00000000000101 = some (.loop 7 5) ∧
    tqDecode 0b001110_0110_0000_00000000_00000000000111 = some (.jal 6 7) ∧
    tqDecode 0b001111_0000_0110_00000000_00000000000000 = some (.jr 6) ∧
    tqDecode 0b010010_0100_0101_1111111111111111111111 = some (.ldIdx 4 5 0x3FFFFF) ∧
    tqDecode 0b010101_0001_1110_0010_000000000000000000 = some (.waitM 1 14 2) ∧
    tqDecode 0b010110_0001_0010_0000000000000000000000 = some (.stamp 1 2) ∧
    tqDecode 0b010111_0001_0010_0000000000000000000000 = some (.time 1 2) ∧
    tqDecode 0b011001_111_1111_0001_11_10_0001_1_0_11111111_0 = some (.arm 7 15 1 3 2 1 1 0 255) ∧
    tqDecode 0b011010_111_000000000000000000000000000 = some (.disarm 7) := by decide +kernel

theorem test_decode_more_fields :
    tqDecode 0b011011_0000000000000000000000_10000001 = some (.fire 0x81) ∧
    tqDecode 0b011100_11_0_0_0000_000000_1000000000000001 = some (.pour 3 0x8001) ∧
    tqDecode 0b011100_10_1_0_0101_000000_0000000000000000 = some (.pourR 2 5) ∧
    tqDecode 0b011101_1111_0001_0010_000000000000000000 = some (.win 15 1 2) ∧
    tqDecode 0b011110_0100_00000000000000_000_010_111_011 = some (.zrect 4 0 2 7 3) ∧
    tqDecode 0b011111_0001_111111_00000000000000000000 = some (.zgain 1 63) ∧
    tqDecode 0b100000_1111_010_0001_0000000000000000000 = some (.tmr 15 2 1) ∧
    tqDecode 0b100001_00000000000000_1000000000000001 = some (.tmrGo 0x8001) ∧
    tqDecode 0b100010_0001_0010_0011_11_0000000000000000 = some (.fabSend 1 2 3 3) ∧
    tqDecode 0b100011_0001_00000111_1_0000_0000000000000 = some (.fabSched 1 7 none) ∧
    tqDecode 0b100101_11_0_1110_00000000000000000000000 = some (.txTime (some 14)) ∧
    tqDecode 0b100110_000000000000000000000000000000 = some .txAbort ∧
    tqDecode 0b101010_000000000000000000000000000000 = some .nop := by decide +kernel

theorem test_wit_TaquinDecodeOfEncode : (Tq.alu .cmp 0 15 1).wf = true ∧ (Tq.fabSched 9 255 none).wf = true ∧ (Tq.bCc 14 16383).wf = true ∧
    (Tq.alu .cmp 1 15 1).wf = false ∧ (Tq.bCc 15 0).wf = false := by decide

theorem test_wit_TaquinAddSubtractCompare :
    ∀ i ∈ [Tq.alu .add 1 2 3, .alu .adc 15 15 15, .addi 0 0 0x200000, .alu .sub 1 1 2, .alu .sbc 1 2 2, .alu .cmp 0 1 2, .cmpi 3 0x3FFFFF],
      Runs (runs {} 16382 [tqEncode i]) i := by decide +kernel

theorem test_wit_TaquinLogicShiftMultiply :
    ∀ i ∈ [Tq.alu .and 1 2 3, .alu .or 1 2 3, .alu .xor 1 2 3, .alu .bic 1 2 3, .logic .and 1 2 0x3FFFFF, .logic .or 1 2 3, .logic .xor 1 2 3,
        .alu .shl 1 2 3, .alu .shr 1 2 3, .alu .sar 1 2 3, .shift .shl 1 2 36, .shift .shr 1 2 0, .shift .sar 1 2 36, .alu .mul 1 2 3, .alu .mulhu 1 2 3],
      Runs (runs {} 16382 [tqEncode i]) i := by decide +kernel

theorem test_wit_TaquinConstantsAndMasks : Runs (runs {} 16382 [tqEncode (.liShort 3 0x2000000)]) (.liShort 3 0x2000000) ∧
    Runs (runs {} 16381 [tqEncode (.liLong 3), 0xFFFFFFFFF]) (.liLong 3) ∧ (1 : BitVec 4) ≠ 2 ∧
    Runs (runs {} 16382 [tqEncode (.stamp 1 2)]) (.stamp 1 2) ∧ (14 : BitVec 4) ≠ 15 ∧
    Runs (runs {} 16382 [tqEncode (.zrect 14 7 7 0 0)]) (.zrect 14 7 7 0 0) ∧ Runs (runs {} 0 [tqEncode .nop]) .nop := by decide +kernel

theorem test_wit_TaquinBranches :
    ∀ i ∈ [Tq.bCc 14 0, .bCc 0 16383, .bccReg 4 1 2 5, .bccImm 3 1 255 5, .loop 7 0, .jal 6 16383, .jr 6], Runs (runs {} 16382 [tqEncode i]) i := by
  decide +kernel

theorem test_wit_TaquinControlSpaceAccess :
    (∀ i ∈ [Tq.ldAbs 1 0xFFFFFF, .ldIdx 1 1 0x3FFFFF, .stAbs 1 0x18000, .stIdx 1 2 0x200000, .time 1 2], Runs (runs {} 16382 [tqEncode i]) i) ∧
    (runs {} 16382 [tqEncode (.stAbs 1 0x18000)]).dev.storeFault 0 0x18000 0 = none ∧
    (runs {} 16382 [tqEncode (.stIdx 1 2 0)]).dev.storeFault 0 0 0 = none ∧ (1 : BitVec 4) ≠ 2 ∧
    ((regAt 8197).any (·.rc) = true ∧ foreign .host 8197 = false ∧ latchedPart 8197 = false) ∧
    (let d := (run fun d => { d with latches := [⟨.host, 0x7002, 3, true⟩] }).dev
     d.latches = [⟨.host, 0x7002, 3, true⟩]) := by decide +kernel

/-- The state in which thread 0's transaction is OPEN with `n` words staged, and its next instruction is `i`. -/
def staging (n : Nat) (i : Tq) : State := runs {} 0 [tqEncode i] fun d =>
  d.setTx (.thread 0) { d.tx (.thread 0) with st := .opened, staged := (List.range n).map (fun k => (R.SEQ_IMEM (100 + k), (5 : Word))) }

theorem test_wit_TaquinWriteInstructions :
    (∀ i ∈ [Tq.arm 7 15 1 3 2 1 1 1 255, .arm 0 14 1 0 0 1 0 0 0, .disarm 7, .fire 0xFF, .pour 3 0xFFFF, .pourR 2 15, .win 15 1 2, .zgain 1 63, .tmr 15 4 1,
      .tmrGo 0xFFFF], Runs (runs {} 16382 [tqEncode i]) i) ∧
    ((runs {} 0 [tqEncode (.disarm 7)]).dev.tx (.thread 0)).st ≠ .opened ∧ ((staging 255 (.win 0 1 2)).dev.tx (.thread 0)).st = .opened ∧
    Runs (staging 255 (.win 0 1 2)) (.win 0 1 2) ∧
    256 < newWords ((staging 255 (.win 0 1 2)).dev.tx (.thread 0)).staged
      ([(R.RDO_WINk_POS 0, (0 : Word)), (R.RDO_WINk_SIZE 0, 0)].filter (fun x => (regAt x.1).isSome && !neverStaged x.1 && x.1 != R.ID_PROFILE_APPLY)) := by decide +kernel

/-- Thread 0 with the timeout `n` in q2. -/
def timeout (n : Word) : Thread := { q := (Vector.replicate 16 (0 : Word)).set 2 n, pend := [(0, 1), (63, 2)] }

theorem test_wit_TaquinWaitsAndSignal :
    (∀ k, k < 16 → (0xFFFF : BitVec 16).getLsbD k = true → (48 : BitVec 6).toNat + k < 64) ∧ (14 : BitVec 4) ≠ 15 ∧
    (∀ c ∈ [Tq.wait 1 48 0xFFFF 2, .wait 1 0 2 2, .waitM 1 14 2, .signal 15], Runs (runs (timeout 0) 16382 [tqEncode c]) c ∧
      Runs (runs (timeout 0xFFFFFFFFF) 16382 [tqEncode c]) c) ∧
    (timeout 0).pend = [(0, 1)] ++ (63, 2) :: [] ∧ (∀ x ∈ (timeout 0).pend.take 1, ((0xFFFF : BitVec 64) <<< 48).getLsbD x.1 = false) ∧
    ((0xFFFF : BitVec 64) <<< 48).getLsbD 63 = true ∧ (∀ x ∈ (timeout 0).pend, ((2 : BitVec 64) <<< 0).getLsbD x.1 = false) ∧
    ((timeout 0).rg 2).toNat = 0 ∧ ((timeout 1).rg 2).toNat ≠ 0 := by decide +kernel

/-- The state in which thread 0 holds lock 31, and its next instruction is `i`. -/
def holding (i : Tq) (f : Dev → Dev := id) : State := runs {} 0 [tqEncode i] fun d => (f d).setLock 31 (some (.thread 0))

theorem test_wit_TaquinTransactionsAndLocks :
    (∀ i ∈ [Tq.txBegin, .lock 15 31, .halt], Runs (runs {} 16382 [tqEncode i]) i) ∧
    ((runs {} 16382 [tqEncode .halt]).dev.tx (.thread 0)).live = false ∧ (∀ j, (runs {} 16382 [tqEncode .halt]).dev.lock j ≠ some (.thread 0)) ∧
    ((runs {} 16382 [tqEncode (.lock 15 31)]).dev.past 0 0 {}).threadsDue.lock 31 = none ∧
    ((holding (.lock 15 31)).dev.past 0 0 {}).threadsDue.lock 31 ≠ none ∧ Runs (holding (.lock 15 31)) (.lock 15 31) ∧
    Runs (holding (.unlock 31)) (.unlock 31) ∧ (holding (.unlock 31)).dev.lock 31 = some (.thread 0) ∧
    (∀ i ∈ [Tq.txCommit 0, .txCommit 2, .txTime (some 14), .txTime none, .txAbort], Runs (staging 2 i) i ∧ ((staging 2 i).dev.tx (.thread 0)).st = .opened) := by
  decide +kernel

theorem test_wit_TaquinFaults :
    ((runs {} 5 [0]).dev.dark = false ∧ (runs {} 5 [0]).dev.fetch 0 = some (0, some 0) ∧ ((runs {} 5 [0]).dev.th 0).ctl = [] ∧ tqDecode 0 = none) ∧
    (runs { pastEnd := true } 0 [0]).dev.fetch 0 = some (0, none) ∧
    (∀ i ∈ [Tq.unlock 31, .txAbort, .txCommit 2, .shift .sar 1 2 37, .stamp 3 3, .time 3 3, .zrect 15 0 0 0 0, .waitM 0 15 0, .fabSend 0 0 13 3],
      Runs (runs {} 16382 [tqEncode i]) i) ∧ (runs {} 16382 [tqEncode (.unlock 31)]).dev.lock 31 ≠ some (.thread 0) ∧
    15 < (13 : BitVec 4).toNat + (3 : BitVec 2).toNat ∧ 36 < (37 : BitVec 6).toNat ∧
    (∀ i ∈ [Tq.txBegin, .halt], Runs (staging 0 i) i ∧ ((staging 0 i).dev.tx (.thread 0)).live = true) ∧
    ((runs {} 16382 [tqEncode .txAbort]).dev.tx (.thread 0)).st ≠ .opened ∧ Runs (holding .halt) .halt ∧
    (holding .halt).dev.lock 31 = some (.thread 0) := by decide +kernel

/-- Thread 0 with q1 = `x`, q2 = `y`. -/
def two (x y : Word) : Thread := { q := (Vector.replicate 16 (0 : Word)).set 1 x |>.set 2 y }

/-- Thread 0 after its instruction `i` on q1 and q2. -/
def did (i : Tq) (x y : Word) : Thread := (after (i.row 0) (runs (two x y) 0 [tqEncode i])).th 0

theorem test_add_wraps : let h := did (.alu .add 3 1 2) 0xFFFFFFFFF 1
    (h.reg 3, h.fz, h.fn, h.fc, h.fv) = (0, true, false, true, false) := by decide +kernel

theorem test_sub_overflows : let h := did (.alu .sub 3 1 2) 0x800000000 1
    (h.reg 3, h.fz, h.fn, h.fc, h.fv) = (0x7FFFFFFFF, false, false, false, true) := by decide +kernel

theorem test_cmp_borrows : let h := did (.alu .cmp 0 1 2) 1 2
    (h.reg 0, h.fn, h.fc) = (0, true, true) := by decide +kernel

theorem test_sar_keeps_sign : (did (.shift .sar 3 1 36) 0x800000000 0).reg 3 = 0xFFFFFFFFF := by decide +kernel

theorem test_mul_mulhu : (did (.alu .mul 3 1 2) 0x800000001 2).reg 3 = 2 ∧ (did (.alu .mul 3 1 2) 0x800000001 2).fc = true ∧
    (did (.alu .mulhu 3 1 2) 0x800000001 2).reg 3 = 1 := by decide +kernel

/-- The example of zrect: zones 16 to 31. -/
theorem test_zrect_example : (did (.zrect 4 0 2 7 3) 0 0).reg 4 = 0x0FFFF0000 ∧ (did (.zrect 4 0 2 7 3) 0 0).reg 5 = 0 := by decide +kernel

theorem test_signed_branch : (did (.bccReg 3 1 2 0x111) 0xFFFFFFFFF 0).pc = 0x111 ∧ (did (.bccReg 6 1 2 0x111) 0xFFFFFFFFF 0).pc = 0x111 ∧
    (did (.bccReg 5 1 2 0x111) 0xFFFFFFFFF 0).pc = 1 := by decide +kernel

theorem test_loop_ends_at_zero : (did (.loop 1 0x111) 1 0).pc = 1 ∧ (did (.loop 1 0x111) 0 0).pc = 0x111 := by decide +kernel

theorem test_store_and_load : (after (.stCIndexed 0) (runs (two 0x18001 7) 0 [tqEncode (.stIdx 2 1 0x3FFFFF)])).rd 0x18000 = 7 ∧
    ((after (.ldCAbsolute 0) (runs {} 0 [tqEncode (.ldAbs 4 0x18000)] fun d => d.wr 0x18000 9)).th 0).reg 4 = 9 := by decide +kernel

/-! ### Steeps and frames -/

/-- Words written straight into the control space. -/
def regs (l : List (Nat × Word)) (d : Dev) : Dev := l.foldl (fun (d : Dev) x => d.wr x.1 x.2) d

/-- The block in RUN with entry 7 as given and some words written. -/
def entry7 (e : Entry) (l : List (Nat × Word) := []) : State := run fun d => regs l (d.setEn 7 e)

theorem test_wit_NodeClears :
    let v : Word := 0x8C0000001
    let l : List (Nat × Word) := [(R.STP_CLEAR_LO, 0xFFFFFFFFF)]
    let free := entry7 {} l
    let busy := entry7 { st := .steeping, node := 3, fired := 4 } l
    let twice := run fun d => { regs l d with stp := { d.stp with clears := [⟨0, 1, true⟩] } }
    let skip := fun (s : State) => let d := s.ready.store R.STP_CLEAR_HI 0xCFFFFFFF v
      zJoin (d.rd R.STP_CLEAR_LO) (d.rd R.STP_CLEAR_HI) &&& (d.steepingInto (v.toNat / 2 ^ 30 % 4) ||| d.poured (v.toNat / 2 ^ 30 % 4))
    (Now free.dev .host ∧ (free.ready.store R.STP_CLEAR_HI 0xCFFFFFFF v).stp.clears.any (·.byReg) = false ∧ skip free = 0) ∧
    (Now busy.dev .host ∧ (busy.ready.store R.STP_CLEAR_HI 0xCFFFFFFF v).stp.clears.any (·.byReg) = false ∧ skip busy ≠ 0) ∧
    (Now twice.dev .host ∧ (twice.ready.store R.STP_CLEAR_HI 0xCFFFFFFF v).stp.clears.any (·.byReg) = true) ∧
    (free.dev.dark = false ∧ twice.dev.stp.clears = (⟨0, 1, true⟩ : NodeClear) :: [] ∧ 0 < 4) := by decide +kernel

/-- Entry 7 with a mask of one zone and the shortest DURATION, in the state `st`. -/
def ready7 (st : EntryState) : State := entry7 { st := st } [(R.STP_ENn_ZMASK_LO 7, 1), (R.STP_ENn_DURATION 7, 39)]

/-- The block once the write of `v` to STP.EN7_CTRL has stored its fields. -/
def wrote7 (st : EntryState) (v : Word) : Dev := (ready7 st).ready.store (R.STP_ENn_CTRL 7) 0xFFFF38 v

theorem test_wit_EntryArmAndDisarm :
    (∀ st ∈ [EntryState.idle, .done, .refused], Now (ready7 st).dev .host ∧ ((wrote7 st 0x800007000).en 7).st = st ∧
      (∀ o : Fin 8, o ≠ 7 → ((wrote7 st 0x800007000).en o).st = .idle)) ∧
    (let d := wrote7 .idle 0x800007000
     bit (0x800007000 : Word) 34 = false ∧ d.frm.running = false ∧ (d.rd (R.STP_ENn_DURATION 7)).toNat = 39 ∧
      zJoin (d.rd (R.STP_ENn_ZMASK_LO 7)) (d.rd (R.STP_ENn_ZMASK_HI 7)) = 1 ∧ field (d.rd (R.STP_ENn_CTRL 7)) 15 12 = 7 ∧
      bit (d.rd (R.STP_ENn_CTRL 7)) 11 = false ∧ bit (d.rd (R.STP_ENn_CTRL 7)) 10 = false ∧ d.poured 0 ||| d.holdOf 0 = 0 ∧
      field (d.rd (R.STP_ENn_CTRL 7)) 5 3 = 0) ∧
    field ((wrote7 .idle 0x800001010).rd (R.STP_ENn_CTRL 7)) 5 3 = 2 ∧ 3 < field ((wrote7 .idle 0x800001020).rd (R.STP_ENn_CTRL 7)) 5 3 ∧
    bit (0x400000000 : Word) 35 = false ∧ ((entry7 { st := .armed }).ready.en 7).st = .armed ∧
    ((entry7 { st := .armed }).ready.en 7).start = none ∧ ((entry7 { st := .armed, start := some 9 }).ready.en 7).start ≠ none ∧
    ((entry7 { st := .armed, start := some 9 }).ready.en 7).firedAt = (entry7 { st := .armed, start := some 9 }).ready.tick ∧
    ((entry7 { st := .steeping }).ready.en 7).st ≠ .arming ∧ ((entry7 { st := .steeping }).ready.en 7).st ≠ .armed ∧
    (entry7 { st := .armed }).ready.frm.running = false ∧
    (let d := (entry7 { st := .armed, mask := 1 } [(R.STP_ENn_ZMASK_LO 6, 1), (R.STP_ENn_DURATION 6, 39)]).ready.store (R.STP_ENn_CTRL 6) 0xFFFF38 0x800007000
     (d.en 7).mask &&& zJoin (d.rd (R.STP_ENn_ZMASK_LO 6)) (d.rd (R.STP_ENn_ZMASK_HI 6)) ≠ 0 ∧ (d.en 7).st = .armed) ∧
    (let d := (run fun d => regs [(R.STP_ENn_ZMASK_LO 7, 1), (R.STP_ENn_DURATION 7, 39)] { d with stp := { d.stp with hold := d.stp.hold.set 0 1 } }).ready
     (d.poured 0 ||| d.holdOf 0) &&& 1 ≠ 0) ∧
    (entry7 { st := .arming }).dev.dark = false ∧ ((entry7 { st := .arming }).dev.en 7).st = .arming := by decide +kernel

theorem test_short_exposure_is_invalid : (after (.entryArm .host 7 0x800001000) (entry7 {} [(R.STP_ENn_ZMASK_LO 7, 1), (R.STP_ENn_DURATION 7, 38)])).en 7 =
    { st := .refused, reason := 1, mask := 1, dur := 38 } := by decide +kernel

theorem test_wit_FiresReachArmedEntries :
    (∀ k < 2, let s := entry7 { st := .armed, mask := 1, dur := 39, source := k }
      Now s.dev .host ∧ s.dev.dark = false ∧ (s.ready.en 7).st = .armed ∧ (s.ready.en 7).start = none ∧ (s.ready.en 7).source = k ∧
      (s.ready.en 7).member = false ∧ (∀ o, o ≠ 7 → (s.ready.en o).listens k = false) ∧ s.ready.frm.running = false ∧ true ≠ (s.dev.en 7).pol) ∧
    3000 ≤ 3000 ∧ 1499 < 1500 ∧
    ((entry7 {}).dev.dark = false ∧ (∀ o, ((entry7 {}).dev.en o).listens 1 = false) ∧ (entry7 {}).dev.frm.running = false) := by decide +kernel

/-- A SOFT_GO starts an armed entry 16 ticks and its DELAY later (R64, R66). -/
theorem test_soft_go_start : ((after (.softGo .host 0x80) (run fun d => { d.setEn 7 { st := .armed, mask := 1, dur := 39, delay := 100 } with
    stp := { (d.setEn 7 { st := .armed, mask := 1, dur := 39, delay := 100 }).stp with pumpReady := true } })).en 7).start = some 116 := by decide +kernel

theorem test_wit_SteepStartAndEnd :
    (let s := entry7 { st := .armed, start := some 116, zones := 1, mask := 1 }
     s.dev.dark = false ∧ (s.dev.en 7).start = some 116 ∧ (s.dev.en 7).member = false ∧ s.dev.tick ≤ 116) ∧
    (let s := entry7 { st := .steeping, fired := 1, endAt := 200, node := 3 }
     s.dev.dark = false ∧ (s.dev.en 7).st = .steeping ∧ s.dev.inFrame 7 = false ∧ s.dev.tick ≤ (s.dev.en 7).endAt ∧ (s.dev.en 7).node < 4 ∧
      (s.dev.to 200).poured 3 &&& (s.dev.en 7).fired = 0) := by
  decide +kernel

theorem test_steep_holds_its_zones : (after (.steepEnd 7) (entry7 { st := .steeping, fired := 0x8000000000000001, endAt := 200, node := 3 })).holdOf 3 =
    0x8000000000000001 := by decide +kernel

theorem test_wit_PumpsAndStrobe :
    let on := entry7 {} [(R.STP_CTRL, 1)]
    let busy := entry7 { st := .steeping } [(R.STP_CTRL, 1)]
    let running := fun (s : State) => (List.finRange 8).filter (fun n => decide ((((s.ready).store R.STP_CTRL 0x3F01 0).en n).st = .steeping))
    (Now on.dev .host ∧ bit (on.ready.rd R.STP_CTRL) 0 = true ∧ running on = []) ∧ (Now busy.dev .host ∧ bit (busy.ready.rd R.STP_CTRL) 0 = true ∧ running busy ≠ []) ∧
    (Now (up id).dev .host ∧ bit ((up id).ready.rd R.STP_CTRL) 0 = false) ∧ (on.dev.dark = false ∧ bit (on.dev.rd R.STP_CTRL) 0 = true) := by
  decide +kernel

/-- The frame controller as given. -/
def frame (f : Machine.Frm) (g : Dev → Dev := id) : State := run fun d => { g d with frm := f }

/-- A member in entry 7. -/
def mem7 : Member := ⟨7, 0, 1, 39, 0⟩

theorem test_wit_FrameGo :
    let v : Word := 0x800000001
    let l : List (Nat × Word) := [(R.STP_FRM_MAP, 0x200000), (R.STP_ENn_ZMASK_LO 7, 1), (R.STP_ENn_DURATION 7, 39), (R.STP_ENn_CTRL 7, 0x1000)]
    let check := fun (s : State) => let d := s.ready.store R.STP_FRM_CTRL 0x307 v
      d.goCheck d.mapMembers (field (d.rd R.STP_FRM_CTRL) 2 0) (bit (d.rd R.STP_FRM_CTRL) 8)
        ((List.range 4).map (fun i => (d.rd (R.STP_FRM_OFFSETi i)).toNat)) (d.rd R.STP_FRM_PERIOD).toNat
    (Now (entry7 {} l).dev .host ∧ bit v 34 = false ∧ (entry7 {} l).ready.frm.st = .idle ∧ (entry7 {} l).ready.frm.frame = none ∧ check (entry7 {} l) = none ∧
      field ((entry7 {} l).ready.rd (R.STP_ENn_CTRL 7)) 5 3 ≠ 2) ∧
    ((entry7 {}).ready.frm.st = .idle ∧ check (entry7 {}) = some 1) ∧
    check (entry7 {} ((R.STP_ENn_CTRL 7, 0x1800) :: l)) = check (entry7 {} l) ∧ check (entry7 {} (l ++ [(R.STP_ENn_CTRL 7, 0x1800)])) = some 2 ∧
    (let s := frame { st := .waitFire }
     Now s.dev .host ∧ bit v 34 = false ∧ s.ready.frm.running = true ∧ s.ready.frm.frame = none) := by decide +kernel

theorem test_wit_FrameStopsAndArms :
    let v : Word := 0x400000001
    (bit v 35 = false ∧ ∀ st ∈ [FrmState.idle, .refused, .waitNodes, .arming, .waitFire], Now (frame { st := st }).dev .host ∧
      (frame { st := st }).ready.frm.st = st ∧ (frame { st := st }).ready.frm.frame = none ∧ (frame { st := st }).ready.frm.fires = []) ∧
    ((frame { st := .opened, mode := 7 }).ready.frm.fires = [] ∧ (frame { st := .opened, mode := 7 }).ready.frm.st = .opened ∧ pulsePaced (frame { st := .opened, mode := 7 }).ready.frm.mode = false) ∧
    (let o : OpenFrame := { num := 4, origin := 0, r := 0, phases := [(7, .steeping)] }
     let s := frame { st := .opened, mode := 5, frame := some o }
     Now s.dev .host ∧ s.ready.frm.fires = [] ∧ s.ready.frm.st = .opened ∧ pulsePaced s.ready.frm.mode = true ∧ s.ready.frm.frame = some o ∧
       s.ready.idleSince = none ∧ o.closing = none ∧ o.steeping = true) ∧
    (let s := frame { st := .arming, members := [mem7] } (·.setEn 7 { st := .armed })
     s.dev.dark = false ∧ s.dev.frm.st = .arming ∧ ∀ k ∈ s.dev.frm.members, (s.dev.en (enIdx k.entry)).st = .armed) ∧
    (let s := frame { st := .waitNodes, members := [mem7] } fun d => { d with stp := { d.stp with hold := d.stp.hold.set 0 1 } }
     s.dev.dark = false ∧ s.dev.frm.st = .waitNodes ∧ s.dev.nodesFree = false) ∧
    (let s := frame { st := .waitNodes, members := [mem7], mode := 2, source := 1 } (regs [(R.STP_ENn_DURATION 7, 39)])
     s.dev.dark = false ∧ s.dev.frm.st = .waitNodes ∧ s.dev.nodesFree = true ∧ s.dev.frm.members = [mem7] ∧ mem7.entry = (7 : Fin 8).val ∧ mem7.inf = 0 ∧
      pulsePaced s.dev.frm.mode = true ∧ s.dev.frm.mode ≤ 7 ∧ s.dev.frm.source ≤ 3 ∧ mem7.mask ≠ 0 ∧ 39 ≤ (s.dev.rd (R.STP_ENn_DURATION 7)).toNat ∧
      ∀ o, (s.dev.en o).st ≠ .arming ∧ (s.dev.en o).st ≠ .armed) := by decide +kernel

theorem test_wit_FiresOpenFrames :
    let c : CtlFire := ⟨0, 5, none, false⟩
    let l : CtlFire := ⟨0, 5, some 5, true⟩
    (∀ m ∈ [1, 3, 7], let s := frame { st := .waitFire, members := [mem7], mode := m, fires := [c] }
      s.dev.dark = false ∧ s.dev.rd R.STP_FRM_NUMBER ≠ BitVec.allOnes 36 ∧ s.dev.frm.fires = c :: [] ∧ s.dev.frm.st = .waitFire ∧ s.dev.frm.frame = none ∧
      s.dev.frm.mode = m ∧ s.dev.frm.trainT0 = none ∧ c.late = false ∧ s.dev.tick ≤ c.origin) ∧
    (let s := frame { st := .waitNodes, members := [mem7], mode := 7, fires := [l] }
     s.dev.frm.fires = l :: [] ∧ s.dev.frm.running = true ∧ s.dev.frm.frame = none ∧ l.late = true) ∧
    (∀ j ∈ [none, some 50], let o : OpenFrame := { num := 4, origin := 0, r := 0, phases := [(7, .waiting)], nextInf := 1, idleFrom := j }
      let s := frame { st := .opened, members := [mem7], mode := 5, k := 2, fires := [c], frame := some o } (regs [(R.STP_BURST_IDLE_LIMIT, 400)])
      s.dev.frm.st = .opened ∧ s.dev.frm.frame = some o ∧ pulsePaced s.dev.frm.mode = true ∧ o.nextInf < s.dev.frm.k ∧ o.fireOrigin = none ∧
      o.closing = none ∧ s.dev.frm.trainT0 = none ∧ ∀ h : Bool, ∀ u ∈ (s.dev.idlePasses h 50).toList, s.dev.tick ≤ u) ∧
    (∀ st ∈ [FrmState.arming, .waitNodes], ∀ b : Bool, let s := frame { st := st, fires := [c], blockedLogged := b }
      s.dev.dark = false ∧ s.dev.frm.fires = c :: [] ∧ s.dev.frm.st = st ∧ s.dev.frm.frame = none ∧ s.dev.frm.mode ≠ 7 ∧ s.dev.frm.blockedLogged = b) ∧
    (let s := frame { st := .waitFire, trainT0 := some 9, fires := [c] }
     s.dev.frm.running = true ∧ s.dev.frm.trainT0.isSome = true) ∧
    (∀ st ∈ [FrmState.waitFire, .arming], let s := frame { st := st, mode := 3, trainT0 := some 9, trainFrames := 5, trainJ := 2, trainPeriod := 100, members := [mem7] }
      s.dev.dark = false ∧ s.dev.rd R.STP_FRM_NUMBER ≠ BitVec.allOnes 36 ∧ s.dev.frm.trainT0 = some 9 ∧ s.dev.frm.trainJ < s.dev.frm.trainFrames ∧
      s.dev.tick ≤ 9 + s.dev.frm.trainJ * s.dev.frm.trainPeriod ∧ s.dev.frm.st = st ∧ s.dev.frm.mode = 3) ∧
    (frame { st := .idle, fires := [c] }).dev.frm.running = false := by decide +kernel

theorem test_wit_MemberStarts :
    let o : OpenFrame := { num := 4, origin := 0, r := 0, phases := [(7, .due 10), (3, .waiting)], pumpLogged := true }
    let s := fun (mode : Nat) (ready : Bool) => frame { st := .opened, mode := mode, members := [mem7], frame := some o } fun d =>
      let d := d.setEn 7 { st := .armed, mask := 1, dur := 39, member := true }
      { d with stp := { d.stp with pumpReady := ready } }
    (∀ m ∈ [1, 5], ∀ r : Bool, (s m r).dev.dark = false ∧ (s m r).dev.frm.frame = some o ∧ o.phases = ((7 : Fin 8).val, .due 10) :: [(3, .waiting)] ∧
      (∀ q ∈ [(3, MemberPhase.waiting)], q.1 ≠ (7 : Fin 8).val) ∧ (s m r).dev.tick ≤ 10 ∧ o.inactiveAt = none ∧ pulsePaced (s m r).dev.frm.mode = decide (m = 5)) ∧
    (∀ m ∈ [1, 5], ((s m true).dev.to 10).judge 7 10 ((s m true).dev.en 7).mask true = none) ∧ o.judged = false ∧ (s 5 true).dev.frm.infOf 7 = o.nextInf ∧
    (let u := s 1 false
     (u.dev.to 10).judge 7 10 (u.dev.en 7).mask true = some (Ev.PUMP_LOW, 0) ∧ (u.dev.en 7).st = .armed ∧ (u.dev.en 7).start = none) ∧ o.pumpLogged = true ∧
    (∃ q ∈ [(3, MemberPhase.waiting)], q.2.over = false) ∧ o.closing = none := by decide +kernel

theorem test_wit_LevelEnd :
    let o : OpenFrame := { num := 4, origin := 0, r := 0, phases := [(7, .steeping)] }
    (∀ t ∈ [(100 : Nat), 50], let s := frame { st := .opened, mode := 2, members := [mem7], frame := some o } fun d =>
        { d.setEn 7 { st := .steeping, startedAt := t, endAt := 500, node := 3, member := true } with tick := 100 }
      s.dev.dark = false ∧ s.dev.frm.mode = 2 ∧ s.dev.frm.frame = some o ∧ s.dev.inFrame 7 = true ∧ (s.dev.en 7).st = .steeping ∧
      (∀ m, m ≠ 7 → s.dev.inFrame m = false) ∧ (∀ q ∈ o.phases, q.2 = .steeping) ∧ o.cut = [] ∧ s.dev.tick + (18 : Fin 19).val ≤ (s.dev.en 7).endAt ∧
      ((t = 100 ∧ s.dev.tick + (18 : Fin 19).val < (s.dev.en 7).startedAt + 40) ∨ (t = 50 ∧ (s.dev.en 7).startedAt + 40 ≤ s.dev.tick + (18 : Fin 19).val))) ∧
    (let o : OpenFrame := { num := 4, origin := 0, r := 0, phases := [(7, .due 120)] }
     let s := frame { st := .opened, mode := 2, members := [mem7], frame := some o }
     s.dev.dark = false ∧ s.dev.frm.frame = some o ∧ (∀ m, s.dev.inFrame m = false) ∧ (∃ q ∈ o.phases, q.2 = .due 120) ∧ o.inactiveAt = none) := by decide +kernel

/-- A pulse-paced frame whose idle time counts from tick 50. -/
def idling (ctrl : Word) : State :=
  frame { st := .opened, mode := 5, k := 1, frame := some { num := 4, origin := 0, r := 0, phases := [], idleFrom := some 50 } } (regs [(R.STP_FRM_CTRL, ctrl), (R.STP_BURST_IDLE_LIMIT, 400)])

theorem test_wit_IdleLimitAndNumber :
    (∀ k ∈ [0, 512], let s := idling (BitVec.ofNat 36 k)
      s.dev.dark = false ∧ s.dev.frm.frame.isSome = true ∧ s.dev.frm.fires = [] ∧ s.dev.idleSince = some 50 ∧ s.dev.tick ≤ 50 + s.dev.idleLimit ∧
      bit (s.dev.rd R.STP_FRM_CTRL) 9 = decide (k = 512)) ∧
    (Now (up id).dev .host ∧ ((up id).storing true).ready.frm.running = false) := by decide +kernel

/-- ARM and DISARM of a member of a running frame, of an entry that steeps, and together (R55). -/
theorem test_wit_EntryArmAndDisarm_ignored :
    (let s := frame { st := .waitFire, members := [mem7] } (·.setEn 7 { st := .armed })
     Now s.dev .host ∧ s.ready.frm.running = true ∧ ∃ m ∈ s.ready.frm.members, m.entry = (7 : Fin 8).val) ∧
    (Now (entry7 { st := .steeping }).dev .host ∧ ((entry7 { st := .steeping }).ready.en 7).st = .steeping ∧ (entry7 { st := .steeping }).ready.frm.running = false) ∧
    bit (0x800007000 : Word) 34 = false ∧ bit (0x400007000 : Word) 35 = false ∧ bit (0xC00007000 : Word) 34 = true := by decide +kernel

/-- The block in RUN with the pumps ready. -/
def pumped (f : Dev → Dev) : State := run fun d => let d := f d; { d with stp := { d.stp with pumpReady := true } }

/-- An armed entry. -/
def armed0 : Entry := { st := .armed, mask := 1, dur := 39, delay := 100 }

/-- A fire that meets an ARMING entry: nothing hinders it whichever of its zones are loaded. -/
theorem test_wit_FiresReachArmedEntries_arming :
    let s := pumped (·.setEn 7 { armed0 with st := .arming, mask := 7 })
    let d := s.ready
    let z : Zones := zUnion (((zoneList (d.en 7).mask).take (Config.freeNat d.free % ((zoneList (d.en 7).mask).length + 1))).map zone)
    Now s.dev .host ∧ (d.en 7).st = .arming ∧ (d.en 7).start = none ∧ (d.en 7).source = 0 ∧ (d.en 7).member = false ∧ (∀ o, o ≠ 7 → (d.en o).listens 0 = false) ∧
      d.frm.running = false ∧ (d.en 7).mask ≠ 0 ∧ { d with free := d.free + 1 }.judge 7 (d.tick + 16 + (d.en 7).delay) z = none := by
  have h : ∀ k < 4, let d := (pumped (·.setEn 7 { armed0 with st := .arming, mask := 7 })).ready
      { d with free := d.free + 1 }.judge 7 (d.tick + 16 + (d.en 7).delay) (zUnion (((zoneList (d.en 7).mask).take k).map zone)) = none := by decide +kernel
  refine ⟨by decide +kernel, by decide +kernel, by decide +kernel, by decide +kernel, by decide +kernel, by decide +kernel, by decide +kernel, by decide +kernel, ?_⟩
  exact h _ (Nat.mod_lt _ (by decide +kernel))

/-- One SOFT_GO for two entries, a fire of a timer channel and one of the fabric. -/
theorem test_wit_FiresReachArmedEntries_sources :
    (let s := pumped fun d => (d.setEn 7 armed0).setEn 3 { armed0 with mask := 2, delay := 5 }
     Now s.dev .host ∧ s.ready.frm.running = false ∧ ∀ o : Fin 8, (0x88 : Word).getLsbD o.val = true →
      (s.ready.en o).st = .armed ∧ (s.ready.en o).start = none ∧ (s.ready.en o).source = 0 ∧ (s.ready.en o).member = false ∧
        s.ready.judge o (s.ready.tick + 16 + (s.ready.en o).delay) (s.ready.en o).mask = none) ∧
    (∀ k ∈ [2, 3], let y := (pumped fun d => { d.setEn 7 { armed0 with source := k, srcId := 21 } with claims := [⟨3, 5, [0x025]⟩] }).dev
     (y.en 7).st = .armed ∧ (y.en 7).start = none ∧ (y.en 7).source = k ∧ (y.en 7).member = false ∧ (∀ o, o ≠ 7 → (y.en o).listens k = false) ∧
       y.frm.running = false ∧ y.active 3 5 = true ∧ (y.en 7).srcId % 16 = 5 ∧ (y.en 7).srcId = 21) := by decide +kernel

/-- The end of a member of a timed frame that goes on. -/
theorem test_wit_SteepStartAndEnd_member :
    let o : OpenFrame := { num := 4, origin := 0, r := 0, phases := [(7, .steeping), (3, .waiting)] }
    let s := frame { st := .opened, mode := 1, members := [mem7, ⟨3, 0, 2, 39, 0⟩], frame := some o } fun d =>
      d.setEn 7 { st := .steeping, startedAt := 50, endAt := 500, node := 3, fired := 5, member := true }
    s.dev.dark = false ∧ (s.dev.en 7).st = .steeping ∧ s.dev.frm.frame = some o ∧ o.phases = ((7 : Fin 8).val, .steeping) :: [(3, .waiting)] ∧
      (∀ q ∈ [(3, MemberPhase.waiting)], q.1 ≠ (7 : Fin 8).val) ∧ (∃ q ∈ [(3, MemberPhase.waiting)], q.2.over = false ∧ s.dev.frm.infOf q.1 = s.dev.frm.infOf 7) ∧
      pulsePaced s.dev.frm.mode = false ∧ o.closing = none ∧ s.dev.tick ≤ (s.dev.en 7).endAt := by decide +kernel

/-- The checks 1 to 6 of GO (R82), in the words of the statement. -/
def goChecks (s : State) (v : Word) : List Bool :=
  let d := s.ready.idleWrite.store R.STP_FRM_CTRL 0x307 v
  let c := d.rd R.STP_FRM_CTRL
  let k := c.toNat % 8
  let inf := fun (n : Nat) => field (d.rd R.STP_FRM_MAP) (3 * n + 2) (3 * n)
  let ms := (List.finRange 8).filterMap (fun (n : Fin 8) => if inf n.val = 0 then none else some (⟨n.val, inf n.val - 1,
    zJoin (d.rd (R.STP_ENn_ZMASK_LO n)) (d.rd (R.STP_ENn_ZMASK_HI n)), (d.rd (R.STP_ENn_DURATION n)).toNat, (d.rd (R.STP_ENn_DELAY n)).toNat⟩ : Member))
  let offs := (List.range 4).map (fun i => (d.rd (R.STP_FRM_OFFSETi i)).toNat)
  let ctl := fun (m : Member) => d.rd (R.STP_ENn_CTRL m.entry)
  let h := d.rd (R.STP_ENn_CTRL ((ms.head?.map (·.entry)).getD 0))
  let mode := field h 15 12
  let start := fun (m : Member) => offs.getD m.inf 0 + m.delay
  let end_ := fun (m : Member) => start m + m.dur + 1
  [decide (1 ≤ k ∧ k ≤ 4) && (List.range 8).all (fun n => decide (inf n ≤ k)) && (List.range k).all (fun i => ms.any (fun m => m.inf == i)),
   decide ((∀ m ∈ ms, field (ctl m) 15 12 = mode ∧ field (ctl m) 5 3 = field h 5 3 ∧ field (ctl m) 23 16 = field h 23 16 ∧ bit (ctl m) 11 = false ∧
     bit (ctl m) 10 = false) ∧ sourceAllowed mode (field h 5 3) = true ∧ (mode = 2 → (∀ x ∈ offs, x = 0) ∧ ∀ m ∈ ms, m.delay = 0)),
   decide (bit c 8 = true → k = 1 ∨ k = 2),
   decide (∀ m ∈ ms, ∀ q ∈ ms, m.entry < q.entry → m.inf = q.inf → m.mask &&& q.mask = 0),
   decide (pulsePaced mode = false → (∀ m ∈ ms, ∀ q ∈ ms, m.inf < q.inf → m.mask &&& q.mask ≠ 0 → end_ m + 160 ≤ start q) ∧
     (mode = 3 → ∀ m ∈ ms, end_ m + 160 + 1600 * ms.length ≤ (d.rd R.STP_FRM_PERIOD).toNat)),
   decide (∀ m ∈ ms, (d.en (enIdx m.entry)).st = .idle ∨ (d.en (enIdx m.entry)).st = .done ∨ (d.en (enIdx m.entry)).st = .refused)]

/-- Entries with a zone mask of one zone, a DURATION of 39 and the CTRL word `c`, and STP.FRM_MAP. -/
def shaped (l : List (Fin 8 × Word)) (map_ c : Word) (e : Entry := {}) : State :=
  entry7 e ((R.STP_FRM_MAP, map_) :: l.flatMap fun x => [(R.STP_ENn_ZMASK_LO x.1, x.2), (R.STP_ENn_DURATION x.1, 39), (R.STP_ENn_CTRL x.1, c)])

/-- GO with each check the first that fails, and with none. -/
theorem test_wit_FrameGo_checks :
    goChecks (shaped [(7, 1)] 0x200000 0x1000) 0x800000001 = [true, true, true, true, true, true] ∧
    (goChecks (shaped [] 0 0x1000) 0x800000001).take 1 = [false] ∧
    (goChecks (shaped [(7, 1)] 0x200000 0x1800) 0x800000001).take 2 = [true, false] ∧
    (goChecks (shaped [(7, 1), (6, 2), (5, 4)] 0x298000 0x1000) 0x800000103).take 3 = [true, true, false] ∧
    (goChecks (shaped [(7, 1), (6, 1)] 0x240000 0x1000) 0x800000001).take 4 = [true, true, true, false] ∧
    (goChecks (shaped [(7, 1), (6, 1)] 0x280000 0x1000) 0x800000002).take 5 = [true, true, true, true, false] ∧
    goChecks (shaped [(7, 1)] 0x200000 0x1000 { st := .steeping }) 0x800000001 = [true, true, true, true, true, false] := by
  refine ⟨?_, ?_, ?_, ?_, ?_, ?_, ?_⟩ <;> decide +kernel

/-- GO with a timer channel that a feature of a lower number holds. -/
theorem test_wit_FrameGo_conflict :
    let s := { shaped [(7, 1)] 0x200000 0x51010 with dev := { (shaped [(7, 1)] 0x200000 0x51010).dev with claims := [⟨2, 1, [0x025]⟩] } }
    Now s.dev .host ∧ bit (0x800000001 : Word) 34 = false ∧ s.ready.frm.st = .idle ∧ s.ready.frm.frame = none ∧ s.ready.claims = [⟨2, 1, [0x020 + 5]⟩] ∧
      s.ready.asks = [] ∧ s.ready.evt.held ≠ none ∧ 2 < 3 ∧ goChecks s 0x800000001 = [true, true, true, true, true, true] ∧
      field (s.ready.rd (R.STP_ENn_CTRL 7)) 5 3 = 2 ∧ field (s.ready.rd (R.STP_ENn_CTRL 7)) 23 16 % 16 = 5 ∧ field (s.ready.rd (R.STP_ENn_CTRL 7)) 15 12 = 1 := by
  decide +kernel

/-- What hinders a member. -/
theorem test_wit_MemberStarts_hindered :
    let o : OpenFrame := { num := 4, origin := 0, r := 0, phases := [(7, .due 10), (3, .waiting)] }
    let pour : Pour := { manual := false, num := 1, inf := 0, node := 1, cover := 5, res := 0, cg := 0, dark := false, wins := [], start := 0, stamp := 0, base := 0, len := 0, dropped := false, aged := 0, agedFlag := false, rowsLeft := [], total := [], needed := [] }
    let s := fun (mode : Nat) (g : Dev → Dev) => frame { st := .opened, mode := mode, members := [mem7, ⟨3, 0, 2, 39, 0⟩], frame := some o } fun d =>
      let d := d.setEn 7 { st := .armed, mask := 1, dur := 39, member := true, node := 1 }
      g { d with stp := { d.stp with pumpReady := true } }
    let early := s 1 fun d => { d with stp := { d.stp with zoneEnd := [(0, 6)] } }
    let taken := s 1 fun d => { d with rdo := { d.rdo with pour := some pour } }
    let paced := s 5 fun d => { d with rdo := { d.rdo with pour := some pour } }
    ((early.dev.to 10).earlyZones 7 10 (early.dev.en 7).mask ≠ 0 ∧ early.dev.frm.frame = some o ∧ pulsePaced early.dev.frm.mode = false) ∧
    ((taken.dev.to 10).earlyZones 7 10 (taken.dev.en 7).mask = 0 ∧ (taken.dev.to 10).stp.pumpReady = true ∧ o.windDown = false ∧
      (taken.dev.to 10).poured (taken.dev.en 7).node &&& (taken.dev.en 7).mask ≠ 0) ∧
    (pulsePaced paced.dev.frm.mode = true ∧ o.judged = false ∧ paced.dev.frm.infOf 7 = o.nextInf ∧
      ((paced.dev.to 10).judge 7 10 (paced.dev.en 7).mask).isSome = true) := by decide +kernel

/-- HOLD cleared in the course of the idle time. -/
theorem test_wit_LevelEndIdleLimitAndNumber_was :
    let o : OpenFrame := { num := 4, origin := 0, r := 0, phases := [], idleFrom := some 50 }
    let s := frame { st := .opened, mode := 5, k := 1, idleWas := some (440, 400, true), frame := some o } (fun d => { regs [(R.STP_FRM_CTRL, 0), (R.STP_BURST_IDLE_LIMIT, 400)] d with tick := 445 })
    s.dev.dark = false ∧ s.dev.frm.frame.isSome = true ∧ s.dev.frm.fires = [] ∧ s.dev.idleSince = some 50 ∧ s.dev.tick ≤ 50 + s.dev.idleLimit ∧
      s.dev.frm.idleWas = some (440, 400, true) ∧ bit (s.dev.rd R.STP_FRM_CTRL) 9 = false ∧ (idling 0).dev.frm.idleWas = none := by decide +kernel

/-! ### Converters, readout, pipeline and frame memory -/

/-- Converter 7167 of bank 3 waits; some words written. -/
def waits (l : List (Nat × Word)) : State := run fun d => { regs l d with cnv := { d.cnv with waiting := [⟨3, 7167, 2, false⟩] } }

theorem test_wit_SparesServeConverters :
    (∀ k < 2, let s := waits [(R.CNV_CTRL, BitVec.ofNat 36 (4096 * k))]
      Now s.dev .host ∧ bit (s.ready.rd R.CNV_CTRL) 12 = decide (k = 1) ∧ s.ready.cnv.waiting = [⟨3, 7167, 2, false⟩] ∧ 3 < 4 ∧ 7167 < 7168 ∧
      bit (s.ready.rd R.CNV_STATUS) (8 + 3) = false ∧ s.ready.spareState 3 (7167 / 64) = 0) ∧
    ((up id).ready.cnv.waiting = [] ∧ bit ((up id).ready.rd R.CNV_CTRL) 12 = false ∧ bit (0x800 : Word) (8 + 3) = true) ∧
    (7167 < (0x7C00 : Word).toNat % 2 ^ 13 ∧ (up id).ready.spareOf 3 0x1C00 = none) ∧
    (let s := run (regs [(R.CNV_CTRL, 0x1000)])
     (0x7BFF : Word).toNat % 2 ^ 13 ≤ 7167 ∧ (0x7BFF : Word).toNat / 2 ^ 13 % 4 = 3 ∧ s.ready.spareOf 3 7167 = none ∧ s.ready.sparing 3 = true ∧
      s.ready.spareState 3 (7167 / 64) = 0) ∧
    (let s := waits [(R.CNV_CTRL, 0x1000)]
     s.ready.cnv.waiting = [⟨3, 7167, 2, false⟩] ∧ bit (0x800 : Word) (8 + 3) = true ∧ bit (s.ready.rd R.CNV_CTRL) 12 = true ∧ s.ready.spareState 3 111 = 0) ∧
    (let s := run fun d => (regs [(R.CNV_CTRL, 0x1000)] d).setSpare 3 111 2 2 7000
     s.ready.spareOf 3 7167 = none ∧ s.ready.sparing 3 = true ∧ s.ready.spareState 3 (7167 / 64) ≠ 0 ∧ s.ready.spareState 3 0 = 0) ∧
    ((waits []).ready.sparing 3 = false ∧ (waits []).ready.spareOf 3 7167 = none) ∧
    (let s := run fun d => d.setSpare 3 111 2 2 7167
     s.ready.spareOf 3 7167 = some 111 ∧ s.ready.cnv.waiting = []) := by decide +kernel

theorem test_wit_every_spare_taken :
    let s := run fun d => (List.range 112).foldl (fun (d : Dev) k => d.setSpare 3 k 2 2 k) (regs [(R.CNV_CTRL, 0x1000)] d)
    s.ready.sparing 3 = true ∧ s.ready.spareOf 3 7167 = none ∧ ∀ k, k < 112 → s.ready.spareState 3 k ≠ 0 := by decide +kernel

/-- A record of one infusion in node 3. -/
def rec1 (present : Bool) : FrameRecord := ⟨4660, 9, [⟨3, 1, 1, present, false⟩], 0, [], 0⟩

/-- The readout as given, at a line-period boundary with RDO enabled. -/
def rdo (r : Rdo) (f : Dev → Dev := id) : State := run fun d =>
  let d := regs [(R.RDO_CTRL, 1), (R.MEM_STATUS, 0)] (f d)
  { d with rdo := { r with idleWant := some 0 }, tick := 5000, seq := { d.seq with lpStart := some 5000 } }

/-- Node 3 holds zone 63. -/
def hold3 (d : Dev) : Dev := { d with stp := { d.stp with hold := d.stp.hold.set 3 0x8000000000000000 } }

theorem test_wit_PoursStart :
    (∀ k < 2, let s := run (regs [(R.RDO_MAN_POUR, BitVec.ofNat 36 (2 ^ 34 * k))])
      Now s.dev .host ∧ bit (s.ready.rd R.RDO_MAN_POUR) 34 = decide (k = 1)) ∧
    (let s := rdo { queue := [.manual 3 1] } hold3
     s.dev.dark = false ∧ s.dev.seq.lpStart = some s.dev.tick ∧ s.dev.rdo.pour = none ∧ s.dev.rdo.serving = none ∧ bit (s.dev.rd R.RDO_CTRL) 0 = true ∧
      s.dev.rdo.lastTry ≠ some s.dev.tick ∧ s.dev.rdo.idleWant = some s.dev.rdo.idleDone ∧ s.dev.rdo.queue = .manual 3 1 :: [] ∧
      s.dev.nodeHeldByRecord 3 = false ∧ s.dev.holdOf 3 ≠ 0 ∧ (s.dev.steepingInto 3 ||| s.dev.firedInto 3) &&& s.dev.holdOf 3 = 0) ∧
    (let s := rdo { queue := [.manual 3 1] } fun d => hold3 (d.setEn 7 { st := .armed, start := some 6000, zones := 0x8000000000000000, node := 3 })
     (s.dev.steepingInto 3 ||| s.dev.firedInto 3) &&& s.dev.holdOf 3 ≠ 0) ∧
    (let s := rdo { queue := [.manual 3 1], idleDone := 1 }
     ({ s.dev.rdo with idleWant := some 2 } : Rdo).idleDone < 2) ∧
    ((rdo { queue := [.manual 3 1] }).dev.holdOf 3 = 0 ∧ (rdo { queue := [.manual 3 1, .frame (rec1 true)] } hold3).dev.nodeHeldByRecord 3 = true) ∧
    (run fun d => { d with rdo := { d.rdo with queue := [.manual 3 1] } }).dev.seq.lpStart ≠ some 0 ∧
    (let s := rdo { queue := [.frame (rec1 true)] } hold3
     s.dev.rdo.queue = .frame (rec1 true) :: [] ∧ (rec1 true).nextPresent 0 = some 0 ∧ (s.dev.steepingInto 3 ||| s.dev.firedInto 3) &&& 1 = 0) ∧
    (rdo { queue := [.frame (rec1 false)] }).dev.rdo.queue = .frame (rec1 false) :: [] ∧ (rec1 false).nextPresent 0 = none := by decide +kernel

/-- A pour of node 3 that began at tick 0, at 12 bits. -/
def pour3 : Pour :=
  { manual := true, num := 4660, inf := 0, node := 3, cover := 1, res := 1, cg := 0, dark := false, wins := [], start := 0, stamp := 0,
    base := 0, len := 64, dropped := false, aged := 0, agedFlag := false, rowsLeft := [], total := [], needed := [] }

/-- Row 3 in conversion or in a buffer since tick 2000. -/
def row3 : RowBuf := ⟨3, 2000, [], [], [], []⟩

theorem test_wit_RowsAndPourEnd :
    (∀ bufs ∈ [[], [(3, row3), (3, row3)]], let q := { pour3 with rowsLeft := [3], buffers := bufs }
      let s := rdo { pour := some q }
      s.dev.dark = false ∧ s.dev.rdo.pour = some q ∧ s.dev.seq.lpStart = some s.dev.tick ∧ q.start + 2000 ≤ s.dev.tick ∧ q.lastTry ≠ some s.dev.tick ∧
      q.converting = [] ∧ q.rowsLeft = 3 :: [] ∧ 3 % 4 = (3 : Fin 4).val ∧ q.bankFree[(3 : Fin 4)] ≤ s.dev.tick ∧ q.hasBuffer 3 = decide (bufs = [])) ∧
    (let q := { pour3 with converting := [(3, row3)] }
     let s := run fun d => { d with rdo := { d.rdo with pour := some q } }
     s.dev.dark = false ∧ s.dev.rdo.pour = some q ∧ q.hasBuffer 3 = true ∧ s.dev.tick ≤ row3.started + rowTime q.res - 40) ∧
    ({ pour3 with buffers := [(3, row3)] }.buffers.find? (fun c => c.1 == (3 : Fin 4).val) = some ((3 : Fin 4).val, row3)) ∧
    (let s := rdo { pour := some pour3 }
     s.dev.dark = false ∧ s.dev.rdo.pour = some pour3 ∧ pour3.rowsLeft = [] ∧ pour3.cleared = false ∧ pour3.converting = [] ∧
     (run fun d => { d with rdo := { d.rdo with pour := some pour3 } }).dev.tick ≤ pour3.start + 2000) ∧
    (∀ dr : Bool, let q := { pour3 with cleared := true, dropped := dr }
      let s := rdo { pour := some q }
      s.dev.dark = false ∧ s.dev.rdo.pour = some q ∧ q.buffers = [] ∧ s.dev.stp.clears = [] ∧
      s.dev.tick ≤ q.start + busiest q.total * rowTime q.res + 8000 ∧ q.base + 64 ≤ s.dev.usableTop) := by decide +kernel

/-- A frame ready for PIP, its pour dropped or not. -/
def ready1 (dropped : Bool) : ReadyFrame := ⟨rec1 true, [], [⟨0, 64, dropped, 0, 1, 0, 1, false, [], [], [], []⟩]⟩

/-- PIP with a frame at the head of its queue, and PIP.CTRL. -/
def pip (ctrl : Word) (dropped : Bool) : State := run fun d =>
  { regs [(R.PIP_CTRL, ctrl), (R.MEM_STATUS, 0)] d with rdo := { d.rdo with ready := [ready1 dropped] }, mem := { d.mem with outSize := 0x1000 } }

/-- An output frame of one line. -/
def out1 : OutFrame := { num := 4660, stamp := 9, status := 0, fmt := 0, valid := 1, lines := [⟨0, 0, 0, [5, 6], false⟩], base := some 0x1FF00000, len := 64 }

theorem test_wit_PipelineFrames :
    ((pip 1 true).dev.dark = false ∧ (pip 1 true).dev.rdo.ready = ready1 true :: [] ∧ (ready1 true).pours.any (·.dropped) = true) ∧
    (∀ g ∈ ready1 false :: [], g.pours.any (·.dropped) = false) ∧
    ((pip 0 false).dev.rdo.ready = ready1 false :: [] ∧ bit ((pip 0 false).dev.rd R.PIP_CTRL) 0 = false) ∧
    (field ((pip 0x1001 false).dev.rd R.PIP_CTRL) 13 12 = 1 ∧ (pip 0x1001 false).dev.lnkReady = false) ∧
    (let d := (pip 1 false).dev
     d.pip.busy = false ∧ bit (d.rd R.PIP_CTRL) 0 = true ∧ field (d.rd R.PIP_CTRL) 13 12 = 0 ∧ d.mem.ecc = [] ∧
      (d.placeOut (outAreaWords (field (d.rd R.PIP_CTRL) 10 8) []) 4660 []).isSome = true) ∧
    (let d := (run fun d => { regs [(R.MEM_STATUS, 0)] d with pip := { d.pip with busy := true, frame := some out1 } }).dev
     d.dark = false ∧ d.pip.frame = some out1 ∧ d.pip.toLnk = false ∧ d.pip.pvImage = none ∧ out1.base = some 0x1FF00000 ∧
      32 + out1.body.length ≤ out1.len ∧ 0x1FF00000 + toBeat out1.len ≤ d.usableTop) ∧
    ({ (pip 1 false).dev with mem := { (pip 1 false).dev.mem with outSize := 0 } }.placeOut (outAreaWords 0 []) 4660 [] = none) ∧
    (Now (up id).dev .host ∧ bit (0x800000000 : Word) 32 = false ∧ bit ((up id).ready.rd R.PIP_DMAP_CTRL) 32 = false ∧
      readMap (fun i => Cells.get (fun _ => (0 : Word)) (up id).ready.pip.staging i) 262081 0 0 = none) ∧
    (let s := up fun d => { d with pip := { d.pip with staging := [(0, 0xC00000000)] } }
     Now s.dev .host ∧ bit (s.ready.rd R.PIP_DMAP_CTRL) 32 = false ∧
      readMap (fun i => Cells.get (fun _ => (0 : Word)) s.ready.pip.staging i) 262081 0 0 = some []) ∧
    bit (0x100000000 : Word) 35 = false := by decide +kernel

/-- A channel 7 as given. -/
def chan7 (c : Channel) (m : Mem := {}) (l : List (Nat × Word) := []) : State := run fun d => (({ regs l d with mem := m } : Dev)).setChan 7 c

theorem test_wit_Arbiters :
    (∀ k < 2,
      let s := chan7 ((({} : Channel).setRq 9 { posted := 1, next := 1 }).setRq 8 { posted := 3, next := 0 }) {}
        [(R.MEM_RQn_CFG 9, BitVec.ofNat 36 (5 + k)), (R.MEM_RQn_CFG 8, 6)]
      let ch := s.dev.chan 7
      s.dev.dark = false ∧ ch.grant = none ∧ ch.extra = false ∧ (ch.rq 8).posted ≠ 0 ∧ (ch.rq 9).posted ≠ 0 ∧ (ch.rq 8).next ≤ ch.round + 1 ∧ (ch.rq 9).next ≤ ch.round + 1 ∧ s.dev.mem.masked = [] ∧
      (∀ o, o ≠ 8 → o ≠ 9 → (ch.rq o).posted = 0) ∧ field (s.dev.rd (R.MEM_RQn_CFG 9)) 3 0 = 5 + k ∧ field (s.dev.rd (R.MEM_RQn_CFG 8)) 3 0 = 6) := by decide +kernel

theorem test_wit_ScrubAndRemap :
    (let s := chan7 { extra := true }
     s.dev.dark = false ∧ (s.dev.chan 7).extra = true ∧ (s.dev.chan 7).grant = none ∧ ∀ o, ((s.dev.chan 7).rq o).first = none ∧ ((s.dev.chan 7).rq o).posted = 0) ∧
    (let s := chan7 { grant := some 9 }
     s.dev.dark = false ∧ (s.dev.chan 7).grant = some (9 : Fin 10).val ∧ (∀ o, ((s.dev.chan 7).rq o).posted = 0) ∧ (∀ o, ((s.dev.chan 7).rq o).first = none)) ∧
    bit ((chan7 {}).dev.rd R.MEM_CTRL) 0 = decide (resetOf R.MEM_CTRL &&& 1 = 1) ∧
    (∀ ecc ∈ [[], [(0x20000000 / 2 - 16 + 15, 1)]],
      let s := chan7 { scrubBeat := 2 ^ 21 - 1, scrubDue := 900 } { ecc := ecc } [(R.MEM_CTRL, 1), (R.MEM_STATUS, 0)]
      s.dev.dark = false ∧ bit (s.dev.rd R.MEM_CTRL) 0 = true ∧ (s.dev.chan 7).grant = none ∧ (s.dev.chan 7).occupied = false ∧ (s.dev.chan 7).back = none ∧ s.dev.chanState 7 < 2 ∧
      s.dev.tick ≤ (s.dev.chan 7).scrubDue ∧ s.dev.beatAddr 7 (2 ^ 21 - 1) / 2 = 0x20000000 / 2 - 16) ∧
    (∀ w : Bool, let b : ScrubBack := { beat := 5, codes := (List.range 16).map (fun _ => (1, 2, 0)), dirty := w }
      let s := chan7 { back := some b }
      s.dev.dark = false ∧ (s.dev.chan 7).idleRound = true ∧ (s.dev.chan 7).back = some b ∧
      b.codes = (List.range 16).map (fun k => (fun _ => (1, 2, 0)) (s.dev.beatAddr 7 5 / 2 + k))) ∧
    ((chan7 { marked := [65535], grant := some 1 }).dev.chan 7).idleRound = false ∧ ((chan7 { marked := [65535] }).dev.chan 7).idleRound = true ∧
    (chan7 {}).dev.mem.ecc = [] ∧ ((chan7 {}).dev.chan 7).marked = [] ∧ ((chan7 { marked := [65535] }).dev.chan 7).marked = 65535 :: [] := by decide +kernel

/-- The base and size of the three regions, staged. -/
def rings (pb ps ob os vb : Nat) : List (Nat × Word) :=
  [(R.MEM_POUR_BASE, BitVec.ofNat 36 pb), (R.MEM_POUR_SIZE, BitVec.ofNat 36 ps), (R.MEM_OUT_BASE, BitVec.ofNat 36 ob), (R.MEM_OUT_SIZE, BitVec.ofNat 36 os),
   (R.MEM_PV_BASE, BitVec.ofNat 36 vb)]

theorem test_wit_RingsAndReleases :
    let store := fun (s : State) => s.ready.storeClear R.MEM_RING_CTRL 1 0x400000000 0x800000000
    let w := fun (s : State) (r : Nat) => field ((store s).rd r) 29 0
    let good := run (regs ((R.MEM_STATUS, 0) :: rings 0 0x1000 0x1000 0x1000 0x1FEDA000))
    (Now good.dev .host ∧ w good R.MEM_POUR_SIZE = 0x1000 ∧ w good R.MEM_OUT_BASE = 0x1000 ∧ w good R.MEM_PV_BASE + 2 * 602112 ≤ (store good).usableTop ∧
      overlaps 0 0x1000 0x1000 0x1000 = false ∧ overlaps 0x1000 0x1000 0x1FEDA000 (2 * 602112) = false ∧ overlaps 0 0x1000 0x1FEDA000 (2 * 602112) = false ∧
      (store good).mem.pours = [] ∧ (store good).mem.outs = [] ∧ (store good).rdo.pour = none ∧ (store good).pip.busy = false) ∧
    overlaps 0 0x1000 0xFFF 0x1000 = true ∧ (store good).usableTop < 0x1FEDA001 + 2 * 602112 ∧
    (let s := run fun d => { d with mem := { d.mem with pours := [{ base := 0, len := 64, frame := none }, { base := 64, len := 64, frame := some 5 }],
                                                        outs := [{ base := 0, len := 64, frame := some 5 }] } }
     Now s.dev .host ∧ s.ready.mem.pours.head?.map (fun a => (a.released, a.deferred, a.frame)) = some (false, false, none) ∧
      s.ready.mem.outs = { base := 0, len := 64, frame := some 5 } :: [] ∧ (∀ x ∈ s.ready.mem.pours.drop 1, x.released = false) ∧
      (1 : Word).toNat % 2 ^ 16 = 1 ∧ (0x10000 : Word).toNat % 2 ^ 16 = 0) ∧
    (let s := run fun d => { d with mem := { d.mem with pours := [{ base := 0, len := 64, frame := some 5, pipDone := true }, { base := 64, len := 64, frame := none }],
                                                        outs := [{ base := 0, len := 64, frame := some 5, pipDone := true }] } }
     (∀ x ∈ s.ready.mem.pours, x.released = false ∧ x.deferred = false ∧ (x.frame = none ∨ x.pipDone = true)) ∧
      (∀ x ∈ s.ready.mem.outs, x.released = false ∧ x.deferred = false ∧ (x.frame = none ∨ x.pipDone = true))) ∧
    (up id).ready.mem.pours = [] ∧ (up id).ready.mem.outs = [] := by decide +kernel

/-! ### Link, timers and fabric -/

/-- The link as given, with some words written. -/
def link (l : Lnk) (r : List (Nat × Word)) : State := run fun d => { regs r d with lnk := l }

/-- A frame in flight with lines still to send. -/
def tx1 (rest : List OutLine) (auth : Bool) : TxFrame := { frame := out1, fsSent := true, rest := rest, auth := auth }

/-- A line of two words. -/
def ln1 : OutLine := ⟨0, 1, 0, [5, 6], false⟩

theorem test_wit_LinkSendsUnits :
    (∀ more ∈ [[], [ln1]], ∀ auth : Bool, let c := tx1 (ln1 :: more) auth
      let s := link { state := 2, cur := some c } []
      s.dev.dark = false ∧ s.dev.lnk.state = 2 ∧ s.dev.lnk.stalled = none ∧ s.dev.lnk.endEarly = false ∧ s.dev.lnk.pv = none ∧ s.dev.lnk.owe = false ∧
      s.dev.lnk.cur = some c ∧ c.tagWait = none ∧ c.area = none ∧ c.fsSent = true ∧ c.lens = [] ∧ c.auth = auth ∧ c.after = .nothing) ∧
    0 < 1 ∧ 1 < (packet 0 0 0 1 4660 0 false [5, 6]).length ∧ (up id).dev.lnk.state ≠ 2 ∧
    (let c := { tx1 [] true with tagWait := some 7 }
     (link { cur := some c } []).dev.dark = false ∧ (link { cur := some c } []).dev.lnk.cur = some c ∧ c.tagWait = some 7 ∧ c.after = .nothing) ∧
    (let s := link { state := 2, cur := some (tx1 [ln1] false), owe := true, vc3 := [⟨0, [1]⟩] } [(R.LNK_CTRL, 1)]
     s.dev.lnk.owe = true ∧ bit (s.dev.rd R.LNK_CTRL) 0 = true ∧ s.dev.lnk.vc3 = ⟨0, [1]⟩ :: []) ∧
    (let s := link { stalled := some ⟨[idleBlock], 0, false, 0⟩ } []
     s.dev.dark = false ∧ s.dev.lnk.stalled = some ⟨[idleBlock], 0, false, 0⟩ ∧ s.dev.lnk.endEarly = false ∧ s.dev.lnk.pv = none) := by decide +kernel

theorem test_wit_PreviewFrameStart :
    (let s := run fun d => { (regs [(R.LNK_CTRL, 1), (R.LNK_PV_CTRL, 1)] d).setBuf 1 { st := .complete } with lnk := { d.lnk with state := 2, pvUp := true } }
     s.dev.dark = false ∧ s.dev.lnk.pv = none ∧ s.dev.pip.nextBuf = some 1 ∧ bit (s.dev.rd R.LNK_PV_CTRL) 0 = true ∧ bit (s.dev.rd R.LNK_CTRL) 0 = true ∧
      s.dev.pathUp (field (s.dev.rd R.LNK_PV_CTRL) 2 1) = true ∧ s.dev.lnk.lastPvFs = none) ∧ (up id).dev.pip.nextBuf = none := by decide +kernel

/-- A link in the state `st` with a training at tick 0. -/
def training (st : Nat) (t : Training) (ack : Bool) (m : List Nat := List.range 32) : State :=
  link { state := st, idle := false, train := some t, ackMode := ack, map := m } [(R.CLK_STATUS, 0x100000000)]

theorem test_wit_LinkTrains :
    (∀ st ∈ [0, 2, 3], let s := link { state := st } []
      Now s.dev .host ∧ bit (0x800000000 : Word) 10 = false ∧ bit (s.ready.rd R.LNK_CTRL) 10 = false ∧ s.ready.dark = false ∧ s.ready.lnk.state = st ∧
      s.ready.boot.step = none ∧ bit (s.ready.rd R.CLK_STATUS) 30 = false ∧ s.ready.lnk.cur = none ∧ s.ready.lnk.pv = none ∧ s.ready.lnk.stalled = none ∧
      field (0x800000000 : Word) 9 8 = s.ready.lnk.rate) ∧ (link { state := 1 } []).ready.lnk.state = 1 ∧
    (∀ ack : Bool, let s := training 1 { start := 0 } ack
      s.dev.dark = false ∧ s.dev.lnk.train = some { start := 0 } ∧ s.dev.tick ≤ 0 + twoMarkers s.dev.lnk.rate ∧ bit (s.dev.rd R.CLK_STATUS) 32 = true ∧
      s.dev.lnk.forced = 0 ∧ s.dev.asks = [] ∧ s.dev.lnk.ackMode = ack ∧
      (let t : Training := { start := 0, stage := .ack, passed := 2 ^ 35 - 1, deadline := 5 }
       (s.dev.ackNeeded t).all (fun n => t.acked.testBit n) = false) ∧ s.dev.lnk.wide = true ∧ s.dev.lnk.map = List.range 32 ∧ bit (s.dev.rd R.LNK_CTRL) 10 = false) ∧
    (let t : Training := { start := 0, stage := .ack, deadline := 90, repeated := true }
     let s := training 1 t true
     s.ready.lnk.train = some t ∧ (s.ready.ackNeeded t).all (fun n => t.acked.testBit n) = false ∧ s.dev.asks = [] ∧ s.dev.tick ≤ t.deadline ∧ s.dev.lnk.state ≠ 3 ∧
      (training 1 { start := 0 } true).ready.lnk.train.map (·.stage) = some .verdict) ∧
    (let s := training 1 { start := 0, stage := .marker } false
     s.dev.asks = [] ∧ s.dev.lnk.idle = false ∧ s.dev.lnk.state = 1) ∧ (up id).dev.lnk.idle = true ∧ (up id).ready.lnk.train = none ∧
    ((33 : Word).toNat % 64 ≤ 33 ∧ bit ((link { state := 2 } []).ready.rd R.LNK_LANE_FAIL) 33 = false ∧ 33 < (34 : Word).toNat % 64) ∧
    (up id).ready.lnk.state ≠ 2 ∧ bit ((link {} [(R.LNK_LANE_FAIL, 2 ^ 33)]).ready.rd R.LNK_LANE_FAIL) 33 = true ∧
    (let s := link { state := 2 } [(R.CLK_STATUS, 0x080000000)]
     bit (s.dev.rd R.CLK_STATUS) 31 = true ∧ bit (s.dev.rd R.CLK_STATUS) 30 = false ∧ field (s.dev.rd R.LNK_CTRL) 9 8 = s.dev.lnk.rate ∧ s.dev.lnk.state ≠ 3 ∧
      s.dev.lnk.cur = none ∧ s.dev.lnk.pv = none ∧ s.dev.lnk.stalled = none) ∧
    bit ((up id).dev.rd R.CLK_STATUS) 31 = false := by decide +kernel

/-- The timers as given. -/
def tim (t : Tim) (r : List (Nat × Word) := []) : State := run fun d => { regs r d with tim := t, tbRun := true }

theorem test_wit_TimebaseStepsAndGroupStarts :
    (Now (up id).dev .mgt ∧ (up id).ready.fabAligning = false) ∧
    (run fun d => { regs [(R.FAB_CTRL, 9)] d with fab := { d.fab with aligned := true, parent := some 0 } }).ready.fabAligning = true ∧
    (let s := tim { steps := [⟨16, some 9, 0⟩] }
     s.dev.dark = false ∧ s.dev.tim.steps = ⟨16, some 9, 0⟩ :: [] ∧ s.dev.tick ≤ 16 ∧ s.dev.tbRun = true) ∧
    (run fun d => { d with tim := { d.tim with steps := [⟨16, none, -3⟩] } }).dev.tbRun = false ∧
    (bit (0x0FFFF : Word) 16 = false ∧ bit (0x10000 : Word) 16 = true ∧ (0x10000 : Word).toNat % 2 ^ 16 = 0) ∧
    (∀ mask ∈ [2 ^ 15, 2 ^ 14 + 2 ^ 15], let s := tim { starts := [⟨mask, .mgt, 16, none, false⟩] } [(chCfg 14, 0xA00000000), (chCfg 15, 0xA00000000)]
      s.dev.dark = false ∧ s.dev.tim.starts = ⟨mask, .mgt, 16, none, false⟩ :: [] ∧ s.dev.tim.timed = none ∧ Owner.mgt.isPath = true ∧ s.dev.tick ≤ 16 ∧
      mask < 2 ^ 16 ∧ (∀ c : Fin 16, 14 ≤ c → (s.dev.tch c).cntWait = none ∧ (s.dev.tch c).cmpWait = none ∧ field (s.dev.rd (chCfg c)) 31 29 ≠ 3 ∧
        bit (s.dev.rd (chCfg c)) 35 = true ∧ bit (s.dev.rd (chCfg c)) 33 = true ∧ s.dev.chThread c.val = none)) := by decide +kernel

/-- Channel 15 as given. -/
def ch15 (h : TimCh) (cfg : Word) (r : List (Nat × Word) := []) : State := tim { ch := (Vector.replicate 16 ({} : TimCh)).set 15 h } ((chCfg 15, cfg) :: r)

theorem test_wit_ChannelWrites :
    let calm := fun (x : TimCh) => x.cntWait = none ∧ x.cmpWait = none ∧ x.startAt = none
    let old := (up id).ready.rd (chCfg 15)
    (Now (up id).dev .host ∧ bit (cfgAfter old 0x00017FF00) 20 = true ∧ isPin (field (cfgAfter old 0x00017FF00) 19 8) = false ∧
      bit (cfgAfter old 0) 20 = false ∧ bit (cfgAfter old 0) 35 = false ∧ bit (cfgAfter old 0xC00000000) 35 = true ∧ bit (cfgAfter old 0xC00000000) 34 = true ∧
      bit (cfgAfter old 0x800000000) 35 = true ∧ bit (cfgAfter old 0x800000000) 34 = false ∧ bit (cfgAfter old 0x800000000) 32 = false ∧
      bit old 35 = false ∧ calm ((up id).ready.tch 15) ∧ ((up id).ready.tch 15).next = none) ∧
    (let s := ch15 { next := some 9 } 0x800000000 [(chStat 15, 0x010000000)]
     bit (s.ready.rd (chCfg 15)) 35 = true ∧ bit (s.ready.rd (chStat 15)) 28 = true ∧ calm (s.ready.tch 15) ∧ s.ready.tick + 1 < 9 ∧
      cfgBusy (s.ready.rd (chCfg 15)) (cfgAfter (s.ready.rd (chCfg 15)) 0x800000000) = false) ∧
    cfgBusy 0x800000000 (cfgAfter 0x800000000 0x820000000) = true := by decide +kernel

theorem test_wit_ChannelSteps :
    let calm := fun (x : TimCh) => x.cntWait = none ∧ x.cmpWait = none ∧ x.startAt = none
    (∀ h ∈ [({ count := 4, period := 9, cmp := 7, next := some 3 } : TimCh), { count := 6, period := 9, cmp := 7, next := some 3 },
        { count := 9, period := 9, cmp := 7, next := some 3 }, { count := 4, period := 9, cmp := 7, next := some 3, pulseEnd := 2 }],
      let s := ch15 h 0x800000000
      s.dev.dark = false ∧ (s.dev.tch 15).next = some 3 ∧ s.dev.tick ≤ 3 ∧ calm (s.dev.tch 15) ∧
      field (s.dev.rd (chCfg 15)) 31 29 = 0 ∧ field (s.dev.rd (chCfg 15)) 23 22 < 3 ∧ bit (s.dev.rd (chCfg 15)) 4 = false ∧
      bit (s.dev.rd (chCfg 15)) 0 = false ∧ bit (s.dev.rd (chCfg 15)) 5 = false ∧ (s.dev.tch 15).pulseEnd ≤ 3) ∧
    (let s := ch15 { startAt := some 5, cmp := 7 } 0x800000000 [(chReg 15 1, 9)]
     (s.dev.tch 15).startAt = some 5 ∧ (s.dev.tch 15).cntWait = none ∧ (s.dev.tch 15).cmpWait = none ∧ field (s.dev.rd (chCfg 15)) 31 29 ≠ 3 ∧
      (s.dev.tch 15).count < (s.dev.rd (chReg 15 1)).toNat ∧ (s.dev.tch 15).count + 1 ≠ (s.dev.tch 15).cmp ∧ s.dev.tick ≤ 5 + s.dev.chTicks 15) ∧
    ((up id).dev.tch 15).next = none ∧ ((up id).dev.tch 15).startAt = none := by decide +kernel

/-- Channel 15 captures edges of a kind on an input that no feature drives, after one edge to skip. -/
def capturing (h : TimCh) (kind : Nat) : State := ch15 h 0x840000000 [(chInput 15, BitVec.ofNat 36 (kind * 2 ^ 18 + 0x100014))]

theorem test_wit_ChannelInputs :
    (∀ k, k < 3 → let s := capturing { running := true, level := k == 1 } k
      s.dev.dark = false ∧ s.dev.tbRun = true ∧ field (s.dev.rd (chInput 15)) 5 0 = 20 ∧ (s.dev.tch 15).startAt = none ∧
      field (s.dev.rd (chInput 15)) 19 18 = k ∧ field (s.dev.rd (chCfg 15)) 31 29 = 2 ∧ (s.dev.tch 15).edges < field (s.dev.rd (chInput 15)) 27 20 ∧
      max 1 (field (s.dev.rd (chInput 15)) 35 28) ≤ 1) ∧
    (∀ o : Bool, (up id).dev.landLevel 20 4 o = o) ∧
    1 < max 1 (field (0x200000000 : Word) 35 28) ∧
    (let s := capturing { running := true, edges := 1 } 2
     field (s.dev.rd (chInput 15)) 27 20 ≤ (s.dev.tch 15).edges ∧ (s.dev.tch 15).held = none) := by decide +kernel

theorem test_wit_CaptureReads : ((up id).dev.tch 15).running = false ∧ (up id).dev.tbRun = false ∧ (up id).dev.boot.step ≠ some 0 ∧
    ((ch15 { held := some 5 } 0).dev.tch 15).held = some 5 := by decide +kernel

/-- Port 3 as given, in a fabric that is on. -/
def port3 (q : FabPort) (f : Fab → Fab := id) (r : List (Nat × Word) := []) : State := run fun d =>
  let d := ({ regs ((R.FAB_CTRL, 1) :: r) d with fab := f d.fab } : Dev).setPort 3 q
  { d with tbRun := true }

theorem test_wit_FabricPortsAndRoutes :
    (∀ st ∈ [0, 1, 2, 3, 4, 5], let s := port3 { st := st, signal := true }
      s.dev.dark = false ∧ (s.dev.port 3).st = st ∧ (s.dev.port 3).gotTwo = false ∧ (s.dev.port 3).locked = false ∧ (1 : BitVec 14).toNat ≠ s.dev.ownId ∧
      (s.dev.ownId : Nat) = (0 : BitVec 14).toNat ∧ s.dev.fab.dupAt = none ∧ Now s.dev .host ∧ (s.ready.port 3).st = st ∧ (s.ready.port 3).signal = true ∧
      bit (1 : Word) 0 = bit (s.ready.rd (R.FAB_PORTp_CTRL 3)) 0 ∧ s.dev.tick ≤ (s.dev.port 3).nextHb ∧ s.dev.tick ≤ (s.dev.port 3).lastHb + 32000) ∧
    (let q := (port3 { st := 4, gotTwo := true, partner := true, locked := true }).dev.port 3
     q.st = 4 ∧ q.gotTwo = true ∧ q.partner = true ∧ q.locked = true ∧ (2 : Fin 3).val = 2) ∧
    (let s := port3 { st := 3 } (fun f => { f with master := some (5, 9), epoch := 2, mSeq := 65535, mSeqAt := 0 })
     s.dev.fab.master = some ((5 : BitVec 14).toNat, 9) ∧ s.dev.isMaster = false ∧ s.dev.fabOn = true ∧ s.dev.tick ≤ s.dev.fab.mSeqAt + 4000000 ∧
      0 < ((0 : BitVec 16).toNat + 2 ^ 16 - s.dev.fab.mSeq) % 2 ^ 16 ∧ ((0 : BitVec 16).toNat + 2 ^ 16 - s.dev.fab.mSeq) % 2 ^ 16 < 2 ^ 15 ∧
      field (s.dev.rd R.FAB_CTRL) 23 16 ≠ 255) ∧
    ((∀ g, ((port3 {}).dev.port g).st ≠ 3) ∧ (port3 {} (fun f => { f with master := some (0, 0) })).dev.isMaster = true ∧ (up id).dev.fabOn = false ∧
      (up id).dev.fab.master = none) ∧
    (let s := port3 { st := 3 } (fun f => { f with presence := 2, routes := [⟨7, 4, 0, []⟩], flooded := [(7, 4, 0)] })
     (0 : BitVec 14).toNat = s.dev.ownId ∧ (s.dev.fab.presence + 256 - (1 : BitVec 8).toNat) % 256 < min s.dev.fab.presence 3 ∧ s.dev.fab.session = none ∧
      s.dev.fab.routes.find? (fun x => x.id == (7 : BitVec 14).toNat) = some ⟨7, 4, 0, []⟩ ∧ (7 : BitVec 14).toNat ≠ s.dev.ownId ∧
      (s.dev.fab.flooded.filter (fun x => decide (s.dev.tick < x.2.2 + 128 * 64000000))).any (fun x => x.1 == 7 && x.2.1 == 4) = true ∧
      (s.dev.fab.flooded.filter (fun x => decide (s.dev.tick < x.2.2 + 128 * 64000000))).any (fun x => x.1 == 7 && x.2.1 == 5) = false ∧
      s.dev.fab.routes.find? (fun x => x.id == (8 : BitVec 14).toNat) = none) := by decide +kernel

theorem test_wit_SchedulesOfPaths :
    let s := port3 {} (fun f => { f with aligned := true, times := f.times.set Owner.host.idx 8000 |>.set Owner.mgt.idx 8001 })
    (Now s.dev .host ∧ s.ready.fab.times[Owner.host.idx].toNat - s.ready.tb.toNat ≤ s.ready.ecc * 240 + 8000 + (s.ready.rd R.FAB_LEAD_EXTRA).toNat) ∧
    (Now s.dev .mgt ∧ s.ready.ecc * 240 + 8000 + (s.ready.rd R.FAB_LEAD_EXTRA).toNat < s.ready.fab.times[Owner.mgt.idx].toNat - s.ready.tb.toNat ∧
      s.ready.fabAligned = true ∧ s.ready.fab.times[Owner.mgt.idx].toNat - s.ready.tb.toNat ≤ 2 ^ 36 ∧ s.ready.fabOn = true ∧ s.ready.fab.table.length < 32) := by decide +kernel

theorem test_wit_FabricTriggersAndMessages :
    (let s := port3 { st := 3 } (fun f => { f with seen := [(1, 2)] })
     (s.dev.port 3).st = 3 ∧ s.dev.fab.seen.contains ((1 : BitVec 14).toNat, (2 : BitVec 8).toNat) = true ∧
      s.dev.fab.seen.contains ((1 : BitVec 14).toNat, (3 : BitVec 8).toNat) = false ∧ s.dev.tb.toNat ≤ (5 : Stamp).toNat) ∧
    (let s := run fun d => ({ d with tb := 9 } : Dev).setPort 3 { st := 3 }
     (8 : Stamp).toNat < s.dev.tb.toNat ∧ s.dev.frm.takes 3 = false) ∧
    (let s := port3 {} (fun f => { f with table := [⟨7, 100⟩] })
     s.dev.dark = false ∧ s.dev.fab.table = [⟨7, 100⟩] ∧ s.dev.tbRun = true ∧ (∀ o, (s.dev.en o).listens 3 = false) ∧ s.dev.frm.takes 3 = false) ∧
    (bit (0x80000000B : Word) 35 = true ∧ isGpio ((0x80000000B : Word).toNat % 2 ^ 12) = true ∧ isGpio ((0x80000000C : Word).toNat % 2 ^ 12) = false) ∧
    ((port3 {} (fun f => { f with trigEnd := f.trigEnd.set 3 (some 50) })).dev.fab.trigEnd[(3 : Fin 4)] = some 50 ∧ (up id).dev.fab.trigEnd[(3 : Fin 4)] = none) ∧
    ((0 : BitVec 16).toNat = (port3 {}).dev.ownId ∧ (9 : BitVec 16).toNat ≠ (port3 {}).dev.ownId ∧ (9 : BitVec 16).toNat ≠ 0xFFFF ∧ (port3 {}).dev.routeTo 9 = none) ∧
    (port3 { st := 3 } (fun f => { f with routes := [⟨9, 4, 0, [(3, 2)]⟩] })).dev.routeTo 9 = some ((3 : Fin 4).val, 2) ∧
    ((port3 { queue := [[1]] }).dev.port 3).queue = [1] :: [] ∧
    (∀ i ∈ [Tq.fabSend 1 2 12 3, .fabSched 1 255 (some 14), .fabSched 1 7 none], Runs (runs {} 16381 [tqEncode i]) i ∨ i.literals = 2) ∧
    Runs (runs {} 16380 [tqEncode (.fabSched 1 7 none), 5, 6]) (.fabSched 1 7 none) ∧ (12 : BitVec 4).toNat + (3 : BitVec 2).toNat ≤ 15 := by decide +kernel

/-! ### Host port, relay and management bus -/

/-- The host port as given, in RUN. -/
def hst (h : Hst) (r : List (Nat × Word) := []) : State := run fun d => { regs ((R.MEM_STATUS, 0) :: r) d with hst := h }

/-- The header of a control-space command of `n` words at `a`. -/
def ctlHeader (a n : Nat) : List Byte := beBytes 3 a ++ [BitVec.ofNat 8 (n - 1)]

/-- The header of a data-port command of `n` words at `a` of the frame memory. -/
def dpHeader (a n : Nat) : List Byte := beBytes 4 a ++ beBytes 2 (n - 1)

theorem test_wit_HostPortCommands :
    ((hst {}).dev.boot.step ≠ some 0 ∧ (hst {}).dev.hst.kept = none ∧ (2 : BitVec 2) ≠ 3) ∧
    ((0xC1 : Byte).toNat / 64 = 3 ∧ (0 : Byte).toNat % 32 ∉ [1, 2, 3, 4, 5, 6, 8, 9, 0x1F]) ∧
    (∀ n ∈ [1, 3, 4, 5, 16, 17, 256], (ctlHeader 0x7000 n).length = 4 ∧ beNat ((ctlHeader 0x7000 n).drop 3) + 1 = n ∧ beNat ((ctlHeader 0x7000 n).take 3) = 0x7000) ∧
    (registerWords (List.replicate 80 0)).length = 16 ∧
    (let k : Kept := ⟨[0x81, 0, 0x70, 0, 1], .control 0x7000 2, some [0, 1]⟩
     (hst { kept := some k }).dev.hst.kept = some k ∧ k.bytes = BitVec.ofNat 8 (64 * (2 : BitVec 2).toNat + 1) :: (ctlHeader 0x7000 2 ++ []) ∧ k.answer = some (0 :: [1])) ∧
    (let k : Kept := ⟨[], .control 0x7000 2, none⟩
     (hst { kept := some k }).dev.hst.kept = some k ∧ k.answer = none ∧ k.read = .control 0x7000 2) ∧
    (∀ n ∈ [2, 32], (dpHeader 0x1000 n).length = 6 ∧ beNat ((dpHeader 0x1000 n).drop 4) + 1 = n ∧ beNat ((dpHeader 0x1000 n).take 4) / 2 ^ 29 = 0 ∧
      beNat ((dpHeader 0x1000 n).take 4) % 2 ^ 29 = 0x1000 ∧ 0x1000 % 2 = 0 ∧ n % 2 = 0 ∧ n ≤ 32 - 0x1000 % 32) ∧
    (bit ((hst {} [(R.HST_CTRL, 1)]).dev.rd R.HST_CTRL) 0 = true ∧ bit ((hst {} [(R.HST_CTRL, 0)]).dev.rd R.HST_CTRL) 0 = false ∧ 1 % 2 ≠ 0) ∧
    (let x := ((hst {} [(R.HST_CTRL, 1)]).dev.bump R.HST_CMD_COUNT).dpReadRun 0 0x1000 2
     x.2.1 = false ∧ x.2.2.1 = false) ∧
    (hst {}).dev.hst.buffer = 0 ∧ 2 ≤ 64 + 0 - (hst {}).dev.hst.buffer ∧ 64 + 1 - (hst { buffer := 64 }).dev.hst.buffer < 2 ∧
    ((registerWords (List.replicate 10 1)).take 2).length = 2 ∧ ((packedWords (List.replicate 9 1)).take 2).length = 2 ∧
    ((0x40 : Byte).toNat / 4 % 16 = 0 ∧ ((hst {}).dev.tx .host).misuses ((0x40 : Byte).toNat / 64) = false ∧ ((hst {}).dev.tx .host).misuses ((0xC0 : Byte).toNat / 64) = true) ∧
    ((31 : Byte).toNat < 32 ∧ 128 ≤ (0x9F : Byte).toNat ∧ (0x9F : Byte).toNat < 160 ∧ (0x44 : Byte).toNat / 4 % 16 ≠ 0 ∧ (0x20 : Byte).toNat / 32 % 4 ≠ 0) ∧
    (let d := (hst { writes := [(0x14000, 1)] }).dev
     d.boot.step ≠ some 0 ∧ d.hst.kept = none ∧ (d.applyHostWrites {} 0).hst.writes ≠ [] ∧ (d.applyHostWrites {} 1).hst.writes = [] ∧
      (hst {}).dev.hst.writes = []) ∧ Now (up id).dev .host := by decide +kernel

/-- Frames of each form, and a packed run with an odd address or count. -/
theorem test_wit_HostPortCommands_frames :
    (((⟨2, true, 7, ctlHeader 0x7000 1, [9]⟩ : HostFrame).wf 4) = true ∧ ((⟨0, false, 0, dpHeader 0x1000 2, []⟩ : HostFrame).wf 6) = true ∧
      ((⟨0, false, 0, [0x41], []⟩ : HostFrame).wf 1) = true ∧ ((⟨0, false, 0, [], []⟩ : HostFrame).wf 0) = true) ∧
    (0x1001 % 2 = 1 ∧ beNat ((dpHeader 0x1001 2).take 4) % 2 ^ 29 = 0x1001 ∧ beNat ((dpHeader 0x1000 3).drop 4) + 1 = 3) := by decide +kernel

/-- The command byte picks the command (R398): WIDTH 2 and 0, RELAY with its slot byte, and bytes that name none. -/
theorem test_command_byte_picks_command :
    hostCommand 0x81 [0, 0x70, 0, 1] true 0 0 0 = .cread ⟨2, false, 0, [0, 0x70, 0, 1], []⟩ true ∧
    hostCommand 0xA2 [7, 0, 0x70, 0, 0, 9] true 0 0 0 = .cwrite ⟨2, true, 7, [0, 0x70, 0, 0], [9]⟩ 0 ∧
    hostCommand 0x03 [0, 0, 0, 0, 0, 1] true 2 3 4 = .dread ⟨0, false, 0, [0, 0, 0, 0, 0, 1], []⟩ 2 3 ∧
    hostCommand 0x08 [0x41] true 0 0 0 = .txCommand ⟨0, false, 0, [0x41], []⟩ ∧ hostCommand 0x1F [] true 0 0 0 = .portReset ⟨0, false, 0, [], []⟩ ∧
    hostCommand 0xC1 [] true 0 0 0 = .hostBadCommand 0xC1 ∧ hostCommand 0x07 [] true 0 0 0 = .hostBadCommand 0x07 := by decide

/-- The example of ch. "Host Port and Data Port": one CREAD of two words at TIM.TB_LO answers DONE and ten bytes. -/
theorem test_cread_timebase :
    (after (.cread ⟨2, false, 0, [0x00, 0x70, 0x00, 0x01], []⟩ true) (run fun d => { d with tb := 0x123456789ABCDEF01 })).hst.out =
      [0x40, 0x01, 0xEF, 0xCD, 0xAB, 0x09, 0x78, 0x56, 0x34, 0x12, 0x00] := by decide +kernel

theorem test_wit_RelaySessions :
    (let s := port3 { st := 3 } id [(R.FAB_CTRL, 3)]
     s.dev.dark = false ∧ (s.dev.port 3).st = 3 ∧ (0 : BitVec 14).toNat = s.dev.ownId ∧ (9 : BitVec 14).toNat ≠ s.dev.ownId ∧ bit (s.dev.rd R.FAB_CTRL) 1 = true ∧
      s.dev.fab.session = none ∧ s.dev.hst.relay = none ∧ bit ((port3 { st := 3 } id [(R.HST_CTRL, 0)]).dev.rd R.HST_CTRL) 0 = false) ∧
    (let x : Session := { gateway := 9, rseq := 7, status := 0, words := [], lostAt := none }
     let s := port3 { st := 3 } (fun f => { f with ended := some x }) [(R.FAB_CTRL, 3)]
     s.dev.boot.step ≠ some 0 ∧ s.dev.fab.session = none ∧ s.dev.fab.ended = some x ∧ x.gateway = (9 : BitVec 14).toNat ∧ x.rseq = (7 : BitVec 8).toNat ∧
      x.rseq ≠ (8 : BitVec 8).toNat ∧ bit ((port3 { st := 3 } id [(R.HST_CTRL, 1)]).dev.rd R.HST_CTRL) 0 = true) ∧
    (bit ((port3 { st := 3 }).dev.rd R.FAB_CTRL) 1 = false ∧ ((up id).dev.port 3).st ≠ 3) ∧
    (let x : Session := { gateway := 9, rseq := 7, status := 0, words := [], lostAt := some 100 }
     let s := port3 { st := 3 } (fun f => { f with session := some x }) [(R.FAB_CTRL, 3)]
     s.dev.fab.session = some x ∧ x.gateway = (9 : BitVec 14).toNat ∧ x.gateway ≠ (8 : BitVec 14).toNat ∧ x.rseq = (7 : BitVec 8).toNat ∧
      x.rseq ≠ (8 : BitVec 8).toNat ∧ x.lostAt = some 100) ∧
    (let r : RelayReq := { bytes := [], slot := 1, target := 9, rseq := 7, op := 0, count := 0, addr := 0, words := [], packed := false, sentAt := 0 }
     let s := run fun d => { d.setPort 3 { st := 3 } with hst := { relay := some r } }
     s.dev.hst.relay = some r ∧ r.resp = none ∧ r.target = (9 : BitVec 14).toNat ∧ r.rseq = (7 : BitVec 8).toNat ∧ r.rseq ≠ (8 : BitVec 8).toNat ∧
      r.op ≠ 4 ∧ r.late = false) := by decide +kernel

/-- The management bus as given, with strap 5. -/
def mgt (m : Mgt) (r : List (Nat × Word) := []) : State := run fun d => { regs r d with mgt := { m with strap := 5 } }

theorem test_wit_ManagementBus :
    ((mgt {}).dev.boot.step ≠ some 0 ∧ (mgt {}).dev.mgt.held = [] ∧ (mgt {}).dev.mgt.answers (0x45 : BitVec 7).toNat = true ∧ (mgt {}).dev.mgt.ind = none ∧
      (mgt {}).dev.mgt.answers (0x46 : BitVec 7).toNat = false ∧ (mgt {}).dev.mgt.indCtrl.getLsbD 0 = false ∧ (0x7F : Byte).toNat < 128 ∧ (∀ n, ((mgt {}).dev.th n).ctl = []) ∧ ∀ g ∈ (mgt {}).dev.mgt.groups, g.fresh = false) ∧
    ((mgt { phase := .writing }).dev.mgt.phase = .writing ∧ (mgt { alert := some (7, 0x8A) }).dev.mgt.alert = some (7, 0x8A) ∧ (mgt {}).dev.mgt.alert = none ∧
      ((mgt {}).dev.pageWrites {} []).boot.step ≠ some 0 ∧ ((mgt {}).dev.pageWrites {} []).mgt.held = []) ∧
    (mgt { ind := some ⟨true, 0xC001, 0⟩ }).dev.mgt.ind.isSome = true ∧
    ((mgt { ind := some ⟨true, 0xC001, 0⟩ }).dev.mgt.ind = some ⟨true, 0xC001, 0⟩ ∧ (mgt { ind := some ⟨false, 0xC001, 0⟩ }).dev.mgt.ind = some ⟨false, 0xC001, 0⟩) ∧
    ((mgt { ptr := 90 }).dev.mgt.ptr.toNat = 5 * 18 ∧ 18 < 19 ∧ (pageRegs[18]?).isSome = true) ∧
    ((mgt {}).dev.alerts = [] ∧ (mgt {} [(R.MGT_ALERT, 0x8080)]).dev.alerts = 7 :: [] ∧ field (mgt {}).dev.mgt.ctrl 1 0 = 0) ∧
    (mgt { lowSince := some 5 }).dev.mgt.lowSince = some 5 ∧ (mgt {}).dev.mgt.lowSince = none ∧ State.reset.dev.boot.step = some 0 := by decide +kernel

/-- The example of ch. "Management Bus": an indirect read of MEM.STATUS with channel 3 MASKED. -/
theorem test_indirect_read_mem_status :
    (after .indAccessDone (mgt { ind := some ⟨false, 0xC001, 0⟩ } [(R.MEM_STATUS, 0x10080)])).mgt.indData = 0x10080 := by decide +kernel

/-! ### Monitor, kettle and clocks -/

/-- The monitor as given. -/
def mon (m : Mon) (r : List (Nat × Word) := []) : State := run fun d => { regs r d with mon := m }

/-- Twelve diodes at a temperature code since tick 0, and the kettle as given. -/
def warm (tq : Nat) (k : Ktl) : State := run fun d => { d with ktl := { k with diodes := Vector.replicate 12 { good := true, reads := [(tq, 0)] } } }

theorem test_wit_MonitorAndKettle :
    (Now (up id).dev .host ∧ bit ((mon {} [(R.MON_CTRL, 0)]).ready.rd R.MON_CTRL) 0 = false ∧ bit (1 : Word) 0 = true ∧ (mon {}).ready.mon.phase = .stopped ∧
      bit ((mon {} [(R.MON_CTRL, 1)]).ready.rd R.MON_CTRL) 0 = true ∧ bit (0 : Word) 0 = false) ∧
    ((mon {}).dev.dark = false ∧ (mon { phase := .waiting 5 }).dev.mon.phase = .waiting 5 ∧ (mon { phase := .started 5 }).dev.mon.phase = .started 5) ∧
    (∀ k < 2, let s := mon { phase := .converting 0 false, table := [BitVec.ofNat 36 (2 ^ 34 * k + 2 ^ 29 * 31)] }
      s.dev.mon.phase = .converting 0 false ∧ s.dev.mon.corrOld = [] ∧ bit s.dev.mon.word 4 = false ∧ s.dev.tick ≤ 0 + s.dev.mon.repeats * s.dev.mon.conv ∧
      field s.dev.mon.word 35 34 = k ∧ field s.dev.mon.word 33 29 = 31 ∧ s.dev.mon.repeats = 1) ∧
    (let r := entryResult [convert 0x010000 5000]
     r.2.1 = false ∧ r.2.2 = false) ∧
    (∀ stop : Bool, let s := mon { phase := .delaying 9, entry := 0, len := 63, stopping := stop, table := [0x180000000] } [(R.MON_CTRL, 0)]
      s.dev.mon.phase = .delaying 9 ∧ s.dev.mon.entry < s.dev.mon.len ∧ s.dev.mon.stopping = stop ∧ 12 ≤ field s.dev.mon.word 33 29 ∧
      bit (s.dev.rd R.MON_CTRL) 0 = false) ∧
    ((List.finRange 12).filter (fun i => ((up id).dev.ktl.diodes[i]).usable 4000000 4000000)).length < 6 ∧
    (let d := (warm 10816 {}).dev
     let due := max d.tick (d.ktl.lastEval + (d.rd R.KTL_STALE).toNat)
     let seen := (List.finRange 12).filter (fun i => (d.ktl.diodes[i]).usable due (d.rd R.KTL_STALE).toNat)
     6 ≤ seen.length ∧ (∀ i ∈ seen, (d.ktl.diodes[i]).temp ≤ 10816 ∧ (d.ktl.diodes[i]).rate ≤ 0) ∧ (∃ i ∈ seen, (d.ktl.diodes[i]).temp = 10816) ∧
      ∃ i ∈ seen, (d.ktl.diodes[i]).rate = 0) ∧
    ((warm 10816 { cand := 3, count := 3 }).dev.ktl.cand = 3 ∧ (warm 10816 { cand := 3, count := 3 }).dev.ktl.count = 3 ∧
      (warm 10816 { cand := 3, count := 2 }).dev.ktl.count < 3) ∧
    (let s := run fun d => { d with ktl := { d.ktl with graceEnd := some 400, state := 2 } }
     s.dev.dark = false ∧ s.dev.ktl.graceEnd = some 400 ∧ s.dev.ktl.state = 2) ∧ (up id).dev.ktl.graceEnd = none := by
  refine ⟨?_, ?_, ?_, ?_, ?_, ?_, ?_, ?_, ?_, ?_⟩ <;> decide +kernel

theorem test_four_evaluations_change_state :
    let d := { (up id).dev with ktl := { (up id).dev.ktl with cand := 1, count := 3 } }
    (1 ≠ d.ktl.state ∧ 1 = d.ktl.cand ∧ d.ktl.count = 3 ∧ 1 < 3) ∧ (d.ktlCount 1 0 900).ktl.state = 1 ∧
    ({ d with ktl := { d.ktl with count := 2 } }.ktlCount 1 0 900).ktl.state = 0 := by decide +kernel

/-- CLK.STATUS as given. -/
def clk (st : Word) (c : Clk) : State := run fun d => { regs [(R.CLK_STATUS, st)] d with clk := c }

theorem test_wit_ClockLossAndReturn :
    (bit ((clk 0 {}).dev.rd R.CLK_STATUS) 35 = false) ∧
    (let s := clk 0xD00000000 {}
     bit (s.dev.rd R.CLK_STATUS) 35 = true ∧ bit (s.dev.rd R.CLK_STATUS) 34 = true ∧ bit (s.dev.rd R.CLK_STATUS) 32 = true ∧ ∀ o, (s.dev.en o).st ≠ .steeping) ∧
    (bit ((clk 0xA00000000 {}).dev.rd R.CLK_STATUS) 34 = false ∧ bit ((clk 0xA00000000 {}).dev.rd R.CLK_STATUS) 33 = true) ∧
    (∀ k < 2, let s := clk (BitVec.ofNat 36 (0x880000000 + 2 ^ 30 * k)) { lkStarted := true }
      bit (s.dev.rd R.CLK_STATUS) 35 = true ∧ s.dev.clk.lkStarted = true ∧ bit (s.dev.rd R.CLK_STATUS) 32 = false ∧ bit (s.dev.rd R.CLK_STATUS) 31 = true ∧
      bit (s.dev.rd R.CLK_STATUS) 30 = decide (k = 1) ∧ s.dev.dark = false) ∧
    (let s := up fun d => { d with boot := { d.boot with step := some 7 } }
     s.dev.boot.step = some 7 ∧ s.dev.clk.failed.testBit (b2n true) = false) ∧ (up id).dev.boot.step ≠ some 7 := by decide +kernel

/-! ### Calibration, security and boot -/

/-- Item `i` as given. -/
def item (i : Fin 6) (x : CalItem) (f : Cal → Cal := id) (r : List (Nat × Word) := []) (m : List Matching := []) : State := run fun d =>
  { regs r d with cal := { f d.cal with items := d.cal.items.set i.val x i.isLt }, cnv := { d.cnv with matching := m } }

theorem test_wit_CalibrationItems :
    (Now (up id).dev .host ∧ (up id).dev.dark = false) ∧
    (let s := item 3 {} id [(R.CAL_CTRL, 1), (R.CAL_ITEMi 3, 0x800000001)]
     bit (s.dev.rd R.CAL_CTRL) 0 = true ∧ bit (s.dev.rd (R.CAL_ITEMi 3)) 35 = true ∧ (s.dev.item 3).dueAt = none ∧ (s.dev.item 3).running = false) ∧
    bit ((item 3 {} id [(R.CAL_CTRL, 0)]).dev.rd R.CAL_CTRL) 0 = false ∧
    (item 5 {} id [] [{ bank := 0, spare := 0, pours := 0, matched := false, inPour := false }]).dev.cnv.matching.any (fun k => !k.matched) = true ∧
    (∀ i ∈ [(3 : Fin 6), 4, 5], let s := item i { dueAt := some 0 }
      (s.dev.item i).dueAt.isSome = true ∧ (∀ j : Fin 6, j.val < 4 → (s.dev.item j).running = false) ∧ (∀ j : Fin 6, j.val < i.val → (s.dev.item j).dueAt = none) ∧
      s.dev.rdo.pour = none ∧ (s.dev.item i).running = false) ∧
    ((item 2 { running := true }).dev.item 2).running = true ∧ (rdo { pour := some pour3 }).dev.rdo.pour.isSome = true ∧
    (∀ i : Fin 6, ((item i { running := true }).dev.item i).running = true ∧ (item i { running := true }).dev.cal.boot = false ∧ (item i { running := true }).dev.cal.discarded = []) ∧
    (let s := item 2 { running := true } (fun c => { c with discarded := [71] })
     let s := { s with dev := s.dev.setEn 7 { st := .steeping } }
     ∃ l ∈ s.dev.cal.discarded, l < 72 ∧ s.dev.lineBusy l = true) ∧
    (∃ y ∈ [(-1001 : Int)], 1000 < Int.natAbs y) ∧ (∃ y ∈ [4999], y < 5000 ∨ 15000 < y) ∧ 50 < Int.natAbs (-51) ∧
    (bit ((item 1 {} id [(R.CAL_CTRL, 0)]).dev.rd R.CAL_CTRL) 1 = false ∧ 64 < (-65 : Int).natAbs ∧ 16384 < 50 * (max 16712 16384 - min 16712 16384)) ∧
    (16 < max (273 % 512) ((item 2 {}).dev.cal.taps[(71 : Fin 72)]) - min (273 % 512) ((item 2 {}).dev.cal.taps[(71 : Fin 72)])) ∧
    (item 3 {}).dev.cal.bank < 4 := by decide +kernel

theorem test_wit_CalibrationEnds :
    (let s := item 4 { running := true } id [(R.CAL_COLOFS, 2)]
     s.dev.cal.gather.pours < (s.dev.rd R.CAL_COLOFS).toNat % 2 ^ 16) ∧
    (let s := item 4 { running := true } (fun c => { c with gather := { c.gather with pours := 2, bad := some 3 } }) [(R.CAL_COLOFS, 2)]
     max ((s.dev.rd R.CAL_COLOFS).toNat % 2 ^ 16) 1 ≤ s.dev.cal.gather.pours ∧ s.dev.cal.gather.bad = some 3) ∧
    (item 5 { running := true }).dev.cnv.matching.filter (fun k => !k.matched) = [] ∧
    (∀ n ∈ [15, 16], let d := (item 5 { running := true } id [] [{ bank := 3, spare := 111, pours := n, matched := false, inPour := false, bad := true }]).dev
      let left := d.cnv.matching.filter (fun k => !k.matched)
      left ≠ [] ∧ (left.filter (fun k => decide (16 ≤ k.pours)) = [] ↔ n = 15) ∧ (∃ k ∈ left, k.bad = true) ∧ d.rdo.pour = none) ∧
    (rdo { pour := some { pour3 with total := [3] } }).dev.bankUsed 3 = true ∧
    (up fun d => d.wr R.PWR_STATE 0x800000000).ready.dark = true ∧
    (let s := item 4 { dueAt := some 7 } id [(R.CAL_ITEMi 4, 1)]
     (s.dev.item 4).dueAt = some 7 ∧ (s.dev.item 4).overdue = false ∧ 0 < (s.dev.rd (R.CAL_ITEMi 4)).toNat % 2 ^ 32 * 4000000) ∧
    (let s := run fun d => { regs [(R.CAL_SLOTs 1, 0x800000009)] d with cal := { d.cal with storing := some ⟨1, 9, []⟩ } }
     Now s.dev .host ∧ s.ready.cal.storing.isSome = true ∧ s.dev.cal.storing = some ⟨1, 9, []⟩ ∧ s.dev.cal.again = false) ∧
    ((run (regs [(R.CAL_SLOTs 1, 0x800000009)])).ready.newestSlot 2 = some 1 ∧ (up id).ready.cal.storing = none) := by decide +kernel

/-- The example of ch. "Calibration and the Caddy": two PIP frame starts take an offset from 20 to its target of 52 in steps of SLEW, 16. -/
theorem test_slew_example :
    let d := { (up id).dev with cal := { (up id).dev.cal with ofs := [(23336, 20)], ofsTarget := [(23336, 52)] } }
    14336 * 1 + 9000 = 23336 ∧ d.slewOffsets.colofs 1 9000 = 36 ∧ d.slewOffsets.slewOffsets.colofs 1 9000 = 52 ∧
    d.slewOffsets.slewOffsets.slewOffsets.colofs 1 9000 = 52 := by decide +kernel

/-- The example of ch. "Monitor Converters and Kettle": a rate of 448 above RT 320 with GAIN 32 cuts 64/256, and a pour of 10,779 periods of 770 ticks is given
3,593 idle ones. -/
theorem test_kettle_example : ktlProp 32 240 320 448 = 64 ∧
    (run fun d => { regs [(R.SEQ_LINE_PERIOD, 770), (R.RDO_LAST_INFO, 8299360)] d with ktl := { d.ktl with prop := 64 } }).dev.ktlIdle = 3593 ∧
    ktlWant 0 6000 339 192 320 7680 = 2 ∧ ktlWant 0 10816 0 192 320 7680 = 3 := by decide +kernel

/-- A candidate of the example of ch. "Pixel Pipeline and Blend". -/
def cand (i t cg : Nat) (v : Int) (sat : Bool) : Cand := ⟨i, t, 1, cg, { v := v, sat := sat }⟩

/-- The blend of that example. -/
def blended (v0 v1 v2 : Int) (sat : Bool) : Blended :=
  blend ⟨57344, 12, 0, 64⟩ 1 [cand 0 128000 1 v0 sat, cand 1 8000 0 v1 sat, cand 2 500 0 v2 false]

/-- The pixels A, B and C of the example, in F36 and F18H. -/
theorem test_blend_example :
    blended 10000 160 16 false = { l := 689, src := 0 } ∧ blended 55296 880 56 false = { l := 3552, src := 1 } ∧
    blended 0 0 40000 true = { l := 2560064, src := 2 } ∧
    [689, 3552, 2560064].map (compand (up id).dev.pip.knees) = [689, 3552, 216608] ∧ packLine 3 [689, 3552] = [0x00AC40DE0] := by decide +kernel

/-- The six words of the line of ch. "Frame Link and Preview". -/
def line6 : List Word := [0x060060060, 0x060060060, 0x7D07D07D0, 0xFFFFFFFFF, 0x100100100, 0x100000000]

/-- The words, the LS and the data blocks of that line. -/
theorem test_link_line_example :
    packLine 0 [0x060, 0x060, 0x060, 0x060, 0x060, 0x060, 0x7D0, 0x7D0, 0x7D0, 0xFFF, 0xFFF, 0xFFF, 0x100, 0x100, 0x100, 0x100] = line6 ∧
    ((packet 0 0 2 5 0x1234 3 false line6).take 5).map (fun b => (b.ctl, b.payload)) =
      [(true, 0x1234000600148066), (false, 0x0060060060060060), (false, 0xFFFFF7D07D07D006), (false, 0x000100100100FFFF), (false, 0x100000)] ∧
    ((packet 0 0 2 5 0x1234 3 false line6)[5]?).map (fun b => (b.ctl, b.payload.toNat % 2 ^ 32)) = some (true, 0xC099) := by decide +kernel

/-- The table of ch. "Timebase and Timers": which written CMP values count as passed. -/
theorem test_cmp_passed_example : [50001, 50000, 49999, 130000, 130001].map (fun c => cmpPassed 50000 c 159999) = [false, true, true, false, true] := by
  decide +kernel

/-- The summary of the second start in ch. "Boot, Configuration and Faults". -/
theorem test_boot_summary_example :
    ({ (up id).dev with
        ctl := [(R.PWR_STATE, BitVec.ofNat 36 (2 * 2 ^ 33 + 4 * 2 ^ 27))],
        nvm := { (up id).dev.nvm with fallback := { (up id).dev.nvm.fallback with chans := [0, 0, 0, 0, 0, 0, 1, 0] } },
        boot := { (up id).dev.boot with
          step := none, slot := some 1, results := [(1, 0), (1, 0), (1, 0), (3, 0), (1, 0), (1, 0), (1, 0), (1, 0), (1, 0), (2, 1), (1, 0), (1, 0)] } } : Dev).bootSummary =
      0xB6C5955D5 := by decide +kernel

theorem test_wit_FuseProgramming :
    let f0 : Fuses := {}
    let f1 : Fuses := { secure := true, kd := some 1, vk0 := some 2, vk1 := some 3, svn := 64 }
    (Now (up id).dev .host ∧ (up id).ready.isShut = false ∧ (up fun d => d.wr R.PWR_STATE 0x800000000).ready.isShut = true ∧ Now (up id).dev .relay ∧ (7 : Word).toNat % 8 = 7 ∧ (up id).ready.sec.fuseBusy = none ∧ Owner.host ≠ .relay) ∧
    (f1.secure = true ∧ f1.kd.isSome = true ∧ 64 ≤ f1.svn) ∧ (f0.secure = false ∧ f0.kd = none ∧ f0.vk0 = none ∧ f0.vk1 = none) ∧
    (let s := run fun d => { d with sec := { d.sec with fuseBusy := some (6, 0) } }
     s.ready.sec.fuseBusy.isSome = true ∧ s.dev.sec.fuseBusy = some (6, 0)) := by decide +kernel

theorem test_revoking_the_last_key_is_refused :
    (after (.fuseProgram .host 4) { (up id) with fuses := { secure := true, kd := some 1, vk0 := some 2 } }).rd R.SEC_FUSE_CTRL >>> 31 &&& 7 = 3 := by decide +kernel

theorem test_wit_SessionAndAttestation :
    (Now (up id).dev .host ∧ bit (1 : Word) 35 = false ∧ bit (0x800000000 : Word) 34 = false ∧ bit (0x400000000 : Word) 34 = true ∧
      bit (0x400000000 : Word) 35 = false ∧ bit (0x800000000 : Word) 35 = true) ∧
    (∀ ok : Bool, let s := run fun d => { d with sec := { d.sec with sensed := { kd := some 1 } } }
      (s.storing ok).ready.sec.sensed.kd.isSome = true ∧ (s.storing ok).ready.isShut = false ∧ (s.storing ok).ready.nvm.ok = ok) ∧ ((up id).storing true).ready.sec.sensed.kd.isSome = false ∧
    (∀ ak : Bool, let s := run fun d => { d with sec := { d.sec with akValid := ak } }
      s.ready.sec.att = none ∧ s.ready.sec.akValid = ak) ∧
    (∀ r ∈ [none, some (0x1FFFFFFF, 2), some (0, 0)], let a : AttReq := ⟨r, 0, []⟩
      let s := run fun d => { regs [(R.MEM_STATUS, 0)] d with sec := { d.sec with att := some a } }
      s.dev.dark = false ∧ s.dev.sec.att = some a ∧ s.ready.sec.att.isSome = true ∧ (r = none ∨ r = some (0, 0) ∨ s.dev.usableTop < 0x1FFFFFFF + 2)) := by
  decide +kernel

theorem test_wit_ResetsAndSupplyFaults : ((0 : BitVec 6) = 0 ∧ (0x20 : BitVec 6) ||| 0 ≠ 0) ∧ (up id).dev.boot.inReset = false ∧
    (after (.brownOutReset false) (up fun d => { d with boot := { d.boot with rails := 64 } })).boot.inReset = true ∧
    (after (.nrstReset 5) (up fun d => { d with boot := { d.boot with rails := 64 } })).boot.inReset = false ∧ Now (up id).dev .host ∧ Owner.host ≠ .relay ∧
    Now (up id).dev .relay := by decide

/-- The boot in step `k`, with some words written. -/
def booting (k : Nat) (r : List (Nat × Word)) (f : Boot → Boot := id) : State := up fun d =>
  { regs r d with boot := { f d.boot with step := some k, results := [(1, 0)] } }

theorem test_wit_BootSteps :
    (∀ k ∈ [0, 1, 2, 3, 4, 5, 6, 7, 8, 9, 10, 11], (booting k []).dev.boot.step = some k ∧ (booting k []).dev.sec.fuseCut = none ∧ (∀ f : Fin 4, ((booting k []).dev.port f).st = 0) ∧
      (booting k []).dev.boot.results ≠ [] ∧ (booting k []).dev.boot.rails % 64 = 0 ∧ (booting k [] fun b => { b with rails := 1 }).dev.boot.rails % 64 ≠ 0 ∧ field ((booting k []).dev.rd R.PWR_STATE) 29 27 ≠ 1 ∧
      (booting k []).dev.nvm.fallback.counts.length = 4 ∧ (booting k []).dev.nvm.fallback.chans = List.replicate 8 0 ∧ (booting k []).dev.boot.masked = false ∧
      (∀ j < 4, (booting k []).dev.nvm.fallback.counts.getD j 0 ≠ 3) ∧ (booting k []).dev.clk.failed = 0 ∧ (booting k []).dev.lnk.train = none ∧
      (∀ i : Fin 6, ((booting k []).dev.item i).running = false ∧ ((booting k []).dev.item i).dueAt = none) ∧ (booting k []).dev.boot.dmapSlot = none ∧
      (booting k []).dev.lnk.cur = none ∧ (booting k []).dev.lnk.pv = none ∧ (booting k []).dev.lnk.state = 0) ∧ (run id).dev.boot.step = none ∧
    (let s := booting 8 []
     ({ s with dev := s.dev.setPort 3 { st := 2 } } : State).dev.port 3).st = 2 ∧
    (let s := booting 9 []
     ({ s.dev with lnk := { s.dev.lnk with train := some { start := 0 } } } : Dev).lnk.train.isSome = true) ∧
    (bit ((booting 1 [(R.PWR_STATE, 0x240000001)]).dev.rd R.PWR_STATE) 30 = true ∧ bit ((booting 1 []).dev.rd R.PWR_STATE) 30 = false ∧
      bit ((booting 1 []).dev.rd R.CFG_CTRL) 0 = false ∧ bit ((booting 1 [(R.CFG_CTRL, 1)]).dev.rd R.CFG_CTRL) 0 = true ∧ (3 : BitVec 8).toNat % 4 ≠ 0) ∧
    (let s := booting 2 [(R.CFG_SLOTs 0, 0x8FFFFFFFF), (R.CFG_SLOTs 1, 0x800000000)]
     (∀ k < 2, bit (s.dev.rd (R.CFG_SLOTs k)) 35 = true ∧ s.dev.boot.excluded.testBit k = false) ∧
      newerSeq ((s.dev.rd (R.CFG_SLOTs 1)).toNat % 2 ^ 32) ((s.dev.rd (R.CFG_SLOTs 0)).toNat % 2 ^ 32) = true) ∧
    bit ((booting 2 []).dev.rd (R.CFG_SLOTs 1)) 35 = false ∧ (booting 3 []).dev.sec.sensed.secure = false ∧
    (let s := up fun d => { d with boot := { d.boot with step := some 3 }, sec := { d.sec with sensed := { secure := true } } }
     s.dev.sec.sensed.secure = true ∧ (s.dev.sigBlock 0).all (fun b => b == 0) = true) ∧
    ((booting 5 []).dev.nvm.fallback.maint = false ∧ (booting 5 []).dev.nvm.fallback.counts.getD 0 0 ≠ 3) ∧
    (∀ n ∈ [1, 2], let s := up fun d => { d with boot := { d.boot with step := some 7, pllFails := n }, clk := { d.clk with failed := 1 } }
      s.dev.clk.failed.testBit 0 = true ∧ s.dev.boot.pllFails = n) ∧
    (let s := up fun d => { d with boot := { d.boot with step := some 11 }, nvm := { d.nvm with bytes := [(8, 24), (80, 255), (81, 255), (82, 255)] } }
     24 ≤ s.dev.imageLength ∧ s.dev.nvmNat (slotBase 0 0 + 0x40 + 16) 3 = 0xFFFFFF ∧ s.dev.nvmNat (slotBase 0 0 + 0x40 + 4) 1 = 0 ∧ s.dev.boot.slot.getD 0 = 0) := by
  decide +kernel

theorem test_wit_ConfigurationCopies :
    (Now (up id).dev .host ∧ (up id).ready.boot.commit = none ∧ (up id).ready.isShut = false ∧ bit ((up id).ready.rd (R.CFG_SLOTs 0)) 35 = false ∧
      bit ((up id).ready.rd (R.CFG_SLOTs 3)) 35 = false ∧ bit ((up id).ready.rd (R.CAL_SLOTs 1)) 35 = false) ∧
    (let s := run (regs [(R.CFG_SLOTs 1, 0x800000005), (R.CFG_SLOTs 2, 0x800000005), (R.CAL_SLOTs 0, 0x800000005)])
     s.ready.boot.commit = none ∧ bit (s.ready.rd (R.CFG_SLOTs 1)) 35 = true ∧ bit (s.ready.rd (R.CFG_SLOTs 2)) 35 = true ∧ bit (s.ready.rd (R.CAL_SLOTs 0)) 35 = true) ∧
    (∀ r < 2, let s := run fun d => { d with boot := { d.boot with commit := some ⟨r, 0, 6, []⟩ } }
      s.ready.boot.commit.isSome = true ∧ s.dev.boot.commit = some ⟨r, 0, 6, []⟩) ∧ (4 : Word).toNat % 8 = 4 := by decide +kernel

end Sys2Proof.Tests
end

section
/-! The control space: a direct write of a plain word (O6). -/

namespace Sys2Proof.Machine

/-! ### A plain word: its addresses, its row, and its write (R13) -/

/-- The address runs of the words that only hold their fields. -/
theorem plainWord_runs {a : Nat} (h : plainWord a = true) :
    (0x14000 ≤ a ∧ a < 0x19000) ∨ (0x10100 ≤ a ∧ a < 0x10200 ∧ (a % 32 = 2 ∨ a % 32 = 3 ∨ a % 32 = 10)) ∨
    (0x1C040 ≤ a ∧ a < 0x1C0C0 ∧ 1 ≤ a % 16 ∧ a % 16 ≤ 4) ∨ (0x1C101 ≤ a ∧ a < 0x1C109) ∨ (0xD010 ≤ a ∧ a < 0xD030) ∨
    (0xE008 ≤ a ∧ a < 0xE010) ∨ (0xE040 ≤ a ∧ a < 0xE080) ∨ (0x20400 ≤ a ∧ a < 0x204D0) := by
  simpa [plainWord, or_assoc, and_assoc] using h

/-- A plain word is none of the words with a rule of their own. -/
theorem plainWord_ne {a b : Nat} (h : plainWord a = true) (hb : plainWord b = false) : (a = b) = False :=
  eq_false fun e => Bool.false_ne_true (hb.symm.trans (e ▸ h))

theorem Dev.writeIgnored_plain (s : Dev) {a : Nat} (v : Word) (h : plainWord a = true) : s.writeIgnored a v = false := by
  have runs := plainWord_runs h
  rw [Dev.writeIgnored, if_neg (by omega)]
  simp (disch := decide) only [plainWord_ne h, if_false]

theorem Dev.copyWrite_plain (s : Dev) (p : Owner) {a : Nat} (v : Word) (h : plainWord a = true) : s.copyWrite p a v = none := by
  have runs := plainWord_runs h
  simp (disch := decide) only [Dev.copyWrite, plainWord_ne h, if_false]
  rw [if_neg (by omega), if_neg (by omega)]

theorem Dev.ownWrite_plain (s : Dev) {a : Nat} (v : Word) (h : plainWord a = true) : s.ownWrite a v = none := by
  have runs := plainWord_runs h
  simp (disch := decide) only [Dev.ownWrite, plainWord_ne h, if_false]
  simp (disch := omega) only [if_neg]

theorem legalise_plain {a : Nat} (old v : Word) (h : plainWord a = true) : legalise a old v = v := by
  have runs := plainWord_runs h
  simp (disch := decide) only [legalise, plainWord_ne h, if_false]
  simp (disch := omega) only [if_neg]

theorem Dev.cmdMid_plain (s : Dev) {a : Nat} (was v : Word) (h : plainWord a = true) : s.cmdMid a was v = s := by
  simp (disch := decide) only [Dev.cmdMid, plainWord_ne h, or_self, if_false]

theorem Dev.cmdSeq_plain (s : Dev) (p : Owner) {a : Nat} (was v : Word) (h : plainWord a = true) : s.cmdSeq p a was v = s := by
  have runs := plainWord_runs h
  simp (disch := decide) only [Dev.cmdSeq, plainWord_ne h, if_false]
  rw [if_neg (by omega), if_neg (by omega), if_neg (by omega)]

theorem Dev.cmdStp_plain (s : Dev) {a : Nat} (was v : Word) (h : plainWord a = true) : s.cmdStp a was v = s := by
  have runs := plainWord_runs h
  simp (disch := decide) only [Dev.cmdStp, plainWord_ne h, if_false]
  rw [if_neg (by omega)]

/-- No command goes with a plain word, and nothing follows its write. -/
theorem Dev.cmdEff_plain (s : Dev) (f : Fuses) (p : Owner) {a : Nat} (was v : Word) (h : plainWord a = true) :
    s.cmdEff f p a was v = s := by
  have pastFab : 0x9000 ≤ a := by
    have runs := plainWord_runs h
    omega
  rw [Dev.cmdEff, s.writeIgnored_plain v h, if_neg Bool.false_ne_true, if_neg (by omega), if_neg (by omega), if_neg (by omega),
    s.cmdMid_plain was v h, s.cmdSeq_plain p was v h, s.cmdStp_plain was v h, ite_self, ite_self]

/-- Does the row have RW bits, and none that a one clears? -/
def RegRow.holdsFields (r : RegRow) : Bool := BitVec.ofNat 36 r.rw != (0 : Word) && r.w1c == 0

/-- The address of a row is one of its run. -/
theorem RegRow.holds_run {r : RegRow} {a : Nat} (h : r.holds a = true) : ∃ k < r.count, a = r.base + k * r.stride := by
  simp only [RegRow.holds, Bool.and_eq_true, decide_eq_true_eq, beq_iff_eq] at h
  obtain ⟨⟨hbase, hmod⟩, hcount⟩ := h
  have := Nat.div_add_mod' (a - r.base) r.stride
  exact ⟨_, hcount, by omega⟩

/-- Every row of the five blocks that have plain words holds fields alone, or has none of them. -/
theorem rows_holdFields_or_miss : ∀ l ∈ [regsRDO, regsPIP, regsSEQ, regsSTP, regsEVT], ∀ r ∈ l,
    r.holdsFields = true ∨ ∀ k < r.count, plainWord (r.base + k * r.stride) = false := by
  decide +kernel

/-- The plain words stand in five blocks (R17). -/
theorem regsOf_plain {a : Nat} (h : plainWord a = true) : regsOf a ∈ [regsRDO, regsPIP, regsSEQ, regsSTP, regsEVT] := by
  have blocks : (0xD000 ≤ a ∧ a < 0xD800) ∨ (0xE000 ≤ a ∧ a < 0xF000) ∨ (0x10000 ≤ a ∧ a < 0x1C000) ∨ (0x1C000 ≤ a ∧ a < 0x1D000) ∨
      (0x20000 ≤ a ∧ a < 0x21000) := by
    have runs := plainWord_runs h
    omega
  simp only [List.mem_cons]
  rcases blocks with b | b | b | b | b <;> simp (disch := omega) only [regsOf, if_neg, if_pos, true_or, or_true]

theorem regAt_plain {a : Nat} {r : RegRow} (h : plainWord a = true) (hr : regAt a = some r) : r.holdsFields = true := by
  rw [regAt] at hr
  obtain ⟨k, hk, run⟩ := RegRow.holds_run (List.find?_some (p := fun x : RegRow => x.holds a) hr)
  have plain : plainWord (r.base + k * r.stride) = true := run ▸ h
  refine (rows_holdFields_or_miss _ (regsOf_plain h) r (List.mem_of_find?_eq_some hr)).resolve_right fun misses => ?_
  exact Bool.false_ne_true ((misses k hk).symm.trans plain)

/-- The plain write of a row that holds fields alone stores its RW bits (R13). -/
theorem Dev.plainWrite_holdsFields (s : Dev) {a : Nat} {r : RegRow} (v : Word) (hr : regAt a = some r) (h : r.holdsFields = true) :
    s.plainWrite a v = s.store a r.rw v := by
  simp only [RegRow.holdsFields, Bool.and_eq_true, bne_iff_ne, beq_iff_eq] at h
  obtain ⟨hrw, hclear⟩ := h
  have clearsNone : ~~~(v &&& BitVec.ofNat 36 r.w1c) = BitVec.allOnes 36 := by rw [hclear]; simp
  simp only [Dev.plainWrite, hr, hrw, clearsNone, false_and, if_false, BitVec.and_allOnes, Dev.store]

/-- A write of a plain word that takes effect now stores the RW bits of its row, and does nothing else (R13). -/
theorem Dev.ctlEff_plain (s : Dev) (f : Fuses) (p : Owner) {a : Nat} {r : RegRow} (v : Word) (h : plainWord a = true)
    (hr : regAt a = some r) : s.ctlEff f p a v = s.store a r.rw v := by
  have idle : ¬ (a = R.STP_FRM_CTRL ∨ a = R.STP_BURST_IDLE_LIMIT) := by
    simp (disch := decide) only [plainWord_ne h, or_self, not_false_eq_true]
  rw [Dev.ctlEff, Dev.cmdEff_plain _ _ _ _ _ h, Dev.plainEff, s.writeIgnored_plain v h, if_neg Bool.false_ne_true,
    s.copyWrite_plain p v h, s.ownWrite_plain v h]
  simp only [if_neg idle, legalise_plain _ _ h, s.plainWrite_holdsFields v hr (regAt_plain h hr)]

/-- A path's write of a plain word outside an OPEN transaction stores its RW bits (R13, R291). -/
theorem exec_controlSpaceWrite_plain (s : State) (p : Owner) (a : BitVec 24) (v : Word) {r : RegRow} (now : Now s.dev p)
    (hr : regAt a.toNat = some r) (h : plainWord a.toNat = true) :
    exec (.controlSpaceWrite p a v) s = s.wrote p a.toNat (s.ready.store a.toNat r.rw v) := by
  have ha : a.toNat ≠ R.ID_PROFILE_APPLY := fun e => (plainWord_ne h (by decide)).mp e
  calc exec (.controlSpaceWrite p a v) s = s.write p a.toNat v := rfl
    _ = s.wrote p a.toNat (s.ready.ctlEff s.fuses p a.toNat v) := s.write_now p _ v now (by rw [hr]; rfl) ha
    _ = _ := by rw [Dev.ctlEff_plain _ _ _ _ h hr]

/-- Settles O6: a write reads back by the law of the store, and the effect of a plain word's write is `Dev.ctlEff_plain`. -/
theorem directWriteStoresFields : Obligations.DirectWriteStoresFields := by
  unfold Obligations.DirectWriteStoresFields
  refine ⟨fun d a b v => ⟨?_, fun hb => ?_⟩, fun s p a v r now hr h => exec_controlSpaceWrite_plain s p a v now hr h⟩
  · rw [d.rd_wr, if_pos rfl]
  · rw [d.rd_wr, if_neg hb]

end Sys2Proof.Machine

end

section
/-! The event log: holding, ordering and taking events, bad addresses, POP and CLEAR (O8, O9). -/

namespace Sys2Proof.Machine

/-! ### The event log (R522, R523) -/

/-- An event of a decision joins those that are held (R523). -/
theorem Dev.log_held (d : Dev) {held : List LogEntry} (h : d.evt.held = some held) (code source detail : Nat) :
    d.log code source detail =
      { d with evt := { d.evt with held := some (held ++ [⟨code, source % 2 ^ 16, BitVec.ofNat 36 detail, d.tb, 0⟩]) } } := by
  simp only [Dev.log, Dev.logAt, h]

theorem insertEntry_perm (e : LogEntry) (l : List LogEntry) : (insertEntry e l).Perm (e :: l) := by
  induction l with
  | nil => exact .refl _
  | cons x rest ih =>
    unfold insertEntry
    split
    · exact .refl _
    · exact (ih.cons x).trans (.swap e x rest)

/-- Ascending event code. -/
abbrev Ascending (l : List LogEntry) : Prop := l.Pairwise (fun x y => x.code ≤ y.code)

theorem insertEntry_ascending (e : LogEntry) {l : List LogEntry} (h : Ascending l) : Ascending (insertEntry e l) := by
  induction l with
  | nil => exact List.pairwise_singleton _ _
  | cons x rest ih =>
    obtain ⟨hx, hrest⟩ := List.pairwise_cons.mp h
    unfold insertEntry
    split
    next lt =>
      refine List.pairwise_cons.mpr ⟨List.forall_mem_cons.mpr ⟨by omega, fun y hy => ?_⟩, h⟩
      have := hx y hy
      omega
    next ge =>
      refine List.pairwise_cons.mpr ⟨fun y hy => ?_, ih hrest⟩
      rcases List.mem_cons.mp ((insertEntry_perm e rest).mem_iff.mp hy) with rfl | hy
      · omega
      · exact hx y hy

/-- An event goes behind those of its code and leaves those of every code in their order. -/
theorem insertEntry_filter (e : LogEntry) {l : List LogEntry} (h : Ascending l) (c : Nat) :
    (insertEntry e l).filter (fun x => x.code == c) = (l ++ [e]).filter (fun x => x.code == c) := by
  induction l with
  | nil => rfl
  | cons x rest ih =>
    obtain ⟨hx, hrest⟩ := List.pairwise_cons.mp h
    unfold insertEntry
    split
    next lt =>
      by_cases hc : e.code = c
      · have none_left : (x :: rest).filter (fun x => x.code == c) = [] := by
          refine List.filter_eq_nil_iff.mpr (List.forall_mem_cons.mpr ⟨?_, fun y hy => ?_⟩)
          · simp; omega
          · have := hx y hy
            simp; omega
        rw [List.filter_append, none_left, List.filter_cons, none_left, List.filter_cons]
        simp
      · simp [List.filter_cons, hc]
    next ge => rw [List.filter_cons, ih hrest, List.cons_append, List.filter_cons]

/-- The events of a decision in the order in which its end handles them (R523). -/
theorem insertEntries_spec (held : List LogEntry) {acc : List LogEntry} (h : Ascending acc) :
    Ascending (held.foldl (fun l e => insertEntry e l) acc) ∧ ∀ c,
      (held.foldl (fun l e => insertEntry e l) acc).filter (fun x => x.code == c) = (acc ++ held).filter (fun x => x.code == c) := by
  induction held generalizing acc with
  | nil => exact ⟨h, fun c => by simp⟩
  | cons e rest ih =>
    obtain ⟨sorted, same⟩ := ih (insertEntry_ascending e h)
    refine ⟨sorted, fun c => (same c).trans ?_⟩
    rw [List.filter_append, insertEntry_filter e h, ← List.filter_append, List.append_assoc, List.singleton_append]

/-- The end of a quiet block's decision handles the held events in that order. -/
theorem State.goes_held (s : State) (d : Dev) {held : List LogEntry} (h : d.Quiet) (hh : d.evt.held = some held) :
    s.goes d = .next (s.handles (held.foldl (fun l e => insertEntry e l) []) d) := by
  rw [State.goes, d.decided_quiet _ h, Dev.endDecision, hh]
  rfl

/-! ### One event handled (R523, R524) -/

theorem Dev.routeEvent_rd (s : Dev) (c a : Nat) (hm : a ≠ R.MGT_ALERT) (hh : a ≠ R.EVT_HST_ALERT) : (s.routeEvent c).rd a = s.rd a := by
  unfold Dev.routeEvent Dev.alertClass Dev.wb
  dsimp only
  split <;> split <;> simp only [Dev.wf_rd _ _ _ _ _ _ hm, Dev.wf_rd _ _ _ _ _ _ hh]

@[simp] theorem Dev.routeEvent_evt (s : Dev) (c : Nat) : (s.routeEvent c).evt = s.evt := by
  unfold Dev.routeEvent Dev.alertClass
  dsimp only
  split <;> split <;> rfl

@[simp] theorem Dev.postTo_evt (s : Dev) (n : Fin 8) (e : Nat) (st : Stamp) : (s.postTo n e st).evt = s.evt := by
  unfold Dev.postTo
  split
  · dsimp only
    split
    · split <;> rfl
    · split
      · split <;> rfl
      · rfl
  · rfl

@[simp] theorem Dev.post_evt (s : Dev) (e : Nat) (st : Stamp) : (s.post e st).evt = s.evt := by
  have all : ∀ (l : List (Fin 8)) (s : Dev), (l.foldl (fun s n => s.postTo n e st) s).evt = s.evt := by
    intro l
    induction l with
    | nil => exact fun _ => rfl
    | cons n r ih => exact fun s => (ih _).trans (s.postTo_evt n e st)
  exact all _ _

@[simp] theorem Dev.toVc3_evt (s : Dev) (p : LinkPacket) : (s.toVc3 p).evt = s.evt := by
  unfold Dev.toVc3
  split
  · split <;> rfl
  · rfl

/-- An event whose route does not name the log does not reach it. -/
theorem Dev.takeEntry_unrouted (s : Dev) (e : LogEntry) (h : s.bt (R.EVT_ROUTEc e.code) 0 = false) : s.takeEntry e = s := by
  rw [Dev.takeEntry, h, if_neg Bool.false_ne_true]

/-- An event of the code and source of the latest entry counts as a repeat of it. -/
theorem Dev.takeEntry_repeat (s : Dev) (e l : LogEntry) (old : List LogEntry) (h : s.bt (R.EVT_ROUTEc e.code) 0 = true)
    (hl : s.evt.entries = old ++ [l]) (same : l.code = e.code ∧ l.source = e.source) :
    (s.takeEntry e).evt = { s.evt with entries := old ++ [{ l with rep := min (l.rep + 1) 4095 }] } := by
  rw [Dev.takeEntry, if_pos h, hl, List.getLast?_concat]
  simp only [if_pos same, List.dropLast_concat]

/-- Another event is the newest entry while fewer than 64 stand. -/
theorem Dev.takeEntry_new (s : Dev) (e : LogEntry) (h : s.bt (R.EVT_ROUTEc e.code) 0 = true) (room : s.evt.entries.length < 64)
    (other : ∀ x, s.evt.entries.getLast? = some x → ¬ (x.code = e.code ∧ x.source = e.source)) :
    (s.takeEntry e).evt = { s.evt with entries := s.evt.entries ++ [e] } := by
  rw [Dev.takeEntry, if_pos h]
  cases hl : s.evt.entries.getLast? with
  | none => simp [List.getLast?_eq_none_iff.mp hl]
  | some l => simp [other l hl, room]

/-- With 64 entries it is dropped and counted. -/
theorem Dev.takeEntry_full (s : Dev) (e : LogEntry) (h : s.bt (R.EVT_ROUTEc e.code) 0 = true) (full : 64 ≤ s.evt.entries.length)
    (other : ∀ x, s.evt.entries.getLast? = some x → ¬ (x.code = e.code ∧ x.source = e.source)) :
    (s.takeEntry e).evt = { s.evt with overflow := true, dropped := min (s.evt.dropped + 1) 4095 } := by
  rw [Dev.takeEntry, if_pos h]
  cases hl : s.evt.entries.getLast? with
  | none => simp [List.getLast?_eq_none_iff.mp hl] at full
  | some l => simp [other l hl, Nat.not_lt.mpr full]

/-- The block that has counted an event and raised its alerts, before the log takes it. -/
def Dev.alerted (d : Dev) (e : LogEntry) : Dev := (d.bump (R.EVT_COUNTc e.code)).routeEvent e.code

theorem Dev.happen_alerted (d : Dev) (e : LogEntry) : d.happen e = (d.alerted e).takeEntry e := rfl

@[simp] theorem Dev.alerted_evt (d : Dev) (e : LogEntry) : (d.alerted e).evt = d.evt := Dev.routeEvent_evt _ _

/-- The route of an event is none of the words that handling it can write. -/
theorem apart_route (code : Nat) : apart code (R.EVT_ROUTEc code) := by
  unfold apart R.EVT_ROUTEc R.EVT_COUNTc R.MGT_ALERT R.EVT_HST_ALERT R.LNK_VC3_DROPPED R.SEQ_THn_EVLOST
  exact ⟨by omega, by omega, by omega, by omega, fun n => by omega⟩

/-- The count of an event is none of the words that handling another one can write. -/
theorem apart_count (code : Nat) : apart (code + 1) (R.EVT_COUNTc code) := by
  unfold apart R.EVT_COUNTc R.MGT_ALERT R.EVT_HST_ALERT R.LNK_VC3_DROPPED R.SEQ_THn_EVLOST
  exact ⟨by omega, by omega, by omega, by omega, fun n => by omega⟩

/-- Counting an event and raising its alerts leaves its route. -/
theorem Dev.alerted_route (d : Dev) (e : LogEntry) : (d.alerted e).bt (R.EVT_ROUTEc e.code) 0 = bit (d.rd (R.EVT_ROUTEc e.code)) 0 := by
  obtain ⟨count, alert, hostAlert, -, -⟩ := apart_route e.code
  rw [Dev.bt, Dev.alerted, Dev.routeEvent_rd _ _ _ alert hostAlert, Dev.bump, Dev.rd_wr, if_neg count]

/-- An event that happens counts once, saturating. -/
theorem Dev.happen_count (d : Dev) (e : LogEntry) :
    (d.happen e).rd (R.EVT_COUNTc e.code) = satInc (d.rd (R.EVT_COUNTc e.code)) := by
  obtain ⟨-, alert, hostAlert, -, -⟩ := apart_count e.code
  rw [Dev.happen_alerted, Dev.takeEntry_rd _ _ _ _ (apart_count e.code), Dev.alerted, Dev.routeEvent_rd _ _ _ alert hostAlert,
    Dev.bump, Dev.rd_wr, if_pos rfl]

/-! ### Addresses that no register occupies (R14, R18) -/

theorem Dev.badAddress_log (d : Dev) (p : Owner) (a : BitVec 24) (write : Bool) :
    d.badAddress p a.toNat write = d.log Ev.BAD_ADDRESS p.code (a.toNat + (if write then 2 ^ 24 else 0)) := by
  have inRange : a.toNat % 2 ^ 24 = a.toNat := Nat.mod_eq_of_lt a.isLt
  rw [Dev.badAddress, inRange]
  cases write <;> rfl

theorem exec_badAddressAccess (s : State) (p : Owner) (a : BitVec 24) (write : Bool) (hb : s.dev.boot.step ≠ some 0)
    (hr : regAt a.toNat = none) :
    exec (.badAddressAccess p a write) s = s.goes (s.dev.hold.log Ev.BAD_ADDRESS p.code (a.toNat + (if write then 2 ^ 24 else 0))) := by
  change execBadAddressAccess p a write s = _
  rw [execBadAddressAccess, s.access_alive _ hb, hr, ← Dev.badAddress_log]

theorem exec_controlSpaceWrite_bad (s : State) (p : Owner) (a : BitVec 24) (v : Word) (hb : s.dev.boot.step ≠ some 0)
    (hr : regAt a.toNat = none) : exec (.controlSpaceWrite p a v) s = exec (.badAddressAccess p a true) s := by
  rw [exec_badAddressAccess s p a true hb hr, ← Dev.badAddress_log]
  exact s.write_bad p _ v hb hr

theorem Dev.readEff_bad (d : Dev) (p : Owner) (a : Nat) (hr : regAt a = none) : d.readEff p a = (0, d.badAddress p a false) := by
  rw [Dev.readEff, hr]

/-- Settles O8: a read, a write and the bare access all come to the same `Dev.badAddress`. -/
theorem badAddresses : Obligations.BadAddresses := by
  unfold Obligations.BadAddresses
  intro s d p a v write hr
  refine ⟨?_, fun hb => ⟨exec_controlSpaceWrite_bad s p a v hb hr, _, exec_badAddressAccess s p a write hb hr⟩⟩
  rw [d.readEff_bad p _ hr]
  exact ⟨rfl, _, d.badAddress_log p a false⟩

/-! ### POP and CLEAR (R523) -/

/-- A write of EVT.POP holds no field; with its bit 0 it is the command. -/
theorem Dev.ctlEff_pop (d : Dev) (f : Fuses) (p : Owner) (v : Word) (h : bit v 0 = true) : d.ctlEff f p R.EVT_POP v = d.logPop := by
  have fields : d.plainEff p R.EVT_POP v = d := rfl
  have command : d.cmdEff f p R.EVT_POP (d.rd R.EVT_POP) v = if bit v 0 then d.logPop else d := rfl
  rw [Dev.ctlEff, fields, command, if_pos h]

/-- A write of EVT.CTRL holds no field; with its bit 35 it is the command. -/
theorem Dev.ctlEff_clear (d : Dev) (f : Fuses) (p : Owner) (v : Word) (h : bit v 35 = true) : d.ctlEff f p R.EVT_CTRL v = d.logClear := by
  have fields : d.plainEff p R.EVT_CTRL v = d := rfl
  have command : d.cmdEff f p R.EVT_CTRL (d.rd R.EVT_CTRL) v = if bit v 35 then d.logClear else d := rfl
  rw [Dev.ctlEff, fields, command, if_pos h]

theorem exec_logPop (s : State) (p : Owner) (v : Word) (now : Now s.dev p) : exec (.logPop p v) s = s.wrote p R.EVT_POP s.ready.logPop := by
  have popBit : bit (v ||| place 0 0 1) 0 = true := by simp [bit, place]
  change s.write p R.EVT_POP (v ||| place 0 0 1) = _
  rw [s.write_now p _ _ now (by decide) (by decide), Dev.ctlEff_pop _ _ _ _ popBit]

theorem exec_logClear (s : State) (p : Owner) (v : Word) (now : Now s.dev p) :
    exec (.logClear p v) s = s.wrote p R.EVT_CTRL s.ready.logClear := by
  have clearBit : bit (v ||| place 35 35 1) 35 = true := by simp [bit, place]
  change s.write p R.EVT_CTRL (v ||| place 35 35 1) = _
  rw [s.write_now p _ _ now (by decide) (by decide), Dev.ctlEff_clear _ _ _ _ clearBit]

/-- Settles O9: the end of a decision is `State.goes_held`, the log's taking of one event the lemmas of `Dev.takeEntry`. -/
theorem eventsAreLogged : Obligations.EventsAreLogged := by
  unfold Obligations.EventsAreLogged
  intro s d p a v w code source detail entry l old held
  dsimp only
  have route := d.alerted_route entry
  refine ⟨fun h => d.log_held h code source detail, fun quiet h => ?_, fun quiet h => s.goes_silent d quiet h,
    fun _ => ⟨d.happen_count entry, fun unrouted => ?_, fun routed hl hc hs => ?_, fun routed room other => ?_, fun routed full other => ?_⟩,
    fun hr hb => exec_badAddressAccess s p a w hb hr, exec_logPop s p v, exec_logClear s p v⟩
  · obtain ⟨sorted, same⟩ := insertEntries_spec held (acc := []) List.Pairwise.nil
    exact ⟨_, sorted, same, s.goes_held d quiet h⟩
  · rw [d.happen_alerted, Dev.takeEntry_unrouted _ _ (route.trans unrouted), d.alerted_evt]
  · rw [d.happen_alerted, Dev.takeEntry_repeat _ _ l old (route.trans routed) (by rwa [d.alerted_evt]) ⟨hc, hs⟩, d.alerted_evt]
  · rw [d.happen_alerted, Dev.takeEntry_new _ _ (route.trans routed) (by rwa [d.alerted_evt]) (by rwa [d.alerted_evt]), d.alerted_evt]
  · rw [d.happen_alerted, Dev.takeEntry_full _ _ (route.trans routed) (by rwa [d.alerted_evt]) (by rwa [d.alerted_evt]), d.alerted_evt]

end Sys2Proof.Machine

end

section
/-! The readout: manual pours are queued, and pours start on line-period boundaries (O39). -/

namespace Sys2Proof.Machine

/-! ### Fields of a word -/

theorem field_testBit (w : Word) (hi lo j : Nat) : (field w hi lo).testBit j = (decide (j < hi + 1 - lo) && bit w (lo + j)) := by
  rw [field, fieldN, Nat.testBit_mod_two_pow, Nat.testBit_shiftRight]
  rfl

/-- A field is what its bits are. -/
theorem field_congr {w x : Word} {hi lo : Nat} (h : ∀ i, lo ≤ i → i ≤ hi → bit w i = bit x i) : field w hi lo = field x hi lo := by
  refine Nat.eq_of_testBit_eq fun j => ?_
  rw [field_testBit, field_testBit]
  by_cases hj : j < hi + 1 - lo
  · rw [h (lo + j) (by omega) (by omega)]
  · simp [hj]

theorem bit_place (hi lo v : Nat) {i : Nat} (hi36 : i < 36) :
    bit (place hi lo v) i = (decide (lo ≤ i) && decide (i < hi + 1) && v.testBit (i - lo)) := by
  have inside : lo ≤ i → decide (i - lo < hi + 1 - lo) = decide (i < hi + 1) := fun _ => decide_eq_decide.mpr (by omega)
  rw [bit, place, BitVec.getLsbD_ofNat, Nat.testBit_shiftLeft, Nat.testBit_mod_two_pow]
  by_cases h : lo ≤ i
  · simp [hi36, h, inside h]
  · simp [h]

/-- A bit after a field was set: the field's within it, the old one outside. -/
theorem bit_setField (w : Word) (hi lo v : Nat) {i : Nat} (hi36 : i < 36) :
    bit (setField w hi lo v) i = if lo ≤ i ∧ i ≤ hi then v.testBit (i - lo) else bit w i := by
  have mask := bit_place hi lo (2 ^ (hi + 1 - lo) - 1) hi36
  have value := bit_place hi lo v hi36
  rw [Nat.testBit_two_pow_sub_one] at mask
  have set : bit (setField w hi lo v) i = ((bit w i && !bit (fieldMask hi lo) i) || bit (place hi lo v) i) := by
    simp only [setField, bit, BitVec.getLsbD_or, BitVec.getLsbD_and, BitVec.getLsbD_not, hi36, decide_true, Bool.true_and]
  rw [set, fieldMask, mask, value]
  split
  next h =>
    obtain ⟨hlo, hhi⟩ := h
    simp [hlo, show i < hi + 1 by omega, show i - lo < hi + 1 - lo by omega]
  next h =>
    have outside : (decide (lo ≤ i) && decide (i < hi + 1)) = false := by
      simp only [Bool.and_eq_false_iff, decide_eq_false_iff_not]
      omega
    rw [outside, Bool.false_and, Bool.false_and, Bool.not_false, Bool.and_true, Bool.or_false]

theorem field_setField (w : Word) (v : Nat) {hi lo : Nat} (h36 : hi < 36) :
    field (setField w hi lo v) hi lo = v % 2 ^ (hi + 1 - lo) := by
  refine Nat.eq_of_testBit_eq fun j => ?_
  rw [field_testBit, Nat.testBit_mod_two_pow]
  by_cases hj : j < hi + 1 - lo
  · rw [bit_setField _ _ _ _ (by omega), if_pos (by omega), Nat.add_sub_cancel_left]
  · simp [hj]

theorem field_eq_div_mod (w : Word) (hi lo : Nat) : field w hi lo = w.toNat / 2 ^ lo % 2 ^ (hi + 1 - lo) := by
  rw [field, fieldN, Nat.shiftRight_eq_div_pow]

/-- A bit that a written one does not clear takes the written value when it is RW, and stays when it is not (R13). -/
theorem Dev.storeClear_bit (d : Dev) (a : Nat) {rw w1c k : Nat} (v : Word) (hk : k < 36) (hclear : w1c.testBit k = false) :
    bit ((d.storeClear a rw w1c v).rd a) k = if rw.testBit k then bit v k else bit (d.rd a) k := by
  rw [Dev.storeClear, Dev.rd_wr, if_pos rfl]
  simp only [bit, BitVec.getLsbD_and, BitVec.getLsbD_or, BitVec.getLsbD_not, BitVec.getLsbD_ofNat, hclear, hk, decide_true, Bool.true_and,
    Bool.and_false, Bool.not_false, Bool.and_true]
  cases rw.testBit k <;> simp

/-! ### The GO of RDO.MAN_POUR (R144) -/

/-- While a request is pending a GO is ignored as a whole. -/
theorem Dev.ctlEff_manPour_pending (d : Dev) (f : Fuses) (p : Owner) (v : Word) (go : bit v 35 = true)
    (pending : bit (d.rd R.RDO_MAN_POUR) 34 = true) : d.ctlEff f p R.RDO_MAN_POUR v = d := by
  have ignored : d.writeIgnored R.RDO_MAN_POUR v = true := by
    change (bit v 35 && bit (d.rd R.RDO_MAN_POUR) 34) = true
    rw [go, pending]
    rfl
  rw [Dev.ctlEff, Dev.plainEff, if_pos ignored, Dev.cmdEff, if_pos ignored]
  rfl

/-- With none pending the fields are written, and the command follows. -/
theorem Dev.ctlEff_manPour_free (d : Dev) (f : Fuses) (p : Owner) (v : Word) (go : bit v 35 = true)
    (free : bit (d.rd R.RDO_MAN_POUR) 34 = false) :
    d.ctlEff f p R.RDO_MAN_POUR v = (d.storeClear R.RDO_MAN_POUR 0x300FFFF 0x200000000 v).manPour := by
  have stored : bit ((d.storeClear R.RDO_MAN_POUR 0x300FFFF 0x200000000 v).rd R.RDO_MAN_POUR) 34 = false :=
    (d.storeClear_bit _ v (by decide) (by decide)).trans free
  have taken : ∀ e : Dev, bit (e.rd R.RDO_MAN_POUR) 34 = false → e.writeIgnored R.RDO_MAN_POUR v = false := fun e he => by
    change (bit v 35 && bit (e.rd R.RDO_MAN_POUR) 34) = false
    rw [he, Bool.and_false]
  have plain : d.plainEff p R.RDO_MAN_POUR v = d.storeClear R.RDO_MAN_POUR 0x300FFFF 0x200000000 v := by
    rw [Dev.plainEff, taken d free]
    rfl
  rw [Dev.ctlEff, plain, Dev.cmdEff, taken _ stored]
  change (if bit v 35 then _ else _) = _
  rw [if_pos go]

theorem Dev.manPour_free (d : Dev) (free : bit (d.rd R.RDO_MAN_POUR) 34 = false) :
    d.manPour = { d.wb R.RDO_MAN_POUR 34 true with
      rdo := { d.rdo with queue := d.rdo.queue ++ [.manual (field (d.rd R.RDO_MAN_POUR) 25 24) (field (d.rd R.RDO_MAN_POUR) 15 0)] } } := by
  rw [Dev.manPour, Dev.bt, free]
  rfl

/-- A word with the bit of GO set besides. -/
theorem bit_or_go (v : Word) {k : Nat} (hk : k < 36) : bit (v ||| BitVec.ofNat 36 (2 ^ 35)) k = (bit v k || decide (k = 35)) := by
  rw [bit, BitVec.getLsbD_or, BitVec.getLsbD_ofNat, Nat.testBit_two_pow]
  simp [bit, hk, eq_comm]

theorem goBit (v : Word) : bit (v ||| BitVec.ofNat 36 (2 ^ 35)) 35 = true := by
  rw [bit_or_go v (by decide), decide_eq_true rfl, Bool.or_true]

/-- The command is the write with GO as one. -/
theorem exec_manPourGo (s : State) (p : Owner) (v : Word) (now : Now s.dev p) :
    exec (.manPourGo p v) s =
      s.wrote p R.RDO_MAN_POUR (s.ready.ctlEff s.fuses p R.RDO_MAN_POUR (v ||| BitVec.ofNat 36 (2 ^ 35))) := by
  have go : place 35 35 1 = BitVec.ofNat 36 (2 ^ 35) := by decide
  change s.write p R.RDO_MAN_POUR (v ||| place 35 35 1) = _
  rw [s.write_now p _ _ now (by decide) (by decide), go]

theorem exec_manPourGo_pending (s : State) (p : Owner) (v : Word) (now : Now s.dev p)
    (pending : bit (s.ready.rd R.RDO_MAN_POUR) 34 = true) : exec (.manPourGo p v) s = s.wrote p R.RDO_MAN_POUR s.ready := by
  rw [exec_manPourGo s p v now, Dev.ctlEff_manPour_pending _ _ _ _ (goBit v) pending]

theorem exec_manPourGo_free (s : State) (p : Owner) (v : Word) (now : Now s.dev p)
    (free : bit (s.ready.rd R.RDO_MAN_POUR) 34 = false) :
    let m := s.ready.storeClear R.RDO_MAN_POUR 0x300FFFF 0x200000000 (v ||| BitVec.ofNat 36 (2 ^ 35))
    exec (.manPourGo p v) s = s.wrote p R.RDO_MAN_POUR { m.wb R.RDO_MAN_POUR 34 true with
      rdo := { m.rdo with queue := m.rdo.queue ++ [.manual (v.toNat / 2 ^ 24 % 4) (v.toNat % 2 ^ 16)] } } := by
  intro m
  have stored : bit (m.rd R.RDO_MAN_POUR) 34 = false :=
    (s.ready.storeClear_bit _ _ (by decide) (by decide)).trans free
  have written : ∀ k < 35, (0x300FFFF).testBit k = true → (0x200000000).testBit k = false → bit (m.rd R.RDO_MAN_POUR) k = bit v k :=
    fun k hk hrw hclear => by
      rw [s.ready.storeClear_bit _ _ (by omega) hclear, if_pos hrw, bit_or_go v (by omega), decide_eq_false (by omega), Bool.or_false]
  have nodeBits : ∀ k < 26, 24 ≤ k → (0x300FFFF).testBit k = true ∧ (0x200000000).testBit k = false := by decide
  have windowBits : ∀ k < 16, (0x300FFFF).testBit k = true ∧ (0x200000000).testBit k = false := by decide
  have node : field (m.rd R.RDO_MAN_POUR) 25 24 = v.toNat / 2 ^ 24 % 4 := by
    refine (field_congr fun k hlo hhi => ?_).trans (field_eq_div_mod v 25 24)
    obtain ⟨hrw, hclear⟩ := nodeBits k (by omega) hlo
    exact written k (by omega) hrw hclear
  have windows : field (m.rd R.RDO_MAN_POUR) 15 0 = v.toNat % 2 ^ 16 := by
    refine (field_congr fun k _ hhi => ?_).trans ((field_eq_div_mod v 15 0).trans (by rw [Nat.pow_zero, Nat.div_one]))
    obtain ⟨hrw, hclear⟩ := windowBits k (by omega)
    exact written k (by omega) hrw hclear
  rw [exec_manPourGo s p v now, Dev.ctlEff_manPour_free _ _ _ _ (goBit v) free, Dev.manPour_free m stored, node, windows]

/-! ### What the start of a pour leaves alone -/

/-- The words that a pour start reads, and RDO.MAN_POUR: no start of a pour writes them. -/
def settingWord (a : Nat) : Prop := (0xD000 ≤ a ∧ a ≤ 0xD003) ∨ (0xD010 ≤ a ∧ a < 0xD030) ∨ a = R.CNV_CTRL

/-- No event that is posted or logged writes one of them. -/
theorem settingWord_apart {a : Nat} (code : Nat) (h : settingWord a) : apart code a := by
  unfold settingWord R.CNV_CTRL at h
  unfold apart R.EVT_COUNTc R.MGT_ALERT R.EVT_HST_ALERT R.LNK_VC3_DROPPED R.SEQ_THn_EVLOST
  exact ⟨by omega, by omega, by omega, by omega, fun n => by omega⟩

/-- What the steps of a pour start leave alone, but for the readout's own state. -/
structure Dev.Settled (s t : Dev) : Prop where
  tick : t.tick = s.tick
  tb : t.tb = s.tb
  tbRun : t.tbRun = s.tbRun
  stp : t.stp = s.stp
  rdo : t.rdo = s.rdo
  words : t.mem.words = s.mem.words
  rd : ∀ a, settingWord a → t.rd a = s.rd a

theorem Dev.Settled.refl (s : Dev) : Dev.Settled s s := ⟨rfl, rfl, rfl, rfl, rfl, rfl, fun _ _ => rfl⟩

theorem Dev.Settled.trans {s t u : Dev} (h : Dev.Settled s t) (k : Dev.Settled t u) : Dev.Settled s u :=
  ⟨k.tick.trans h.tick, k.tb.trans h.tb, k.tbRun.trans h.tbRun, k.stp.trans h.stp, k.rdo.trans h.rdo, k.words.trans h.words,
   fun a ha => (k.rd a ha).trans (h.rd a ha)⟩

/-- A change of the readout's own state carries over. -/
theorem Dev.Settled.onRdo {s t : Dev} (h : Dev.Settled s t) (f : Rdo → Rdo) : Dev.Settled (s.onRdo f) (t.onRdo f) :=
  ⟨h.tick, h.tb, h.tbRun, h.stp, congrArg f h.rdo, h.words, h.rd⟩

theorem Dev.Settled.stampOf {s t : Dev} (h : Dev.Settled s t) (k : Nat) : t.stampOf k = s.stampOf k := by
  rw [Dev.stampOf, Dev.stampOf, h.tick, h.tb, h.tbRun]

theorem Dev.Settled.fold {α : Type} (l : List α) (f : Dev → α → Dev) (h : ∀ s x, Dev.Settled s (f s x)) (s : Dev) :
    Dev.Settled s (l.foldl f s) := by
  induction l generalizing s with
  | nil => exact .refl s
  | cons x r ih => exact (h s x).trans (ih _)

theorem Dev.Calm.settled {s t : Dev} (h : Dev.Calm s t) (rd : ∀ a, settingWord a → t.rd a = s.rd a) : Dev.Settled s t :=
  ⟨h.tick, h.tb, h.tbRun, h.stp, h.rdo, congrArg Mem.words h.mem, rd⟩

theorem Dev.log_settled (s : Dev) (c x y : Nat) : Dev.Settled s (s.log c x y) :=
  (s.log_calm c x y).settled fun a h => s.log_rd c x y a (settingWord_apart c h)

theorem Dev.post_settled (s : Dev) (e : Nat) (st : Stamp) : Dev.Settled s (s.post e st) :=
  (s.post_calm e st).settled fun a h => s.post_rd e st a (settingWord_apart 0 h).2.2.2.2

/-- A write of another word. -/
theorem Dev.wr_settled (s : Dev) {b : Nat} (v : Word) (h : ¬ settingWord b) : Dev.Settled s (s.wr b v) :=
  (s.wr_calm b v).settled fun a ha => (s.rd_wr b a v).trans (if_neg fun (e : a = b) => h (e ▸ ha))

theorem Dev.discard_settled (s : Dev) (units : List Nat) : Dev.Settled s (s.discard units) := by
  unfold Dev.discard
  dsimp only
  split
  · exact .refl s
  · exact ⟨rfl, rfl, rfl, rfl, rfl, rfl, fun _ _ => rfl⟩

theorem subWord_not_setting (b k : Nat) : ¬ settingWord (R.CNV_SUBb_k b k) := by
  unfold settingWord R.CNV_SUBb_k R.CNV_CTRL
  omega

/-- Spares that enter service at a pour start change words of the converters (R132). -/
theorem Dev.cnvPourStart_settled (s : Dev) (banks : List Nat) : Dev.Settled s (s.cnvPourStart banks) :=
  (Dev.Settled.fold _ (fun (s : Dev) (m : Matching) => (s.wf (R.CNV_SUBb_k m.bank m.spare) 35 34 2).log Ev.CNV_SUBSTITUTED 0 0)
    (fun s m => (s.wr_settled _ (subWord_not_setting m.bank m.spare)).trans (Dev.log_settled _ _ _ _)) s).trans
    ⟨rfl, rfl, rfl, rfl, rfl, rfl, fun _ _ => rfl⟩

theorem Dev.placePour_settled {s t : Dev} {len serial b : Nat} {frame : Option Word} (h : s.placePour len frame serial = some (b, t)) :
    Dev.Settled s t := by
  obtain ⟨_, -, e⟩ := Option.map_eq_some_iff.mp h
  obtain ⟨-, rfl⟩ := Prod.mk.inj e
  exact ⟨rfl, rfl, rfl, rfl, rfl, rfl, fun _ _ => rfl⟩

/-- A dropped pour is counted and reported (R215). -/
theorem Dev.pourDropped_settled (s : Dev) (x y : Nat) : Dev.Settled s ((s.bump R.MEM_POUR_DROPPED).log Ev.MEM_RING_FULL x y) :=
  (s.wr_settled _ (by unfold settingWord R.MEM_POUR_DROPPED R.CNV_CTRL; omega)).trans (Dev.log_settled _ _ _ _)

/-! ### The snapshot of the windows (R142, R147) -/

/-- The valid windows of a mask, as their words stand. -/
def Dev.windowsOf (s : Dev) (mask : Nat) : List Win :=
  (((List.range 16).filter (fun k => mask.testBit k)).map (fun k => (⟨k, s.rd (R.RDO_WINk_POS k), s.rd (R.RDO_WINk_SIZE k)⟩ : Win))).filter Win.valid

theorem Dev.snapWindows_fst (s : Dev) (mask : Nat) : (s.snapWindows mask).1 = s.windowsOf mask := rfl

/-- The snapshot logs the windows it drops, and keeps their mask. -/
theorem Dev.snapWindows_snd (s : Dev) (mask : Nat) : ∃ (n : Nat) (t : Dev), Dev.Calm s t ∧ (∀ a, settingWord a → t.rd a = s.rd a) ∧
    (s.snapWindows mask).2 = t.onRdo (fun r => { r with winDropped := n }) :=
  ⟨_, _, Dev.Calm.fold _ (fun (s : Dev) (w : Win) => s.log Ev.WIN_INVALID w.k 0) (fun s _ => s.log_calm _ _ _) s,
    (Dev.Settled.fold _ (fun (s : Dev) (w : Win) => s.log Ev.WIN_INVALID w.k 0) (fun s _ => s.log_settled _ _ _) s).rd, rfl⟩

theorem Dev.windowsOf_congr {s t : Dev} (mask : Nat) (h : ∀ a, 0xD010 ≤ a → a < 0xD030 → t.rd a = s.rd a) : t.windowsOf mask = s.windowsOf mask := by
  unfold Dev.windowsOf R.RDO_WINk_POS R.RDO_WINk_SIZE
  congr 1
  refine List.map_congr_left fun k hk => ?_
  have : k < 16 := List.mem_range.mp (List.mem_filter.mp hk).1
  rw [h (0xD010 + 2 * k) (by omega) (by omega), h (0xD011 + 2 * k) (by omega) (by omega)]

/-! ### A pour begins (R140, R142, R163, R214) -/

/-- What the pour that starts in `s` takes then. -/
def Dev.Takes (s : Dev) (node : Nat) (cover : Zones) (ws : List Win) (q : Pour) : Prop :=
  q.node = node ∧ q.cover = cover ∧ q.start = s.tick ∧ q.stamp = s.stampOf s.tick ∧ q.res = field (s.rd R.CNV_CTRL) 1 0 ∧
  q.cg = b2n (bit (s.rd R.CNV_CTRL) (8 + node)) ∧ q.wins = ws ∧ q.dark = (bit (s.rd R.RDO_CTRL) 1 && cover.getLsbD s.stp.refZone) ∧
  q.rowsLeft = pourRows q.dark cover (neededRows ws)

/-- The readout with a running pour. -/
def Rdo.pouring (r : Rdo) (q : Pour) : Rdo :=
  { r with pour := some q, idleDone := 0, idleWant := none, lastInf := q.inf, lastNode := q.node }

/-- The readout's own words of a pour start are none of the settings. -/
theorem startWords_not_setting : ¬ settingWord R.CNV_STATUS ∧ ¬ settingWord R.RDO_LAST_START_LO ∧ ¬ settingWord (R.RDO_LAST_START_LO + 1) := by
  unfold settingWord R.CNV_STATUS R.RDO_LAST_START_LO R.CNV_CTRL
  omega

/-- The words, latches and events of a pour start. -/
theorem Dev.startWords_settled (s : Dev) (res : Nat) (stamp : Stamp) :
    Dev.Settled s ((((s.wf R.CNV_STATUS 1 0 res).wr72 R.RDO_LAST_START_LO stamp).stale R.RDO_LAST_INFO 35).post 6 stamp) := by
  obtain ⟨status, startLo, startHi⟩ := startWords_not_setting
  exact (s.wr_settled _ status).trans <| (Dev.wr_settled _ _ startLo).trans <| (Dev.wr_settled _ _ startHi).trans <|
    ((Dev.stale_calm _ _ _).settled fun _ _ => rfl).trans (Dev.post_settled _ _ _)

/-- The area of a pour, or none and the report that it is dropped (R214, R215). -/
def Dev.takeArea (s : Dev) (len : Nat) (manual : Bool) (num : Word) (serial node : Nat) : Option Nat × Dev :=
  match s.placePour len (if manual then none else some num) serial with
  | some (b, s) => (some b, s)
  | none => (none, (s.bump R.MEM_POUR_DROPPED).log Ev.MEM_RING_FULL node (if manual then 0xFFFFFFFFF else num.toNat))

theorem Dev.takeArea_settled (s : Dev) (len : Nat) (manual : Bool) (num : Word) (serial node : Nat) :
    Dev.Settled s (s.takeArea len manual num serial node).2 := by
  unfold Dev.takeArea
  split
  next placed => exact Dev.placePour_settled placed
  next => exact s.pourDropped_settled _ _

/-- The pour that starts in `s`, when `s1` is the block whose spares have entered service and `x` the same with its area taken. -/
def Dev.newPour (s s1 : Dev) (x : Option Nat × Dev) (manual : Bool) (num : Word) (inf node : Nat) (cover judge : Zones) (ws : List Win) : Pour :=
  let dark := s.bt R.RDO_CTRL 1 && cover.getLsbD s.stp.refZone
  let rows := pourRows dark cover (neededRows ws)
  let aged := s1.agedZones node s.tick judge
  { manual := manual, num := num, inf := inf, node := node, cover := cover, res := s.fd R.CNV_CTRL 1 0,
    cg := b2n (s.bt R.CNV_CTRL (8 + node)), dark := dark, wins := ws, start := s.tick, stamp := x.2.stampOf s.tick, base := x.1.getD 0,
    len := areaWords (s.fd R.CNV_CTRL 1 0) dark (neededRows ws).length ws, dropped := x.1.isNone, aged := aged,
    agedFlag := decide (aged ≠ 0) || s1.rd R.STP_AGE_LIMIT = 0, rowsLeft := rows, total := rows, needed := neededRows ws,
    defects := x.2.badConvs, edgeBad := x.2.cnv.edgeBad, served := x.2.served }

/-- The readout takes a pour with the settings of the moment, and nothing else that they hang on changes. -/
theorem Dev.beginPour_spec (s : Dev) (manual : Bool) (num : Word) (serial inf node : Nat) (cover judge : Zones) (ws : List Win) :
    ∃ q : Pour, s.Takes node cover ws q ∧ q.manual = manual ∧ q.num = num ∧ q.inf = inf ∧
      Dev.Settled (s.onRdo (·.pouring q)) (s.beginPour s.tick manual num serial inf node cover judge ws) := by
  let dark := s.bt R.RDO_CTRL 1 && cover.getLsbD s.stp.refZone
  let banks := (List.range 4).filter (fun b => (pourRows dark cover (neededRows ws)).any (fun p => p % 4 == b))
  let s1 := (s.discard (banks.map (72 + ·))).cnvPourStart banks
  let x := s1.takeArea (areaWords (s.fd R.CNV_CTRL 1 0) dark (neededRows ws).length ws) manual num serial node
  let q := s.newPour s1 x manual num inf node cover judge ws
  have settled : Dev.Settled s x.2 := (s.discard_settled _).trans <| (Dev.cnvPourStart_settled _ banks).trans <| Dev.takeArea_settled ..
  have begun : s.beginPour s.tick manual num serial inf node cover judge ws =
      ((((x.2.onRdo (·.pouring q)).wf R.CNV_STATUS 1 0 q.res).wr72 R.RDO_LAST_START_LO q.stamp).stale R.RDO_LAST_INFO 35).post 6 q.stamp := rfl
  refine ⟨q, ⟨rfl, rfl, rfl, settled.stampOf _, rfl, rfl, rfl, rfl, rfl⟩, rfl, rfl, rfl, ?_⟩
  rw [begun]
  exact (settled.onRdo _).trans (Dev.startWords_settled _ _ _)

/-- What a block has become when the pour `q` has started in `d`, with `rest` left in the queue. -/
def Dev.Poured (d : Dev) (rest : List PourReq) (y : Dev) (node : Nat) (cover : Zones) (ws : List Win) (q : Pour) : Prop :=
  y.rdo.pour = some q ∧ d.Takes node cover ws q ∧ y.rdo.idleWant = none ∧ y.rdo.queue = rest ∧ y.tick = d.tick ∧ y.stp = d.stp ∧
  y.mem.words = d.mem.words

/-- The windows are taken and the pour begins. -/
theorem Dev.snapPour_spec (s : Dev) (manual : Bool) (num : Word) (serial inf node : Nat) (cover judge : Zones) (mask : Nat) :
    let y := (s.snapWindows mask).2.beginPour s.tick manual num serial inf node cover judge (s.snapWindows mask).1
    ∃ q : Pour, s.Poured s.rdo.queue y node cover (s.windowsOf mask) q ∧ q.manual = manual ∧ q.num = num ∧ q.inf = inf ∧
      y.rdo.lastTry = s.rdo.lastTry ∧ y.rd R.RDO_MAN_POUR = s.rd R.RDO_MAN_POUR := by
  obtain ⟨n, t, calm, rd, snapped⟩ := s.snapWindows_snd mask
  have settled := (calm.settled rd).onRdo (fun r => { r with winDropped := n })
  rw [← snapped] at settled
  obtain ⟨q, takes, hm, hn, hi, begun⟩ := (s.snapWindows mask).2.beginPour_spec manual num serial inf node cover judge (s.windowsOf mask)
  rw [settled.tick] at begun
  have all := (settled.onRdo (·.pouring q)).trans begun
  have ctrl : settingWord R.RDO_CTRL ∧ settingWord R.CNV_CTRL ∧ settingWord R.RDO_MAN_POUR := by
    unfold settingWord R.RDO_CTRL R.CNV_CTRL R.RDO_MAN_POUR
    omega
  obtain ⟨rdoCtrl, cnvCtrl, manPour⟩ := ctrl
  have takes' : s.Takes node cover (s.windowsOf mask) q := by
    unfold Dev.Takes at takes ⊢
    rwa [settled.tick, settled.stampOf, settled.rd _ rdoCtrl, settled.rd _ cnvCtrl, settled.stp] at takes
  have queue := congrArg Rdo.queue all.rdo
  have lastTry := congrArg Rdo.lastTry all.rdo
  exact ⟨q, ⟨congrArg Rdo.pour all.rdo, takes', congrArg Rdo.idleWant all.rdo, queue, all.tick, all.stp, all.words⟩,
    hm, hn, hi, lastTry, all.rd _ manPour⟩

/-! ### The gate of a pour start (R140, R145, R472) -/

/-- A line-period boundary with RDO enabled, no pour running and nothing tried there yet. -/
def Dev.Boundary (d : Dev) : Prop :=
  d.seq.lpStart = some d.tick ∧ d.rdo.pour = none ∧ bit (d.rd R.RDO_CTRL) 0 = true ∧ d.rdo.lastTry ≠ some d.tick

/-- The readout has tried this boundary. -/
def Dev.tried (d : Dev) : Dev := d.onRdo (fun r => { r with lastTry := some d.tick })

/-- On a boundary the kettle, once asked, decides. -/
theorem Dev.pourGate_asked (d : Dev) {q : PourReq} {rest : List PourReq} {w : Nat} (h : d.Boundary) (hq : d.rdo.queue = q :: rest)
    (asked : d.rdo.idleWant = some w) :
    d.pourGate = if d.rdo.idleDone < w then (false, d.tried.onRdo (fun r => { r with idleDone := r.idleDone + 1 })) else (true, d.tried) := by
  obtain ⟨start, idle, enabled, fresh⟩ := h
  have ask : d.tried.askKettle = (w, d.tried) := by
    have want : d.tried.rdo.idleWant = some w := asked
    rw [Dev.askKettle, want]
  have opens : d.seq.lpStart = some d.tick ∧ d.rdo.pour.isNone ∧ d.bt R.RDO_CTRL 0 ∧ d.rdo.lastTry ≠ some d.tick ∧
      (d.rdo.serving.isSome ∨ !d.rdo.queue.isEmpty) :=
    ⟨start, by rw [idle]; rfl, enabled, fresh, .inr (by rw [hq]; rfl)⟩
  rw [Dev.pourGate, if_pos opens]
  change (if d.tried.askKettle.2.rdo.idleDone < d.tried.askKettle.1
    then (false, d.tried.askKettle.2.onRdo (fun r => { r with idleDone := r.idleDone + 1 })) else (true, d.tried.askKettle.2)) = _
  rw [ask]
  rfl

/-- The idle line periods are past: the gate is open. -/
theorem Dev.pourGate_open (d : Dev) {q : PourReq} {rest : List PourReq} (h : d.Boundary) (hq : d.rdo.queue = q :: rest)
    (past : d.rdo.idleWant = some d.rdo.idleDone) : d.pourGate = (true, d.tried) := by
  rw [d.pourGate_asked h hq past, if_neg (Nat.lt_irrefl _)]

/-- Off a boundary, with a pour running or ENABLE zero nothing is tried. -/
theorem Dev.pourGate_shut (d : Dev) (h : d.seq.lpStart ≠ some d.tick ∨ d.rdo.pour.isSome = true ∨ bit (d.rd R.RDO_CTRL) 0 = false) :
    d.pourGate = (false, d) := by
  rw [Dev.pourGate, if_neg]
  rintro ⟨start, idle, enabled, -, -⟩
  rcases h with h | h | h
  · exact h start
  · rw [Option.isNone_iff_eq_none.mp idle] at h
    exact Bool.false_ne_true h
  · exact Bool.false_ne_true (h.symm.trans enabled)

/-! ### A manual pour at the head of the queue (R144) -/

theorem Dev.pourStart_manual_shut (d t : Dev) {node mask : Nat} {rest : List PourReq} (hs : d.rdo.serving = none)
    (hq : d.rdo.queue = .manual node mask :: rest) (gate : d.pourGate = (false, t)) : d.pourStart = t := by
  simp only [Dev.pourStart, hs, hq, gate, Bool.false_eq_true, if_false, Bool.not_false, if_true]

theorem Dev.pourStart_manual_open (d : Dev) {node mask : Nat} {rest : List PourReq} (hs : d.rdo.serving = none)
    (hq : d.rdo.queue = .manual node mask :: rest) (gate : d.pourGate = (true, d.tried)) :
    d.pourStart = d.tried.startManual d.tick node mask rest := by
  have serving : d.tried.rdo.serving = none := hs
  have queue : d.tried.rdo.queue = .manual node mask :: rest := hq
  have taken : d.tried.takeRecord = d.tried := by simp only [Dev.takeRecord, serving, queue]
  simp only [Dev.pourStart, hs, hq, gate, taken, serving, queue, Bool.false_eq_true, if_false, Bool.not_true]
  rfl

/-- The manual request leaves the queue. -/
def Dev.manualTaken (d : Dev) (rest : List PourReq) : Dev := d.onRdo (fun r => { r with queue := rest, lastTry := none })

/-- A node that a record holds, or an empty one, refuses it. -/
theorem Dev.startManual_refused (d : Dev) (t : Nat) {node : Nat} (mask : Nat) (rest : List PourReq)
    (h : d.nodeHeldByRecord node = true ∨ d.holdOf node = 0) :
    ∃ why, d.startManual t node mask rest = ((d.manualTaken rest).wf R.RDO_MAN_POUR 34 33 1).log Ev.POUR_REFUSED node why := by
  by_cases held : d.nodeHeldByRecord node = true
  · exact ⟨1, if_pos held⟩
  · exact ⟨2, (if_neg held).trans (if_pos (h.resolve_left held))⟩

theorem Dev.steepBlocks_clear (d : Dev) {node : Nat} {cover : Zones} (clear : (d.steepingInto node ||| d.firedInto node) &&& cover = 0) :
    ¬ d.steepBlocks node cover = true := by
  rw [Dev.steepBlocks, decide_eq_true_eq]
  exact fun blocked => blocked clear

/-- A steep into its zones, running or fired, delays it (R141). -/
theorem Dev.startManual_blocked (d : Dev) (t : Nat) {node : Nat} (mask : Nat) (rest : List PourReq) (free : d.nodeHeldByRecord node = false)
    (holds : d.holdOf node ≠ 0) (blocked : (d.steepingInto node ||| d.firedInto node) &&& d.holdOf node ≠ 0) :
    d.startManual t node mask rest = d := by
  have blocks : d.steepBlocks node (d.holdOf node) = true := decide_eq_true blocked
  rw [Dev.startManual, if_neg (by rw [free]; exact Bool.false_ne_true), if_neg holds, if_pos blocks]

/-- Otherwise PENDING falls, the windows are taken, and its pour begins over the zones the node holds. -/
theorem Dev.startManual_starts (d : Dev) {node : Nat} (mask : Nat) (rest : List PourReq) (free : d.nodeHeldByRecord node = false)
    (holds : d.holdOf node ≠ 0) (clear : (d.steepingInto node ||| d.firedInto node) &&& d.holdOf node = 0) :
    let s := (d.manualTaken rest).wb R.RDO_MAN_POUR 34 false
    d.startManual d.tick node mask rest = (s.snapWindows mask).2.beginPour s.tick true (BitVec.allOnes 36) 0 0 node (d.holdOf node) (d.holdOf node)
      (s.snapWindows mask).1 := by
  have unblocked := d.steepBlocks_clear clear
  rw [Dev.startManual, if_neg (by rw [free]; exact Bool.false_ne_true), if_neg holds, if_neg unblocked]
  rfl

/-- The fall of PENDING is of no account to what a pour takes. -/
theorem Dev.poured_of_pendingCleared {d : Dev} {rest : List PourReq} {y : Dev} {node mask : Nat} {cover : Zones} {q : Pour}
    (h : (d.wb R.RDO_MAN_POUR 34 false).Poured rest y node cover ((d.wb R.RDO_MAN_POUR 34 false).windowsOf mask) q) :
    d.Poured rest y node cover (d.windowsOf mask) q := by
  have rd : ∀ a, a ≠ R.RDO_MAN_POUR → (d.wb R.RDO_MAN_POUR 34 false).rd a = d.rd a := fun a ha => d.wf_rd _ _ _ _ _ ha
  unfold Dev.Poured Dev.Takes at h
  rw [Dev.windowsOf_congr mask fun a lo _ => rd a (by unfold R.RDO_MAN_POUR; omega), rd R.CNV_CTRL (by decide), rd R.RDO_CTRL (by decide)] at h
  exact h

/-! ### A record at the head of the queue (R140, R554) -/

/-- The record is in service. -/
def Dev.serves (d : Dev) (r : FrameRecord) (rest : List PourReq) : Dev :=
  d.tried.onRdo (fun x => { x with queue := rest, serving := some ⟨r, 0, none, []⟩ })

theorem Dev.takeRecord_tried (d : Dev) {r : FrameRecord} {rest : List PourReq} (hs : d.rdo.serving = none) (hq : d.rdo.queue = .frame r :: rest) :
    d.tried.takeRecord = d.serves r rest := by
  have serving : d.tried.rdo.serving = none := hs
  have queue : d.tried.rdo.queue = .frame r :: rest := hq
  simp only [Dev.takeRecord, serving, queue]
  rfl

theorem Dev.pourStart_frame_open (d : Dev) {r : FrameRecord} {rest : List PourReq} {i : Nat} (hs : d.rdo.serving = none)
    (hq : d.rdo.queue = .frame r :: rest) (present : r.nextPresent 0 = some i) (gate : d.pourGate = (true, d.tried)) :
    d.pourStart = (d.serves r rest).startRecordPour d.tick ⟨r, 0, none, []⟩ := by
  have serving : (d.serves r rest).rdo.serving = some ⟨r, 0, none, []⟩ := rfl
  simp only [Dev.pourStart, hs, hq, present, gate, Dev.takeRecord_tried d hs hq, serving, Option.isNone_some, Bool.false_eq_true, if_false,
    Bool.not_true]
  rfl

theorem Dev.pourStart_frame_empty (d : Dev) {r : FrameRecord} {rest : List PourReq} (hs : d.rdo.serving = none)
    (hq : d.rdo.queue = .frame r :: rest) (empty : r.nextPresent 0 = none) : d.pourStart = d := by
  simp only [Dev.pourStart, hs, hq, empty, Option.isNone_none, if_true]

/-- A record with no present infusion ends with the windows of the moment (R554). -/
theorem Dev.emptyTake_open (d : Dev) {r : FrameRecord} {rest : List PourReq} (hs : d.rdo.serving = none) (hq : d.rdo.queue = .frame r :: rest)
    (empty : r.nextPresent 0 = none) (gate : d.pourGate = (true, d.tried)) :
    let x := (d.serves r rest).snapWindows (field (d.rd R.RDO_WIN_MASK) 15 0)
    d.emptyTake = (x.2.recordEnds ⟨r, 0, none, []⟩ x.1).onRdo (fun r => { r with lastTry := none }) := by
  have serving : (d.serves r rest).rdo.serving = some ⟨r, 0, none, []⟩ := rfl
  simp only [Dev.emptyTake, hs, hq, empty, gate, Dev.takeRecord_tried d hs hq, serving, Option.isSome_none, Bool.false_eq_true, if_false,
    Bool.not_true]
  rfl

/-- The first pour of a record: after it begins only the record in service, and a word of STP that shows it AGED, change (R111). -/
theorem Dev.startRecordPour_first (d : Dev) {r : FrameRecord} {i : Nat} (present : r.nextPresent 0 = some i)
    (clear : (d.steepingInto (r.infAt i).node ||| d.firedInto (r.infAt i).node) &&& (r.infAt i).cover = 0) :
    let x := r.infAt i
    let w := d.snapWindows (field (d.rd R.RDO_WIN_MASK) 15 0)
    let z := w.2.beginPour d.tick false r.num r.serial i x.node x.cover x.steeped w.1
    ∃ (u : Dev) (sv : Serving), d.startRecordPour d.tick ⟨r, 0, none, []⟩ = u.onRdo (fun x => { x with serving := some sv }) ∧
      Dev.Calm z u ∧ sv.nextInf = i + 1 ∧ sv.wins = some w.1 ∧ sv.rec'.num = r.num := by
  intro x w z
  have unblocked : ¬ d.steepBlocks x.node x.cover = true := d.steepBlocks_clear clear
  let sv : Serving := ⟨r, i + 1, some w.1, []⟩
  have shape : d.startRecordPour d.tick ⟨r, 0, none, []⟩ =
      (let m := if (z.rdo.pour.map (·.agedFlag)).getD false then z.markAged sv i else (sv, z)
       m.2.onRdo (fun x => { x with serving := some m.1 })) := by
    simp only [Dev.startRecordPour, present]
    rw [if_neg unblocked]
    rfl
  rw [shape]
  split
  · refine ⟨_, _, rfl, ?_, rfl, rfl, rfl⟩
    unfold Dev.markAged
    dsimp only
    split
    · exact z.wr_calm _ _
    · exact .refl z
  · exact ⟨z, sv, rfl, .refl z, rfl, rfl, rfl⟩

/-! ### Pours start on line-period boundaries -/

/-- A pour of the head of the queue may start. -/
def Dev.MayStart (d : Dev) : Prop := d.Boundary ∧ d.rdo.serving = none ∧ d.rdo.idleWant = some d.rdo.idleDone

theorem Dev.pourStart_manual (d : Dev) {node : Nat} (mask : Nat) {rest : List PourReq} (may : d.MayStart)
    (hq : d.rdo.queue = .manual node mask :: rest) (free : d.nodeHeldByRecord node = false) (holds : d.holdOf node ≠ 0)
    (clear : (d.steepingInto node ||| d.firedInto node) &&& d.holdOf node = 0) :
    ∃ q : Pour, d.Poured rest d.pourStart node (d.holdOf node) (d.windowsOf mask) q ∧ q.manual = true ∧ q.num = BitVec.allOnes 36 ∧
      d.pourStart.rdo.lastTry = none ∧ bit (d.pourStart.rd R.RDO_MAN_POUR) 34 = false := by
  obtain ⟨boundary, hs, past⟩ := may
  rw [d.pourStart_manual_open hs hq (d.pourGate_open boundary hq past), show d.tick = d.tried.tick from rfl,
    d.tried.startManual_starts mask rest free holds clear]
  obtain ⟨q, poured, hm, hn, -, hl, hp⟩ := ((d.tried.manualTaken rest).wb R.RDO_MAN_POUR 34 false).snapPour_spec true (BitVec.allOnes 36) 0 0 node
    (d.tried.holdOf node) (d.tried.holdOf node) mask
  refine ⟨q, Dev.poured_of_pendingCleared (d := d.tried.manualTaken rest) poured, hm, hn, hl, ?_⟩
  rw [hp, Dev.wb, Dev.wf, Dev.rd_wr, if_pos rfl]
  exact bit_setField _ 34 34 (b2n false) (by decide)

theorem Dev.pourStart_refused (d : Dev) {node : Nat} (mask : Nat) {rest : List PourReq} (may : d.MayStart)
    (hq : d.rdo.queue = .manual node mask :: rest) (h : d.nodeHeldByRecord node = true ∨ d.holdOf node = 0) :
    d.pourStart.rdo.pour = none ∧ d.pourStart.rdo.queue = rest ∧ d.pourStart.stp = d.stp ∧ d.pourStart.mem = d.mem ∧
      field (d.pourStart.rd R.RDO_MAN_POUR) 34 33 = 1 := by
  obtain ⟨boundary, hs, past⟩ := may
  obtain ⟨why, refused⟩ := d.tried.startManual_refused d.tick mask rest h
  rw [d.pourStart_manual_open hs hq (d.pourGate_open boundary hq past), refused]
  have calm := ((d.tried.manualTaken rest).wf R.RDO_MAN_POUR 34 33 1).log_calm Ev.POUR_REFUSED node why
  obtain ⟨-, idle, -, -⟩ := boundary
  refine ⟨(congrArg Rdo.pour calm.rdo).trans idle, congrArg Rdo.queue calm.rdo, calm.stp, calm.mem, ?_⟩
  rw [Dev.log_rd _ _ _ _ _ (settingWord_apart _ (.inl (by decide))), Dev.wf, Dev.rd_wr, if_pos rfl]
  exact field_setField _ 1 (by decide)

theorem Dev.pourStart_frame (d : Dev) {r : FrameRecord} {rest : List PourReq} {i : Nat} (may : d.MayStart) (hq : d.rdo.queue = .frame r :: rest)
    (present : r.nextPresent 0 = some i) (clear : (d.steepingInto (r.infAt i).node ||| d.firedInto (r.infAt i).node) &&& (r.infAt i).cover = 0) :
    ∃ (q : Pour) (sv : Serving),
      d.Poured rest d.pourStart (r.infAt i).node (r.infAt i).cover (d.windowsOf (field (d.rd R.RDO_WIN_MASK) 15 0)) q ∧ q.manual = false ∧
      q.num = r.num ∧ q.inf = i ∧ d.pourStart.rdo.serving = some sv ∧ sv.nextInf = i + 1 ∧ sv.wins = some q.wins ∧ sv.rec'.num = r.num := by
  obtain ⟨boundary, hs, past⟩ := may
  obtain ⟨u, sv, starts, calm, hnext, hwins, hnum⟩ := (d.serves r rest).startRecordPour_first present clear
  rw [d.pourStart_frame_open hs hq present (d.pourGate_open boundary hq past), show d.tick = (d.serves r rest).tick from rfl, starts]
  obtain ⟨q, ⟨hpour, takes, hwant, hqueue, htick, hstp, hwords⟩, hm, hn, hi, -, -⟩ := (d.serves r rest).snapPour_spec false r.num r.serial i
    (r.infAt i).node (r.infAt i).cover (r.infAt i).steeped (field (d.rd R.RDO_WIN_MASK) 15 0)
  have windows : q.wins = d.windowsOf (field (d.rd R.RDO_WIN_MASK) 15 0) := by
    obtain ⟨-, -, -, -, -, -, h, -, -⟩ := takes
    exact h
  refine ⟨q, sv, ⟨?_, takes, ?_, ?_, calm.tick.trans htick, calm.stp.trans hstp, (congrArg Mem.words calm.mem).trans hwords⟩, hm, hn, hi, rfl,
    hnext, hwins.trans (congrArg some windows.symm), hnum⟩
  · exact (congrArg Rdo.pour calm.rdo).trans hpour
  · exact (congrArg Rdo.idleWant calm.rdo).trans hwant
  · exact (congrArg Rdo.queue calm.rdo).trans hqueue

theorem Dev.emptyTake_ready (d : Dev) {r : FrameRecord} {rest : List PourReq} (may : d.MayStart) (hq : d.rdo.queue = .frame r :: rest)
    (empty : r.nextPresent 0 = none) :
    d.emptyTake.rdo.queue = rest ∧ d.emptyTake.rdo.serving = none ∧
      d.emptyTake.rdo.ready = d.rdo.ready ++ [⟨r, d.windowsOf (field (d.rd R.RDO_WIN_MASK) 15 0), []⟩] ∧ d.emptyTake.rdo.pour = none ∧
      d.emptyTake.stp = d.stp ∧ d.emptyTake.mem = d.mem := by
  obtain ⟨boundary, hs, past⟩ := may
  obtain ⟨n, t, calm, -, snapped⟩ := (d.serves r rest).snapWindows_snd (field (d.rd R.RDO_WIN_MASK) 15 0)
  rw [d.emptyTake_open hs hq empty (d.pourGate_open boundary hq past)]
  rw [snapped]
  obtain ⟨-, idle, -, -⟩ := boundary
  have ready : t.rdo.ready = (d.serves r rest).rdo.ready := congrArg Rdo.ready calm.rdo
  exact ⟨congrArg Rdo.queue calm.rdo, rfl, congrArg (· ++ [_]) ready,
    (congrArg Rdo.pour calm.rdo).trans idle, calm.stp, calm.mem⟩

theorem exec_pourStart (s : State) (h : s.dev.dark = false) : exec .pourStart s = s.goes s.dev.hold.pourStart :=
  s.onRun_light (·.pourStart) h

/-- A start that finds nothing to do is one also while the device is dark. -/
theorem exec_pourStart_stays (s : State) (h : s.dev.hold.pourStart = s.dev.hold) : exec .pourStart s = s.stays := by
  by_cases dark : s.dev.dark = true
  · exact s.onRun_dark (·.pourStart) dark
  · rw [exec_pourStart s (Bool.not_eq_true _ ▸ dark), h]
    rfl

/-- Settles O39: the gate opens on the boundary (`Dev.pourGate_open`), and the pour takes the settings of that moment (`Dev.snapPour_spec`). -/
theorem poursStart : Obligations.PoursStart := by
  unfold Obligations.PoursStart
  intro s p v node mask i rest r d m mayStart steeps wins x poured
  have may : mayStart → s.dev.dark = false ∧ d.MayStart := fun ⟨light, start, idle, hs, enabled, fresh, past⟩ =>
    ⟨light, ⟨start, idle, enabled, fresh⟩, hs, past⟩
  have flat : ∀ {y node cover ws q}, d.Poured rest y node cover ws q → poured y node cover ws q :=
    fun ⟨pour, ⟨node, cover, start, stamp, res, cg, wins, dark, rows⟩, after⟩ =>
      ⟨pour, node, cover, start, stamp, res, cg, wins, dark, rows, after⟩
  refine ⟨exec_manPourGo_pending s p v, exec_manPourGo_free s p v, fun hs hq shut => ?_, fun h hq free holds clear => ?_,
    fun h hq free holds blocked => ?_, fun w light start idle enabled fresh hs hq want short => ?_, fun h hq refused => ?_,
    fun h hq present clear => ?_, fun h hq empty => ?_⟩
  · exact exec_pourStart_stays s (d.pourStart_manual_shut d hs hq (d.pourGate_shut shut))
  · obtain ⟨light, may⟩ := may h
    obtain ⟨q, hp, hrest⟩ := d.pourStart_manual mask may hq free holds clear
    exact ⟨_, q, exec_pourStart s light, flat hp, hrest⟩
  · obtain ⟨light, boundary, hs, past⟩ := may h
    rw [exec_pourStart s light, Dev.pourStart_manual_open _ hs hq (Dev.pourGate_open _ boundary hq past),
      Dev.startManual_blocked d.tried _ mask rest free holds blocked]
    rfl
  · have gate := d.pourGate_asked ⟨start, idle, enabled, fresh⟩ hq want
    rw [if_pos short] at gate
    rw [exec_pourStart s light, Dev.pourStart_manual_shut _ _ hs hq gate]
    rfl
  · obtain ⟨light, may⟩ := may h
    exact ⟨_, exec_pourStart s light, d.pourStart_refused mask may hq refused⟩
  · obtain ⟨light, may⟩ := may h
    obtain ⟨q, sv, hp, hrest⟩ := d.pourStart_frame may hq present clear
    exact ⟨_, q, sv, exec_pourStart s light, flat hp, hrest⟩
  · obtain ⟨light, may⟩ := may h
    obtain ⟨boundary, hs, past⟩ := may
    exact ⟨exec_pourStart_stays s (d.pourStart_frame_empty hs hq empty), _, s.onRun_light (·.emptyTake) light,
      d.emptyTake_ready ⟨boundary, hs, past⟩ hq empty⟩

end Sys2Proof.Machine

end

section
/-! The pixel laws of PIP (O41): rounding, stages 1 to 4, the blend, companding and the output field. -/

namespace Sys2Proof.Machine

/-! ### Rounding (R169) -/

/-- A power of two is the same number among the naturals and the integers. -/
theorem natCast_two_pow (k : Nat) : ((2 ^ k : Nat) : Int) = 2 ^ k := Int.natCast_pow 2 k

theorem two_pow_pos (k : Nat) : (0 : Int) < 2 ^ k := Int.pow_pos (n := 2) (by decide)

/-- The rounded shift is the integer whose multiple of `2^k` is the nearest, a half rounding up. -/
theorem rnd_bounds (a : Int) {k : Nat} (h : 1 ≤ k) :
    (2 : Int) ^ k * rnd a k ≤ a + 2 ^ (k - 1) ∧ a + 2 ^ (k - 1) < (2 : Int) ^ k * (rnd a k + 1) := by
  have pos := two_pow_pos k
  have shifted : rnd a k = (a + 2 ^ (k - 1)) / 2 ^ k := by
    rw [rnd, if_neg (by omega), natCast_two_pow]
  rw [shifted]
  exact ⟨Int.mul_ediv_self_le (Int.ne_of_gt pos), by rw [Int.mul_add, Int.mul_one]; exact Int.lt_mul_ediv_self_add pos⟩

/-! ### Stages 1 and 2 of an unbinned pixel (R171, R173) -/

/-- An unbinned window in mean mode. -/
structure Win.Unbinned (w : Win) : Prop where
  bx : w.bx = 1
  by' : w.by' = 1
  mean : w.sum = false

/-- The clamp of an unbinned row is that of the row. -/
theorem binClamp_unbinned {w : Win} (h : w.Unbinned) (b : Nat → Nat) (y : Nat) : binClamp w b y = b y := by
  simp [binClamp, h.by', h.mean]

/-- The one sample of an unbinned pixel whose zone is covered. -/
theorem binSamples_unbinned {w : Win} (h : w.Unbinned) (f : PourFacts) (x y : Nat) (covered : f.cover.getLsbD (zoneAt x y) = true) :
    binSamples f w x y = [(x, y)] := by
  simp [binSamples, Win.n, h.bx, h.by', covered]

/-- The offset over one sample is that of its bank and column. -/
theorem binOffset_single (f : PourFacts) {w : Win} (h : w.Unbinned) (ofs : Nat → Nat → Int) (x y : Nat) :
    binOffset f w ofs [(x, y)] = scaledOffset f.res (ofs (y % 4) x) := by
  simp [binOffset, h.mean]

/-- Without stage 3 no pixel is marked: an over-range one is saturated, any other loses its clamp and its column offset. -/
theorem stage12_unbinned {t : StageSet} {f : PourFacts} {w : Win} (clamp : Nat → Nat) {expo : Nat → Nat} {j i : Nat} (code : Nat)
    (h : w.Unbinned) (plain : t.defect = false) (covered : f.cover.getLsbD (zoneAt (w.colOf i) (w.rowOf j)) = true)
    (exposed : expo (zoneAt (w.colOf i) (w.rowOf j)) ≠ 0) :
    stage12 t f w clamp expo j i none = { sat := true } ∧
    stage12 t f w clamp expo j i (some code) = { v := (16 * code : Int) - clamp (w.rowOf j) -
      (if t.colofs then scaledOffset f.res (t.ofs (w.rowOf j % 4) (w.colOf i)) else 0) } := by
  have present : (!f.cover.getLsbD (zoneAt (w.colOf i) (w.rowOf j)) || decide (expo (zoneAt (w.colOf i) (w.rowOf j)) = 0)) = false := by
    simp [covered, exposed]
  unfold stage12
  dsimp only
  rw [present, plain, binClamp_unbinned h, binSamples_unbinned h f _ _ covered, binOffset_single f h]
  refine ⟨rfl, ?_⟩
  cases t.colofs <;> simp

/-! ### Stage 3: the mean of two good neighbours (R175) -/

/-- A pixel that a replacement may take its value from. -/
def Px.Good (p : Px) : Prop := p.bad = false ∧ p.absent = false

theorem nearestGood_cons {p : Px} (h : p.Good) (l : List Px) : nearestGood (p :: l) = some p := by
  obtain ⟨good, present⟩ := h
  simp [nearestGood, good, present]

theorem before_neighbour (pre post : List Px) (l q : Px) :
    ∃ far, before (pre ++ l :: q :: post) (pre.length + 1) 4 = l :: far := by
  have taken : (pre ++ l :: q :: post).take (pre.length + 1) = pre ++ [l] := by
    rw [show pre ++ l :: q :: post = (pre ++ [l]) ++ q :: post by simp only [List.append_assoc, List.cons_append, List.nil_append]]
    exact List.take_left' List.length_append
  exact ⟨pre.reverse.take 3, by rw [before, taken, List.reverse_append]; rfl⟩

theorem after_neighbour (pre post : List Px) (l q r : Px) :
    ∃ far, after (pre ++ l :: q :: r :: post) (pre.length + 1) 4 = r :: far := by
  have rest : (pre ++ l :: q :: r :: post).drop (pre.length + 1 + 1) = r :: post := by
    rw [show pre ++ l :: q :: r :: post = (pre ++ [l, q]) ++ r :: post by simp only [List.append_assoc, List.cons_append, List.nil_append]]
    exact List.drop_left' List.length_append
  exact ⟨post.take 3, by rw [after, rest]; rfl⟩

/-- Between two good neighbours of its row a pixel takes their rounded mean, and SAT of either. -/
theorem replaceAt_between (ext : Bool) {rows : List (List Px)} {pre post : List Px} {l q r : Px} {j : Nat}
    (row : rows.getD j [] = pre ++ l :: q :: r :: post) (hl : l.Good) (hr : r.Good) (unsaturated : q.sat = false) :
    replaceAt ext rows j (pre.length + 1) q = ({ q with v := rnd (l.v + r.v) 1, sat := l.sat || r.sat, repl := true }, false) := by
  obtain ⟨left, hleft⟩ := before_neighbour pre (r :: post) l q
  obtain ⟨right, hright⟩ := after_neighbour pre post l q r
  simp only [replaceAt, row, hleft, hright, nearestGood_cons hl, nearestGood_cons hr, fromPair, Option.orElse_some, unsaturated,
    Bool.false_eq_true, if_false, Bool.false_or]

/-! ### Stage 4 (R179) -/

theorem stage4_getElem {t : StageSet} (w : Win) (j : Nat) {i : Nat} {row : List Px} {q : Px} (gains : t.zgain = true) (h : row[i]? = some q) :
    (stage4 t w j row)[i]? = some { q with v := rnd (q.v * t.gain (zoneAt (w.colOf i) (w.rowOf j))) 10 } := by
  simp [stage4, gains, h]

/-! ### Stage 5 (R181 to R185) -/

/-- A candidate that the blend can take: present, exposed and not saturated. -/
structure Cand.Usable (c : Cand) : Prop where
  present : c.px.absent = false
  exposed : c.t ≠ 0
  unsaturated : c.px.sat = false

theorem bandOf_fits {hi band : Nat} (h : 2 ^ band ≤ hi) : bandOf hi band = band := by
  cases band with
  | zero => rfl
  | succ b => rw [bandOf, if_pos h]

/-- The result that takes its value from one candidate. -/
def BlendSet.alone (set : BlendSet) (c : Cand) : Blended :=
  { l := linearValue (blendValue set.tref c) set.offset, src := c.inf, repl := c.px.repl }

/-- The crossfade of R184 from `x` to `z`, by the level of `x`. -/
def BlendSet.crossfade (set : BlendSet) (x z : Cand) (t : Int) : Blended :=
  { l := linearValue ((blendValue set.tref x * (set.hi - t) + blendValue set.tref z * (t - (set.hi - 2 ^ set.band)) +
      2 ^ (set.band - 1)) / 2 ^ set.band) set.offset,
    src := if t - (set.hi - 2 ^ set.band) < 2 ^ (set.band - 1) then x.inf else z.inf, repl := x.px.repl || z.px.repl }

/-- Candidates in the order of R183. -/
def byExposure (all : List Cand) : List Cand := all.foldl (fun l c => insertCand c l) []

/-- Of usable candidates the blend leaves none out. -/
theorem usable_filters {all : List Cand} (usable : ∀ c ∈ all, c.Usable) :
    all.filter (fun c => !c.px.absent && c.t != 0) = all ∧ all.filter (fun c => !c.px.sat) = all := by
  refine ⟨List.filter_eq_self.mpr fun c hc => ?_, List.filter_eq_self.mpr fun c hc => ?_⟩
  · simp [(usable c hc).present, (usable c hc).exposed]
  · simp [(usable c hc).unsaturated]

section
variable {set : BlendSet} {all : List Cand} {n : Nat} {x z : Cand} (tref : set.tref ≠ 0) (usable : ∀ c ∈ all, c.Usable)
include tref usable

/-- The last candidate of the order stands alone. -/
theorem blend_last (chosen : chooseCand set.hi n (byExposure all) = some (x, none)) : blend set n all = set.alone x := by
  obtain ⟨seen, fresh⟩ := usable_filters usable
  unfold byExposure at chosen
  simp only [blend, seen, fresh, chosen, if_neg tref]
  rfl

/-- Below the band the candidate stands alone, within it the next one takes over. -/
theorem blend_next (chosen : chooseCand set.hi n (byExposure all) = some (x, some z)) (band : 1 ≤ set.band) (fits : 2 ^ set.band ≤ set.hi) :
    let t := blendLevel x.res n x.px.v
    blend set n all = if (set.hi : Int) - 2 ^ set.band < t then set.crossfade x z t else set.alone x := by
  obtain ⟨seen, fresh⟩ := usable_filters usable
  unfold byExposure at chosen
  simp only [blend, seen, fresh, chosen, if_neg tref, bandOf_fits fits, band, true_and, natCast_two_pow]
  rfl

end

theorem blend_single {set : BlendSet} {x : Cand} (n : Nat) (tref : set.tref ≠ 0) (hx : x.Usable) : blend set n [x] = set.alone x :=
  blend_last tref (List.forall_mem_singleton.mpr hx) rfl

/-- Two candidates: the level of the longer exposed one decides. -/
theorem blend_pair {set : BlendSet} {x z : Cand} (n : Nat) (tref : set.tref ≠ 0) (hx : x.Usable) (hz : z.Usable) (shorter : z.t < x.t)
    (band : 1 ≤ set.band) (fits : 2 ^ set.band ≤ set.hi) :
    let t := blendLevel x.res n x.px.v
    blend set n [x, z] =
      if t ≤ (set.hi : Int) then (if (set.hi : Int) - 2 ^ set.band < t then set.crossfade x z t else set.alone x) else set.alone z := by
  intro t
  have usable : ∀ c ∈ [x, z], c.Usable := List.forall_mem_cons.mpr ⟨hx, List.forall_mem_singleton.mpr hz⟩
  have order : byExposure [x, z] = [x, z] := by
    change insertCand z [x] = [x, z]
    rw [insertCand, if_neg (by omega), insertCand]
  by_cases level : t ≤ (set.hi : Int)
  · rw [if_pos level]
    exact blend_next tref usable (by rw [order, chooseCand, if_pos level]) band fits
  · rw [if_neg level]
    exact blend_last tref usable (by rw [order, chooseCand, if_neg level, chooseCand])

theorem blend_saturated {set : BlendSet} {z : Cand} (n : Nat) (present : z.px.absent = false) (exposed : z.t ≠ 0)
    (saturated : z.px.sat = true) : blend set n [z] = { l := 16777215, src := z.inf, satAll := true } := by
  simp [blend, present, exposed, saturated, chooseCand, Nat.mod_one]

/-! ### Stages 6 and 7 (R187, R190) -/

/-- The knee table of reset. -/
theorem kneeRegs_reset : State.reset.dev.kneeRegs =
    [(0, 0), (131072, 2), (262144, 4), (524288, 5), (1048576, 6), (2097152, 7), (4194304, 8), (8388608, 9)] := by
  decide +kernel

theorem segmentOf_past {l base st sh st' sh' : Nat} (rest : List (Nat × Nat)) (h : st' ≤ l) :
    segmentOf l base ((st, sh) :: (st', sh') :: rest) = segmentOf l (base + (st' - st) / 2 ^ sh) ((st', sh') :: rest) := by
  rw [segmentOf, if_pos h]

theorem segmentOf_within {l base st sh st' sh' : Nat} (rest : List (Nat × Nat)) (h : l < st') :
    segmentOf l base ((st, sh) :: (st', sh') :: rest) = (base, st, sh) := by
  rw [segmentOf, if_neg (by omega)]

/-- The segments of the knee table of reset: first value, end, shift and first code. -/
def resetSegments : List (Nat × Nat × Nat × Nat) :=
  [(0, 131072, 0, 0), (131072, 262144, 2, 131072), (262144, 524288, 4, 163840), (524288, 1048576, 5, 180224), (1048576, 2097152, 6, 196608),
   (2097152, 4194304, 7, 212992), (4194304, 8388608, 8, 229376), (8388608, 16777216, 9, 245760)]

theorem compand_reset : ∀ seg ∈ resetSegments, ∀ l : Nat, seg.1 ≤ l → l < seg.2.1 →
    compand State.reset.dev.kneeRegs l = seg.2.2.2 + (l - seg.1) / 2 ^ seg.2.2.1 := by
  rw [kneeRegs_reset]
  simp only [resetSegments, List.forall_mem_cons]
  refine ⟨?_, ?_, ?_, ?_, ?_, ?_, ?_, ?_, fun _ h => absurd h List.not_mem_nil⟩ <;> intro l starts ends
  all_goals simp (disch := omega) only [compand, segmentOf_past, segmentOf_within]
  all_goals simp [segmentOf]

/-- The field of R190: zero when absent, all ones when saturated or over, else the rounded value with its pedestal. -/
theorem outField_eq {width : Nat} (res ped : Nat) (q : Px) (some_bits : 1 ≤ width) :
    let y := rnd q.v (14 + 2 * res - width) + (ped * 2 ^ width / 4096 : Nat)
    outField width res ped q = if q.absent then 0 else if q.sat ∨ (2 ^ width - 2 : Int) < y then 2 ^ width - 1 else y.toNat := by
  intro y
  have two_le : 2 ≤ 2 ^ width := Nat.le_self_pow (by omega) 2
  have limit : ((2 ^ width - 2 : Nat) : Int) = 2 ^ width - 2 := by rw [Int.natCast_sub two_le, natCast_two_pow]; rfl
  have shift : 4 + (10 + 2 * res) - width = 14 + 2 * res - width := by omega
  have exceeds : (2 ^ width - 2 : Int) < max y 0 ↔ (2 ^ width - 2 : Int) < y := by omega
  have cut : (max y 0).toNat = y.toNat := by omega
  simp only [outField, shift, limit]
  change (if _ then 0 else if _ then _ else if (2 ^ width - 2 : Int) < max y 0 then _ else (max y 0).toNat) = _
  simp only [exceeds, cut]
  by_cases sat : q.sat = true
  · simp only [sat, true_or, if_true]
  · simp only [sat, false_or, if_false, Bool.false_eq_true]

end Sys2Proof.Machine
end

section
/-! The start of a frame in PIP (O41): what its steps leave alone, and what it takes. -/

namespace Sys2Proof.Machine

/-! ### What the steps of a frame start leave alone -/

theorem Dev.postTo_lnk (s : Dev) (n : Fin 8) (e : Nat) (st : Stamp) : (s.postTo n e st).lnk = s.lnk := by
  unfold Dev.postTo
  split
  · dsimp only
    split
    · split <;> rfl
    · split
      · split <;> rfl
      · rfl
  · rfl

theorem Dev.post_lnk (s : Dev) (e : Nat) (st : Stamp) : (s.post e st).lnk = s.lnk := by
  have all : ∀ (l : List (Fin 8)) (s : Dev), (l.foldl (fun s n => s.postTo n e st) s).lnk = s.lnk := by
    intro l
    induction l with
    | nil => exact fun _ => rfl
    | cons n r ih => exact fun s => (ih _).trans (s.postTo_lnk n e st)
  exact all _ _

theorem Dev.routeEvent_lnk (s : Dev) (c : Nat) : (s.routeEvent c).lnk = s.lnk := by
  unfold Dev.routeEvent Dev.alertClass
  dsimp only
  split <;> split <;> rfl

theorem Dev.toVc3_frames (s : Dev) (p : LinkPacket) : (s.toVc3 p).lnk.frames = s.lnk.frames := by
  unfold Dev.toVc3
  split
  · split <;> rfl
  · rfl

theorem Dev.takeEntry_frames (s : Dev) (e : LogEntry) : (s.takeEntry e).lnk.frames = s.lnk.frames := by
  have posted : ∀ (t : Dev) (p : LinkPacket), ((t.post 45 e.stamp).toVc3 p).lnk.frames = t.lnk.frames := fun t p => by
    rw [Dev.toVc3_frames, Dev.post_lnk]
  unfold Dev.takeEntry
  split
  · split
    · split
      · rfl
      · split
        · exact posted _ _
        · rfl
    · exact posted _ _
  · rfl

/-- Handling an event gives LNK no frame. -/
theorem Dev.happen_frames (s : Dev) (e : LogEntry) : (s.happen e).lnk.frames = s.lnk.frames := by
  rw [Dev.happen, Dev.takeEntry_frames, Dev.routeEvent_lnk]
  rfl

/-- What the steps of a frame start leave alone once the frame has left the readout's queue. -/
structure Dev.FrameKept (s t : Dev) : Prop where
  rdo : t.rdo = s.rdo
  mem : t.mem = s.mem
  frames : t.lnk.frames = s.lnk.frames
  busy : t.pip.busy = s.pip.busy
  lastStart : t.pip.lastStart = s.pip.lastStart
  dmap : t.pip.dmap = s.pip.dmap
  ctrl : t.rd R.PIP_CTRL = s.rd R.PIP_CTRL

theorem Dev.FrameKept.refl (s : Dev) : Dev.FrameKept s s := ⟨rfl, rfl, rfl, rfl, rfl, rfl, rfl⟩

theorem Dev.FrameKept.trans {s t u : Dev} (h : Dev.FrameKept s t) (k : Dev.FrameKept t u) : Dev.FrameKept s u :=
  ⟨k.rdo.trans h.rdo, k.mem.trans h.mem, k.frames.trans h.frames, k.busy.trans h.busy, k.lastStart.trans h.lastStart,
   k.dmap.trans h.dmap, k.ctrl.trans h.ctrl⟩

theorem Dev.FrameKept.ite {c : Prop} [Decidable c] {s t u : Dev} (h : Dev.FrameKept s t) (k : Dev.FrameKept s u) :
    Dev.FrameKept s (if c then t else u) := by
  split
  · exact h
  · exact k

theorem Dev.Calm.frameKept {s t : Dev} (h : Dev.Calm s t) (frames : t.lnk.frames = s.lnk.frames) (ctrl : t.rd R.PIP_CTRL = s.rd R.PIP_CTRL) :
    Dev.FrameKept s t :=
  ⟨h.rdo, h.mem, frames, congrArg Pip.busy h.pip, congrArg Pip.lastStart h.pip, congrArg Pip.dmap h.pip, ctrl⟩

theorem Dev.wr_frameKept (s : Dev) {a : Nat} (v : Word) (h : R.PIP_CTRL ≠ a) : Dev.FrameKept s (s.wr a v) :=
  (s.wr_calm a v).frameKept rfl ((s.rd_wr a _ v).trans (if_neg h))

/-- No event writes PIP.CTRL. -/
theorem apart_pipCtrl (code : Nat) : apart code R.PIP_CTRL := by
  unfold apart R.PIP_CTRL R.EVT_COUNTc R.MGT_ALERT R.EVT_HST_ALERT R.LNK_VC3_DROPPED R.SEQ_THn_EVLOST
  exact ⟨by omega, by omega, by omega, by omega, fun n => by omega⟩

theorem Dev.log_frameKept (s : Dev) (c x y : Nat) : Dev.FrameKept s (s.log c x y) := by
  refine (s.log_calm c x y).frameKept ?_ (s.log_rd c x y _ (apart_pipCtrl c))
  unfold Dev.log Dev.logAt
  dsimp only
  split
  · exact s.happen_frames _
  · rfl

theorem Dev.logNow_frameKept (s : Dev) (c x y : Nat) : Dev.FrameKept s (s.logNow c x y) := by
  obtain ⟨rdo, mem, frames, busy, lastStart, dmap, ctrl⟩ := ({ s with evt := { s.evt with held := none } } : Dev).log_frameKept c x y
  exact ⟨rdo, mem, frames, busy, lastStart, dmap, ctrl⟩

/-! ### Reads of an area without bit errors (R204, R205) -/

/-- A read that finds no error changes at most what an access beyond the usable top reports. -/
theorem Dev.memRead_frameKept (s : Dev) (rq a : Nat) (clean : s.mem.ecc = []) : Dev.FrameKept s (s.memRead rq a).2.2 := by
  have ok : Cells.get eccZero s.mem.ecc (a / 2) = 0 := by rw [clean]; rfl
  unfold Dev.memRead
  rw [ok]
  split
  · exact s.logNow_frameKept _ _ _
  · exact .refl s

theorem Dev.memPeek_good (s : Dev) (a : Nat) (clean : s.mem.ecc = []) : (s.memPeek a).2 = false := by
  have ok : Cells.get eccZero s.mem.ecc (a / 2) = 0 := by rw [clean]; rfl
  unfold Dev.memPeek
  rw [ok]
  split <;> rfl

theorem Dev.memReadRun_clean (s : Dev) (rq a n : Nat) (seen : Bool) (clean : s.mem.ecc = []) :
    Dev.FrameKept s (s.memReadRun rq a n seen).2 ∧ (s.memReadRun rq a n seen).1.any (·.2) = false := by
  induction n generalizing s a seen with
  | zero => exact ⟨.refl s, rfl⟩
  | succ n ih =>
    have read : Dev.FrameKept s (if seen && a % 2 == 1 && decide (a < s.usableTop) then s else (s.memRead rq a).2.2) :=
      .ite (.refl s) (s.memRead_frameKept rq a clean)
    obtain ⟨kept, good⟩ := ih _ (a + 1) true (by rw [read.mem, clean])
    refine ⟨read.trans kept, ?_⟩
    change ((s.memPeek a).2 || _) = false
    rw [s.memPeek_good a clean, Bool.false_or]
    exact good

/-- Reads one more descriptor. -/
def Dev.readDescriptor (a : Bool × Dev) (p : PourFacts) : Bool × Dev :=
  (a.1 || (a.2.memReadRun 4 p.base 64).1.any (·.2), (a.2.memReadRun 4 p.base 64).2)

theorem Dev.readDescriptor_clean (s : Dev) (p : PourFacts) (clean : s.mem.ecc = []) :
    (Dev.readDescriptor (false, s) p).1 = false ∧ Dev.FrameKept s (Dev.readDescriptor (false, s) p).2 := by
  have run := s.memReadRun_clean 4 p.base 64 false clean
  unfold Dev.readDescriptor
  dsimp only
  generalize s.memReadRun 4 p.base 64 = x at run ⊢
  obtain ⟨kept, good⟩ := run
  exact ⟨(Bool.false_or _).trans good, kept⟩

theorem Dev.readDescriptors_clean (s : Dev) (f : ReadyFrame) (clean : s.mem.ecc = []) :
    (s.readDescriptors f).1 = false ∧ Dev.FrameKept s (s.readDescriptors f).2 := by
  have all : ∀ (l : List PourFacts) (s : Dev), s.mem.ecc = [] →
      (l.foldl Dev.readDescriptor (false, s)).1 = false ∧ Dev.FrameKept s (l.foldl Dev.readDescriptor (false, s)).2 := by
    intro l
    induction l with
    | nil => exact fun s _ => ⟨rfl, .refl s⟩
    | cons p rest ih =>
      intro s clean
      obtain ⟨good, kept⟩ := s.readDescriptor_clean p clean
      rw [List.foldl_cons, show Dev.readDescriptor (false, s) p = (false, (Dev.readDescriptor (false, s) p).2) from Prod.ext good rfl]
      obtain ⟨rest_good, rest_kept⟩ := ih _ ((congrArg Mem.ecc kept.mem).trans clean)
      exact ⟨rest_good, kept.trans rest_kept⟩
  exact all f.pours s clean

/-! ### The steps of a frame start -/

theorem Dev.to_frameKept (s : Dev) (t : Nat) : Dev.FrameKept s (s.to t) := by
  unfold Dev.to
  split
  · exact ⟨rfl, rfl, rfl, rfl, rfl, rfl, rfl⟩
  · exact .refl s

/-- The handover of a resource changes claims and time at most (R29). -/
theorem Dev.handover_frameKept (s : Dev) (res : Nat) : Dev.FrameKept s (s.handover res) := by
  unfold Dev.handover
  split
  · exact .refl s
  · exact .ite ((s.to_frameKept _).trans ⟨rfl, rfl, rfl, rfl, rfl, rfl, rfl⟩) (.refl s)

theorem Dev.slewOffsets_frameKept (s : Dev) : Dev.FrameKept s s.slewOffsets := ⟨rfl, rfl, rfl, rfl, rfl, rfl, rfl⟩

theorem Dev.checkKnees_frameKept (s : Dev) (num : Word) : Dev.FrameKept s (s.checkKnees num) := by
  unfold Dev.checkKnees
  split
  · exact ⟨rfl, rfl, rfl, rfl, rfl, rfl, rfl⟩
  · exact (s.wr_frameKept _ (by decide)).trans (Dev.log_frameKept _ _ _ _)

theorem Dev.previewTake_frameKept (s : Dev) (r : FrameRecord) : Dev.FrameKept s (s.previewTake r).2 := by
  have counted : Dev.FrameKept s (s.onPip (fun p => { p with pvCount := p.pvCount + 1 })) := ⟨rfl, rfl, rfl, rfl, rfl, rfl, rfl⟩
  unfold Dev.previewTake
  split
  · dsimp only
    split
    · split
      · exact counted.trans ⟨rfl, rfl, rfl, rfl, rfl, rfl, rfl⟩
      · exact counted.trans (Dev.wr_frameKept _ _ (by decide))
    · exact counted
  · exact .refl s

/-- Stages 1 to 4 of a window change no block. -/
theorem layerWindow_dev (t : StageSet) (expo : Nat → Nat) (f : PourFacts) (area : List (Word × Bool)) (a : LayerAcc) (w : Win) :
    (layerWindow t expo f area a w).dev = a.dev := by
  unfold layerWindow
  split <;> rfl

theorem layerPour_frameKept (t : StageSet) (steeps : List SteepDone) (a : LayerAcc) (f : PourFacts) (clean : a.dev.mem.ecc = []) :
    Dev.FrameKept a.dev (layerPour t steeps a f).dev := by
  have windows : ∀ (expo : Nat → Nat) (area : List (Word × Bool)) (l : List Win) (a : LayerAcc),
      (l.foldl (layerWindow t expo f area) a).dev = a.dev := by
    intro expo area l
    induction l with
    | nil => exact fun _ => rfl
    | cons w r ih => exact fun a => (ih _).trans (layerWindow_dev t expo f area a w)
  unfold layerPour
  dsimp only
  rw [windows]
  exact (a.dev.memReadRun_clean 4 (f.base + 64) (toBeat f.len - 64) false clean).1

theorem layerPours_frameKept (t : StageSet) (steeps : List SteepDone) (pours : List PourFacts) (a : LayerAcc) (clean : a.dev.mem.ecc = []) :
    Dev.FrameKept a.dev (pours.foldl (layerPour t steeps) a).dev := by
  induction pours generalizing a with
  | nil => exact .refl _
  | cons f rest ih =>
    have first := layerPour_frameKept t steeps a f clean
    exact first.trans (ih _ (by rw [first.mem, clean]))

/-- The frame that stages 1 to 7 leave in PIP, by the record and the settings of the moment (R165, R193). -/
theorem Dev.processFrame_spec (s : Dev) (f : ReadyFrame) (base : Option Nat) (clean : s.mem.ecc = []) :
    Dev.FrameKept s (s.processFrame f base) ∧ ∃ q : OutFrame, (s.processFrame f base).pip.frame = some q ∧ q.num = f.rec'.num ∧
      q.stamp = f.rec'.stamp ∧ q.status = f.rec'.status ∧ q.fmt = field (s.rd R.PIP_CTRL) 10 8 ∧ q.base = base := by
  refine ⟨?_, _, rfl, rfl, rfl, rfl, rfl, rfl⟩
  unfold Dev.processFrame
  extract_lets r c fmt sel present absentSel s1 gains t acc s2 s3 s4 s5 s6 b o node wins lines out
  have reported : Dev.FrameKept s s1 := .ite (s.log_frameKept _ _ _) (.refl s)
  have read : Dev.FrameKept s1 acc.dev :=
    layerPours_frameKept t r.steeps f.pours ⟨s1, { last := s1.pip.clampLast }, [], 0, 0⟩ ((congrArg Mem.ecc reported.mem).trans clean)
  have latest : Dev.FrameKept acc.dev s2 := ⟨rfl, rfl, rfl, rfl, rfl, rfl, rfl⟩
  have flagged : Dev.FrameKept s2 s3 := s2.wr_frameKept (a := R.PIP_STATUS) _ (by decide)
  have fell : Dev.FrameKept s3 s4 := .ite (s3.log_frameKept _ _ _) (.refl s3)
  have replaced : Dev.FrameKept s4 s5 := s4.wr_frameKept _ (by decide)
  have unresolved : Dev.FrameKept s5 s6 := s5.wr_frameKept _ (by decide)
  have taken := s6.previewTake_frameKept r
  exact reported.trans <| read.trans <| latest.trans <| flagged.trans <| fell.trans <| replaced.trans <| unresolved.trans <|
    taken.trans ⟨rfl, rfl, rfl, rfl, rfl, rfl, rfl⟩

/-! ### The start of a frame (R165, R199, R215, R218) -/

/-- PIP takes the frame at the head of the queue. -/
def Dev.frameTaken (s : Dev) (f : ReadyFrame) (toLnk : Bool) : Dev :=
  (s.onRdo (fun r => { r with ready := r.ready.erase f })).onPip (fun p =>
    { p with busy := true, lastStart := some s.tick, toLnk := toLnk, dmap := p.dmapNext.getD p.dmap, dmapNext := none })

/-- The block that has handed over the line buffer, moved the offsets and checked the knees, when it reads the descriptors. -/
def Dev.frameReady (s : Dev) (f : ReadyFrame) (toLnk : Bool) : Dev :=
  (((s.frameTaken f toLnk).handover 0x030).slewOffsets).checkKnees f.rec'.num

theorem Dev.frameReady_frameKept (s : Dev) (f : ReadyFrame) (toLnk : Bool) : Dev.FrameKept (s.frameTaken f toLnk) (s.frameReady f toLnk) :=
  ((Dev.handover_frameKept _ _).trans (Dev.slewOffsets_frameKept _)).trans (Dev.checkKnees_frameKept _ _)

/-- The frame is processed, and given to LNK when its lines go there. -/
def Dev.frameSent (s : Dev) (f : ReadyFrame) (toLnk : Bool) (base : Option Nat) : Dev :=
  match (s.processFrame f base).pip.frame, toLnk with
  | some o, true => { s.processFrame f base with lnk := { (s.processFrame f base).lnk with frames := (s.processFrame f base).lnk.frames ++ [o] } }
  | _, _ => s.processFrame f base

theorem Dev.frameSent_memory (s : Dev) (f : ReadyFrame) (base : Option Nat) : s.frameSent f false base = s.processFrame f base := by
  unfold Dev.frameSent
  generalize s.processFrame f base = y
  cases y.pip.frame <;> rfl

/-- A frame without bit errors whose lines go to memory alone. -/
theorem Dev.pipBegin_clean (s : Dev) (f : ReadyFrame) (base : Option Nat) (clean : s.mem.ecc = []) :
    s.pipBegin f false base = ((s.frameReady f false).readDescriptors f).2.processFrame f base := by
  obtain ⟨good, -⟩ := (s.frameReady f false).readDescriptors_clean f (by rw [(s.frameReady_frameKept f false).mem]; exact clean)
  have shape : s.pipBegin f false base =
      (if ((s.frameReady f false).readDescriptors f).1 then _ else ((s.frameReady f false).readDescriptors f).2.frameSent f false base) := rfl
  rw [shape, if_neg (by rw [good]; exact Bool.false_ne_true), Dev.frameSent_memory]

theorem Dev.pipBegin_spec (s : Dev) (f : ReadyFrame) (base : Option Nat) (clean : s.mem.ecc = []) :
    Dev.FrameKept (s.frameTaken f false) (s.pipBegin f false base) ∧ ∃ q : OutFrame, (s.pipBegin f false base).pip.frame = some q ∧
      q.num = f.rec'.num ∧ q.stamp = f.rec'.stamp ∧ q.status = f.rec'.status ∧ q.fmt = field (s.rd R.PIP_CTRL) 10 8 ∧ q.base = base := by
  have ready := s.frameReady_frameKept f false
  obtain ⟨-, read⟩ := (s.frameReady f false).readDescriptors_clean f (by rw [ready.mem]; exact clean)
  have before := ready.trans read
  rw [s.pipBegin_clean f base clean]
  obtain ⟨kept, q, frame, num, stamp, status, fmt, at_⟩ := ((s.frameReady f false).readDescriptors f).2.processFrame_spec f base
    (by rw [before.mem]; exact clean)
  exact ⟨before.trans kept, q, frame, num, stamp, status, by rw [fmt, before.ctrl]; rfl, at_⟩

/-- A frame with a dropped pour at the head of the queue is discarded (R215). -/
theorem Dev.pipStart_discards (d : Dev) {f : ReadyFrame} {rest : List ReadyFrame} (ready : d.rdo.ready = f :: rest)
    (dropped : f.pours.any (·.dropped) = true) :
    d.pipStart = (({ d with rdo := { d.rdo with ready := rest } }.bump R.MEM_FRAME_DROPPED).pipReleases f.rec'.serial) := by
  have first : d.rdo.ready.find? (fun f => f.pours.any (·.dropped)) = some f := by
    rw [ready]
    exact List.find?_cons_of_pos dropped
  rw [Dev.pipStart, first]
  dsimp only
  rw [Dev.pipDiscard, Dev.onRdo, ready, List.erase_cons_head]

/-- What stands between PIP and the frame at the head of the queue: it is busy or off, or LNK is to take the lines and does not. -/
def Dev.pipHeld (d : Dev) : Prop :=
  d.pip.busy = true ∨ bit (d.rd R.PIP_CTRL) 0 = false ∨ (field (d.rd R.PIP_CTRL) 13 12 = 1 ∧ d.lnkReady = false)

/-- The output area of a frame in the settings of the moment (R193, R218). -/
def Dev.frameArea (d : Dev) (f : ReadyFrame) : Option (Nat × Dev) :=
  d.placeOut (outAreaWords (field (d.rd R.PIP_CTRL) 10 8) f.wins) f.rec'.num
    (f.wins.flatMap (fun w => List.replicate w.rows (lineWords (field (d.rd R.PIP_CTRL) 10 8) w)))

section
variable {d : Dev} {f : ReadyFrame} {rest : List ReadyFrame} (ready : d.rdo.ready = f :: rest)
  (whole : ∀ g ∈ f :: rest, g.pours.any (·.dropped) = false)
include ready whole

theorem Dev.pipStart_noneDropped : d.rdo.ready.find? (fun f => f.pours.any (·.dropped)) = none := by
  rw [ready]
  exact List.find?_eq_none.mpr fun g hg => by rw [whole g hg]; exact Bool.false_ne_true

theorem Dev.pipStart_held (held : d.pipHeld) : d.pipStart = d := by
  have shut : (d.pip.busy || !bit (d.rd R.PIP_CTRL) 0 || (field (d.rd R.PIP_CTRL) 13 12 == 1 && !d.lnkReady)) = true := by
    rcases held with busy | off | ⟨link, down⟩
    · rw [busy]; rfl
    · rw [off, Bool.not_false, Bool.or_true]; rfl
    · rw [link, down, Bool.not_false]; exact Bool.or_true _
  rw [Dev.pipStart, Dev.pipStart_noneDropped ready whole, ready]
  exact if_pos shut

/-- With memory in the destination the frame starts when its area fits. -/
theorem Dev.pipStart_area (free : ¬ d.pipHeld) (memory : field (d.rd R.PIP_CTRL) 13 12 ≠ 1) :
    d.pipStart = match d.frameArea f with
      | none => d
      | some (b, s1) =>
        (if field (d.rd R.PIP_CTRL) 13 12 = 2 then s1.areaNotSent b else s1).pipBegin f
          (field (d.rd R.PIP_CTRL) 13 12 == 2 && d.lnkTakes) (some b) := by
  have opened : ¬ (d.pip.busy || !bit (d.rd R.PIP_CTRL) 0 || (field (d.rd R.PIP_CTRL) 13 12 == 1 && !d.lnkReady)) = true := by
    simpa [Dev.pipHeld, and_assoc] using free
  rw [Dev.pipStart, Dev.pipStart_noneDropped ready whole, ready]
  dsimp only
  rw [if_neg opened, if_neg memory]
  rfl

theorem Dev.pipStart_noRoom (memory : field (d.rd R.PIP_CTRL) 13 12 ≠ 1) (full : d.frameArea f = none) : d.pipStart = d := by
  by_cases held : d.pipHeld
  · exact Dev.pipStart_held ready whole held
  · rw [Dev.pipStart_area ready whole held memory, full]

/-- With memory alone in the destination the frame's lines go to its area, and LNK has no part in it. -/
theorem Dev.pipStart_begins {b : Nat} {s1 : Dev} (free : ¬ d.pipHeld) (memory : field (d.rd R.PIP_CTRL) 13 12 = 0)
    (placed : d.frameArea f = some (b, s1)) : d.pipStart = s1.pipBegin f false (some b) := by
  rw [Dev.pipStart_area ready whole free (by rw [memory]; decide), placed, memory]
  rfl

end

/-- The area of a frame changes nothing but the ring. -/
theorem Dev.frameArea_frame {d s1 : Dev} {f : ReadyFrame} {b : Nat} (placed : d.frameArea f = some (b, s1)) :
    ∃ outs head, s1 = d.onMem (fun m => { m with outs := outs, outHead := head }) := by
  obtain ⟨_, -, e⟩ := Option.map_eq_some_iff.mp placed
  obtain ⟨-, rfl⟩ := Prod.mk.inj e
  exact ⟨_, _, rfl⟩

/-- A frame that starts with memory alone in the destination (R165, R193, R218). -/
theorem Dev.pipStart_spec {d : Dev} {f : ReadyFrame} {rest : List ReadyFrame} {b : Nat} {s1 : Dev} (ready : d.rdo.ready = f :: rest)
    (whole : ∀ g ∈ f :: rest, g.pours.any (·.dropped) = false) (free : ¬ d.pipHeld) (memory : field (d.rd R.PIP_CTRL) 13 12 = 0)
    (clean : d.mem.ecc = []) (placed : d.frameArea f = some (b, s1)) :
    ∃ q : OutFrame, d.pipStart.pip.busy = true ∧ d.pipStart.pip.lastStart = some d.tick ∧ d.pipStart.rdo.ready = rest ∧
      d.pipStart.pip.frame = some q ∧ q.num = f.rec'.num ∧ q.stamp = f.rec'.stamp ∧ q.status = f.rec'.status ∧
      q.fmt = field (d.rd R.PIP_CTRL) 10 8 ∧ q.base = some b ∧ d.pipStart.pip.dmap = d.pip.dmapNext.getD d.pip.dmap ∧
      d.pipStart.mem.outs = s1.mem.outs ∧ d.pipStart.lnk.frames = d.lnk.frames := by
  obtain ⟨outs, head, ring⟩ := Dev.frameArea_frame placed
  rw [Dev.pipStart_begins ready whole free memory placed]
  obtain ⟨kept, q, frame, num, stamp, status, fmt, base⟩ := s1.pipBegin_spec f (some b) (by rw [ring]; exact clean)
  have taken : (s1.frameTaken f false).rdo.ready = rest := by
    rw [ring]
    change d.rdo.ready.erase f = rest
    rw [ready, List.erase_cons_head]
  refine ⟨q, kept.busy, ?_, (congrArg Rdo.ready kept.rdo).trans taken, frame, num, stamp, status, ?_, base, ?_, congrArg Mem.outs kept.mem, ?_⟩
  · rw [kept.lastStart, ring]
    rfl
  · rw [fmt, ring]
    rfl
  · rw [kept.dmap, ring]
    rfl
  · rw [kept.frames, ring]
    rfl

end Sys2Proof.Machine
end

section
/-! The end of a frame in PIP (O41): the words of its output area, and the event it posts. -/

namespace Sys2Proof.Machine

/-! ### Runs of words in frame memory (R206) -/

/-- Nothing but the memory and the draw of free values has changed. -/
def Dev.MemOnly (s t : Dev) : Prop := t = { s with mem := t.mem, free := t.free }

theorem Dev.MemOnly.refl (s : Dev) : Dev.MemOnly s s := rfl

theorem Dev.MemOnly.trans {s t u : Dev} (h : Dev.MemOnly s t) (k : Dev.MemOnly t u) : Dev.MemOnly s u := by
  unfold Dev.MemOnly at h k ⊢
  rw [k, h]

theorem Dev.onMem_only (s : Dev) (f : Mem → Mem) : Dev.MemOnly s (s.onMem f) := rfl

theorem Dev.MemOnly.usableTop {s t : Dev} (h : Dev.MemOnly s t) : t.usableTop = s.usableTop := by
  unfold Dev.MemOnly at h
  rw [h]
  rfl

/-- A pending write-back that is dropped stands in a channel: no word changes (R208). -/
theorem Dev.beatWritten_spec (s : Dev) (a : Nat) : Dev.MemOnly s (s.beatWritten a) ∧ (s.beatWritten a).mem.words = s.mem.words := by
  unfold Dev.beatWritten
  dsimp only
  split
  · split
    · exact ⟨rfl, rfl⟩
    · exact ⟨rfl, rfl⟩
  · exact ⟨rfl, rfl⟩

/-- A write within the usable space stores its word, and no other. -/
theorem Dev.memWrite_spec (s : Dev) (rq : Nat) {a : Nat} (w : Word) (h : a < s.usableTop) :
    Dev.MemOnly s (s.memWrite rq a w) ∧ ∀ k, (s.memWrite rq a w).memWord k = if k = a then w else s.memWord k := by
  obtain ⟨only, words⟩ := ((s.putWord a w).freshCode (a / 2)).beatWritten_spec a
  rw [Dev.memWrite, if_neg (by omega)]
  refine ⟨(Dev.onMem_only s _).trans <| (Dev.onMem_only _ _).trans only, fun k => ?_⟩
  rw [Dev.memWord, words]
  exact Cells.get_put memZero s.mem.words a k w

/-- A run stores its words in order, and no other. -/
theorem Dev.memWriteRun_spec (s : Dev) (rq a : Nat) (ws : List Word) (h : a + ws.length ≤ s.usableTop) :
    Dev.MemOnly s (s.memWriteRun rq a ws) ∧
      ∀ k, (s.memWriteRun rq a ws).memWord k = if a ≤ k ∧ k < a + ws.length then ws.getD (k - a) 0 else s.memWord k := by
  induction ws generalizing s a with
  | nil => exact ⟨.refl s, fun k => by rw [if_neg (by simp)]; rfl⟩
  | cons w ws ih =>
    rw [List.length_cons] at h ⊢
    obtain ⟨first, stored⟩ := s.memWrite_spec rq w (show a < s.usableTop by omega)
    obtain ⟨rest, run⟩ := ih (s.memWrite rq a w) (a + 1) (by rw [first.usableTop]; omega)
    refine ⟨first.trans rest, fun k => ?_⟩
    rw [Dev.memWriteRun, run, stored]
    by_cases at_ : k = a
    · subst at_
      rw [if_neg (by omega), if_pos rfl, if_pos (by omega), Nat.sub_self, List.getD_cons_zero]
    · by_cases within : a + 1 ≤ k ∧ k < a + 1 + ws.length
      · obtain ⟨j, rfl⟩ := Nat.exists_eq_add_of_le within.1
        rw [if_pos within, if_pos (by omega), show a + 1 + j - (a + 1) = j by omega, show a + 1 + j - a = j + 1 by omega, List.getD_cons_succ]
      · rw [if_neg within, if_neg at_, if_neg (by omega)]

/-- The words that fill the last beat reach no other. -/
theorem Dev.padBeat_spec (s : Dev) (rq a n : Nat) (h : a + n ≤ s.usableTop) :
    Dev.MemOnly s (s.padBeat rq a n) ∧ ∀ k, k < a ∨ a + n ≤ k → (s.padBeat rq a n).memWord k = s.memWord k := by
  induction n generalizing s a with
  | zero => exact ⟨.refl s, fun _ _ => rfl⟩
  | succ n ih =>
    have drawn : Dev.MemOnly s s.drawWord.2 := rfl
    obtain ⟨first, stored⟩ := s.drawWord.2.memWrite_spec rq s.drawWord.1 (show a < s.drawWord.2.usableTop by rw [drawn.usableTop]; omega)
    have only := drawn.trans first
    obtain ⟨rest, outside⟩ := ih (s.drawWord.2.memWrite rq a s.drawWord.1) (a + 1) (by rw [only.usableTop]; omega)
    refine ⟨only.trans rest, fun k hk => ?_⟩
    exact (outside k (by omega)).trans ((stored k).trans (if_neg (by omega)))

/-! ### What a posting does to the threads (R284) -/

/-- Two blocks whose threads, event masks and tick agree: a posting does the same to the threads of both. -/
def Dev.SamePosting (s t : Dev) : Prop := t.seq = s.seq ∧ t.tick = s.tick ∧ ∀ n e, t.evEnabled n e = s.evEnabled n e

theorem Dev.evEnabled_congr {s t : Dev} (h : ∀ n : Fin 8, t.rd (R.SEQ_THn_EVMASK_LO n) = s.rd (R.SEQ_THn_EVMASK_LO n) ∧
    t.rd (R.SEQ_THn_EVMASK_HI n) = s.rd (R.SEQ_THn_EVMASK_HI n)) (n : Fin 8) (e : Nat) : t.evEnabled n e = s.evEnabled n e := by
  obtain ⟨lo, hi⟩ := h n
  unfold Dev.evEnabled Dev.bt
  rw [lo, hi]

/-- Posting writes no event mask. -/
theorem Dev.postTo_evEnabled (s : Dev) (m : Fin 8) (e : Nat) (st : Stamp) (n : Fin 8) (k : Nat) :
    (s.postTo m e st).evEnabled n k = s.evEnabled n k := by
  refine Dev.evEnabled_congr (fun n => ⟨s.postTo_rd m e st _ ?_, s.postTo_rd m e st _ ?_⟩) n k
  · unfold R.SEQ_THn_EVMASK_LO R.SEQ_THn_EVLOST
    omega
  · unfold R.SEQ_THn_EVMASK_HI R.SEQ_THn_EVLOST
    omega

theorem Dev.postTo_samePosting {s t : Dev} (h : Dev.SamePosting s t) (n : Fin 8) (e : Nat) (st : Stamp) :
    Dev.SamePosting (s.postTo n e st) (t.postTo n e st) := by
  obtain ⟨seq, tick, enabled⟩ := h
  refine ⟨?_, (t.postTo_calm n e st).tick.trans (tick.trans (s.postTo_calm n e st).tick.symm), fun m k => ?_⟩
  · have th : t.th n = s.th n := by rw [Dev.th, Dev.th, seq]
    have set : ∀ x : Thread, ((t.stale (R.SEQ_THn_EVPEND_HI n) 35).setTh n x).seq = ((s.stale (R.SEQ_THn_EVPEND_HI n) 35).setTh n x).seq :=
      fun x => by simp only [Dev.setTh, Dev.stale_frame, seq]
    simp only [Dev.postTo, enabled, th, tick, Dev.stale_frame]
    split
    · split
      · split <;> exact seq
      · split
        · split <;> exact set _
        · exact set _
    · exact seq
  · rw [t.postTo_evEnabled, s.postTo_evEnabled, enabled]

theorem Dev.post_samePosting {s t : Dev} (h : Dev.SamePosting s t) (e : Nat) (st : Stamp) : Dev.SamePosting (s.post e st) (t.post e st) := by
  have all : ∀ (l : List (Fin 8)) {s t : Dev}, Dev.SamePosting s t →
      Dev.SamePosting (l.foldl (fun s n => s.postTo n e st) s) (l.foldl (fun s n => s.postTo n e st) t) := by
    intro l
    induction l with
    | nil => exact fun h => h
    | cons n r ih => exact fun h => ih (Dev.postTo_samePosting h n e st)
  exact all _ h

/-- Counting the frame writes no event mask. -/
theorem Dev.frameCounted_samePosting {s t : Dev} (seq : t.seq = s.seq) (tick : t.tick = s.tick) (ctl : t.ctl = s.ctl) :
    Dev.SamePosting s (t.bump R.PIP_FRAME_COUNT) := by
  have rd : ∀ a, a ≠ R.PIP_FRAME_COUNT → (t.bump R.PIP_FRAME_COUNT).rd a = s.rd a := fun a ha =>
    (Dev.rd_wr _ _ _ _).trans ((if_neg ha).trans (by rw [Dev.rd, Dev.rd, ctl]))
  refine ⟨seq, tick, Dev.evEnabled_congr fun n => ⟨rd _ ?_, rd _ ?_⟩⟩
  · unfold R.SEQ_THn_EVMASK_LO R.PIP_FRAME_COUNT
    omega
  · unfold R.SEQ_THn_EVMASK_HI R.PIP_FRAME_COUNT
    omega

/-! ### The end of a frame (R193, R206, R216) -/

@[simp] theorem OutFrame.header_length (o : OutFrame) : o.header.length = 32 := by
  simp [OutFrame.header]

theorem le_toBeat (n : Nat) : n ≤ toBeat n := by
  unfold toBeat
  omega

/-- The output area of a frame: its lines, the filled last beat, and the header in front. -/
def Dev.writeOut (s : Dev) (o : OutFrame) (b : Nat) : Dev :=
  ((s.memWriteRun 4 (b + 32) o.body).padBeat 4 (b + o.len) (toBeat o.len - o.len)).memWriteRun 4 b o.header

theorem Dev.writeOut_spec (s : Dev) {o : OutFrame} {b : Nat} (room : 32 + o.body.length ≤ o.len) (fits : b + toBeat o.len ≤ s.usableTop) :
    Dev.MemOnly s (s.writeOut o b) ∧ (∀ k, k < 32 → (s.writeOut o b).memWord (b + k) = o.header.getD k 0) ∧
      (∀ k, k < o.body.length → (s.writeOut o b).memWord (b + 32 + k) = o.body.getD k 0) ∧
      ∀ a, a < b ∨ b + toBeat o.len ≤ a → (s.writeOut o b).memWord a = s.memWord a := by
  have whole := le_toBeat o.len
  obtain ⟨lines, body⟩ := s.memWriteRun_spec 4 (b + 32) o.body (by omega)
  obtain ⟨filled, pad⟩ := (s.memWriteRun 4 (b + 32) o.body).padBeat_spec 4 (b + o.len) (toBeat o.len - o.len)
    (by rw [lines.usableTop]; omega)
  obtain ⟨front, header⟩ := ((s.memWriteRun 4 (b + 32) o.body).padBeat 4 (b + o.len) (toBeat o.len - o.len)).memWriteRun_spec 4 b o.header
    (by rw [(lines.trans filled).usableTop, o.header_length]; omega)
  rw [o.header_length] at header
  refine ⟨(lines.trans filled).trans front, fun k hk => ?_, fun k hk => ?_, fun a ha => ?_⟩
  · rw [Dev.writeOut, header, if_pos (by omega), Nat.add_sub_cancel_left]
  · rw [Dev.writeOut, header, if_neg (by omega), pad _ (by omega), body, if_pos (by omega), Nat.add_sub_cancel_left]
  · rw [Dev.writeOut, header, if_neg (by omega), pad _ (by omega), body, if_neg (by omega)]

theorem Dev.outWritten_pip (s : Dev) (num : Word) : (s.outWritten num).pip = s.pip := rfl

/-- PIP is idle again, before the frame is counted. -/
def Dev.frameLeft (s : Dev) (o : OutFrame) : Dev :=
  ((s.outWritten o.num).onPip (fun p => { p with busy := false, frame := none, toLnk := false })).pipReleases o.serial

/-- A frame that ends in an output area without a preview image. -/
theorem Dev.pipEnd_out (s : Dev) {o : OutFrame} {b : Nat} (frame : s.pip.frame = some o) (link : s.pip.toLnk = false)
    (image : s.pip.pvImage = none) (base : o.base = some b) (pip : (s.writeOut o b).pip = s.pip) :
    s.pipEnd = (((s.writeOut o b).frameLeft o).bump R.PIP_FRAME_COUNT).post 8 ((s.writeOut o b).frameLeft o).tb := by
  have noLink : ¬ (s.pip.toLnk && !s.lnkDrained o.num) = true := by rw [link]; exact Bool.false_ne_true
  have noImage : ((s.writeOut o b).outWritten o.num).pip.pvImage = none := by rw [Dev.outWritten_pip, pip, image]
  unfold Dev.pipEnd
  rw [frame]
  dsimp only
  rw [if_neg noLink, base]
  unfold Dev.writeOut at noImage ⊢
  simp only [noImage, Dev.frameLeft]

/-- What leaving the frame does to PIP, and that it stores no word. -/
theorem Dev.frameLeft_spec (s : Dev) (o : OutFrame) :
    (s.frameLeft o).pip.busy = false ∧ (s.frameLeft o).pip.frame = none ∧ (s.frameLeft o).mem.words = s.mem.words ∧
      (s.frameLeft o).seq = s.seq ∧ (s.frameLeft o).tick = s.tick ∧ (s.frameLeft o).tb = s.tb ∧ (s.frameLeft o).ctl = s.ctl :=
  ⟨rfl, rfl, rfl, rfl, rfl, rfl, rfl⟩

theorem Dev.pipEnd_spec (d : Dev) {o : OutFrame} {b : Nat} (frame : d.pip.frame = some o) (link : d.pip.toLnk = false)
    (image : d.pip.pvImage = none) (base : o.base = some b) (room : 32 + o.body.length ≤ o.len) (fits : b + toBeat o.len ≤ d.usableTop) :
    d.pipEnd.pip.busy = false ∧ d.pipEnd.pip.frame = none ∧ (∀ k, k < 32 → d.pipEnd.memWord (b + k) = o.header.getD k 0) ∧
      (∀ k, k < o.body.length → d.pipEnd.memWord (b + 32 + k) = o.body.getD k 0) ∧
      (∀ a, a < b ∨ b + toBeat o.len ≤ a → d.pipEnd.memWord a = d.memWord a) ∧
      d.pipEnd.rd R.PIP_FRAME_COUNT = satInc (d.rd R.PIP_FRAME_COUNT) ∧ d.pipEnd.seq = (d.post 8 d.tb).seq := by
  obtain ⟨only, header, body, outside⟩ := d.writeOut_spec room fits
  have kept : (d.writeOut o b).pip = d.pip ∧ (d.writeOut o b).tb = d.tb ∧ (d.writeOut o b).seq = d.seq ∧ (d.writeOut o b).tick = d.tick ∧
      (d.writeOut o b).ctl = d.ctl := by
    unfold Dev.MemOnly at only
    rw [only]
    exact ⟨rfl, rfl, rfl, rfl, rfl⟩
  obtain ⟨pip, tb, seq, tick, ctl⟩ := kept
  obtain ⟨busy, gone, words, leftSeq, leftTick, leftTb, leftCtl⟩ := (d.writeOut o b).frameLeft_spec o
  rw [d.pipEnd_out frame link image base pip, leftTb, tb]
  have calm := (((d.writeOut o b).frameLeft o).bump R.PIP_FRAME_COUNT).post_calm 8 d.tb
  have stored : ∀ a, ((((d.writeOut o b).frameLeft o).bump R.PIP_FRAME_COUNT).post 8 d.tb).memWord a = (d.writeOut o b).memWord a := fun a => by
    rw [Dev.memWord, Dev.memWord, calm.mem, ← words]
    rfl
  refine ⟨(congrArg Pip.busy calm.pip).trans busy, (congrArg Pip.frame calm.pip).trans gone, fun k hk => (stored _).trans (header k hk),
    fun k hk => (stored _).trans (body k hk), fun a ha => (stored _).trans (outside a ha), ?_, ?_⟩
  · have apartCount : ∀ n : Fin 8, R.PIP_FRAME_COUNT ≠ R.SEQ_THn_EVLOST n := fun n => by
      unfold R.PIP_FRAME_COUNT R.SEQ_THn_EVLOST
      omega
    rw [Dev.post_rd _ _ _ _ apartCount, Dev.bump, Dev.rd_wr, if_pos rfl, Dev.rd, Dev.rd, leftCtl, ctl]
  · obtain ⟨same, -, -⟩ := Dev.post_samePosting
      (Dev.frameCounted_samePosting (leftSeq.trans seq) (leftTick.trans tick) (leftCtl.trans ctl)) 8 d.tb
    exact same

end Sys2Proof.Machine
end

section
/-! The defect map and the preview of PIP, and its obligation (O41). -/

namespace Sys2Proof.Machine

/-! ### Writes of PIP.DMAP_CTRL and PIP.PREVIEW (R176, R178, R197) -/

/-- A word with one bit set besides. -/
theorem bit_or_pow (v : Word) {j k : Nat} (hk : k < 36) : bit (v ||| BitVec.ofNat 36 (2 ^ j)) k = (bit v k || decide (k = j)) := by
  rw [bit, BitVec.getLsbD_or, BitVec.getLsbD_ofNat, Nat.testBit_two_pow]
  simp [bit, hk, eq_comm]

/-- The fields are written, EXT follows when it is or was one, and SWAP is the command. -/
theorem Dev.ctlEff_dmapCtrl (d : Dev) (f : Fuses) (p : Owner) (v : Word) :
    let x := d.storeClear R.PIP_DMAP_CTRL 0x100000000 0x200000000 v
    let y := if bit (d.rd R.PIP_DMAP_CTRL) 32 || bit v 32 then x.extChanged else x
    d.ctlEff f p R.PIP_DMAP_CTRL v = if bit v 35 then y.dmapSwap else y := by
  intro x y
  have written : x.bt R.PIP_DMAP_CTRL 32 = bit v 32 := d.storeClear_bit _ v (by decide) (by decide)
  have ext : (if bit (d.rd R.PIP_DMAP_CTRL) 32 || x.bt R.PIP_DMAP_CTRL 32 then x.extChanged else x) = y := by rw [written]
  rw [← ext]
  rfl

/-- With EXT zero before and after, SWAP is all there is. -/
theorem exec_dmapSwap (s : State) (p : Owner) (v : Word) (now : Now s.dev p) (off : bit v 32 = false)
    (was : bit (s.ready.rd R.PIP_DMAP_CTRL) 32 = false) :
    exec (.dmapSwap p v) s = s.wrote p R.PIP_DMAP_CTRL
      (s.ready.storeClear R.PIP_DMAP_CTRL 0x100000000 0x200000000 (v ||| BitVec.ofNat 36 (2 ^ 35))).dmapSwap := by
  have go : place 35 35 1 = BitVec.ofNat 36 (2 ^ 35) := by decide
  have noExt : bit (v ||| BitVec.ofNat 36 (2 ^ 35)) 32 = false := by rw [bit_or_pow v (by decide), off]; rfl
  change s.write p R.PIP_DMAP_CTRL (v ||| place 35 35 1) = _
  rw [s.write_now p _ _ now (by decide) (by decide), go, Dev.ctlEff_dmapCtrl, was, noExt, goBit v]
  rfl

/-- EXT as one asks for the claim of the extended context. -/
theorem exec_dmapExtEnable (s : State) (p : Owner) (v : Word) (now : Now s.dev p) (noSwap : bit v 35 = false) :
    exec (.dmapExtEnable p v) s = s.wrote p R.PIP_DMAP_CTRL
      ((s.ready.storeClear R.PIP_DMAP_CTRL 0x100000000 0x200000000 (v ||| BitVec.ofNat 36 (2 ^ 32))).askClaim 8 0 [0x030]) := by
  have set : place 32 32 1 = BitVec.ofNat 36 (2 ^ 32) := by decide
  have ext : bit (v ||| BitVec.ofNat 36 (2 ^ 32)) 32 = true := by rw [bit_or_pow v (by decide), decide_eq_true rfl, Bool.or_true]
  have stays : bit (v ||| BitVec.ofNat 36 (2 ^ 32)) 35 = false := by rw [bit_or_pow v (by decide), noSwap]; rfl
  have stored : (s.ready.storeClear R.PIP_DMAP_CTRL 0x100000000 0x200000000 (v ||| BitVec.ofNat 36 (2 ^ 32))).bt R.PIP_DMAP_CTRL 32 = true :=
    (s.ready.storeClear_bit _ _ (by decide) (by decide)).trans ext
  change s.write p R.PIP_DMAP_CTRL (v ||| place 32 32 1) = _
  rw [s.write_now p _ _ now (by decide) (by decide), set, Dev.ctlEff_dmapCtrl, ext, stays, Bool.or_true, if_pos rfl,
    if_neg Bool.false_ne_true, Dev.extChanged, stored, if_pos rfl]

/-- A write of PIP.PREVIEW stores its fields, and EN follows. -/
theorem Dev.ctlEff_preview (d : Dev) (f : Fuses) (p : Owner) (v : Word) :
    d.ctlEff f p R.PIP_PREVIEW v = (d.storeClear R.PIP_PREVIEW 0xFFFFFF 0 v).previewChanged (bit (d.rd R.PIP_PREVIEW) 0) := rfl

/-- With no W1C bits a write stores its fields. -/
theorem Dev.storeClear_zero (d : Dev) (a rw : Nat) (v : Word) : d.storeClear a rw 0 v = d.store a rw v := by
  have clearsNone : ~~~(v &&& BitVec.ofNat 36 0) = BitVec.allOnes 36 := by simp
  rw [Dev.storeClear, Dev.store, clearsNone, BitVec.and_allOnes]

/-- EN as one asks for the claim of the preview, and its count begins anew when it was off. -/
theorem exec_previewEnable (s : State) (p : Owner) (v : Word) (now : Now s.dev p) :
    let pv := s.ready.store R.PIP_PREVIEW 0xFFFFFF (v ||| 1)
    exec (.previewEnable p v) s = s.wrote p R.PIP_PREVIEW
      ((if bit (s.ready.rd R.PIP_PREVIEW) 0 then pv else { pv with pip := { pv.pip with pvCount := 0 } }).askClaim 9 0 [0x030]) := by
  intro pv
  have set : place 0 0 1 = (1 : Word) := by decide
  have on : pv.bt R.PIP_PREVIEW 0 = true := by
    have stored := s.ready.storeClear_bit R.PIP_PREVIEW (rw := 0xFFFFFF) (w1c := 0) (v ||| 1) (k := 0) (by decide) (by decide)
    rw [Dev.storeClear_zero] at stored
    exact stored.trans (by simp [bit])
  change s.write p R.PIP_PREVIEW (v ||| place 0 0 1) = _
  rw [s.write_now p _ _ now (by decide) (by decide), set, Dev.ctlEff_preview, Dev.storeClear_zero]
  change s.wrote p R.PIP_PREVIEW (pv.previewChanged _) = _
  rw [Dev.previewChanged, on, if_pos rfl]
  rfl

/-! ### The defect map (R178) -/

theorem Dev.dmapSwap_taken (d : Dev) {m : List Word}
    (staged : readMap (fun i => Cells.get (fun _ => (0 : Word)) d.pip.staging i) 262081 0 0 = some m) :
    d.dmapSwap = { d with pip := { d.pip with dmapNext := some m } } := by
  rw [Dev.dmapSwap, staged]
  rfl

theorem Dev.dmapSwap_refused (d : Dev) (staged : readMap (fun i => Cells.get (fun _ => (0 : Word)) d.pip.staging i) 262081 0 0 = none) :
    d.dmapSwap = ({ d with pip := { d.pip with dmapNext := none } }.wf R.PIP_DMAP_CTRL 33 33 1).log Ev.DMAP_INVALID 0 0 := by
  rw [Dev.dmapSwap, staged]
  rfl

/-- Settles O41: a frame starts by `Dev.pipStart_spec` and ends by `Dev.pipEnd_spec`, the enables are their writes' effects, and the pixel laws
are those of the stages. -/
theorem pipelineFrames : Obligations.PipelineFrames := by
  unfold Obligations.PipelineFrames
  intro s p v f rest o b s1 m d c start swap ext pv staged
  have runs : ∀ {g : Dev → Dev}, s.dev.dark = false → s.onRun g = s.goes (g d) := fun light => s.onRun_light _ light
  refine ⟨?_, ?_, ?_, ?_, ?_, ?_, ?_, ?_, ?_, ?_, ?_, ?_, ?_, ?_, ?_, ?_⟩
  · intro light ready dropped
    exact (runs light).trans (congrArg s.goes (d.pipStart_discards ready dropped))
  · rintro ⟨light, ready, whole⟩ held
    exact (runs light).trans (congrArg s.goes (Dev.pipStart_held ready whole held))
  · rintro ⟨light, ready, whole⟩ memory full
    exact (runs light).trans (congrArg s.goes (Dev.pipStart_noRoom ready whole memory full))
  · rintro ⟨light, ready, whole⟩ idle enabled memory clean placed
    have free : ¬ d.pipHeld := by
      rintro (busy | off | ⟨link, -⟩)
      · rw [idle] at busy
        exact Bool.false_ne_true busy
      · exact Bool.false_ne_true (off.symm.trans enabled)
      · exact absurd (memory.symm.trans link) (by decide)
    obtain ⟨q, started⟩ := Dev.pipStart_spec ready whole free memory clean placed
    exact ⟨_, q, runs light, started⟩
  · intro light frame link image base room fits
    exact ⟨_, runs light, d.pipEnd_spec frame link image base room fits⟩
  · intro now off was map
    exact (exec_dmapSwap s p v now off was).trans (congrArg _ (Dev.dmapSwap_taken swap map))
  · intro now off was map
    exact (exec_dmapSwap s p v now off was).trans (congrArg _ (Dev.dmapSwap_refused swap map))
  · exact exec_dmapExtEnable s p v
  · exact exec_previewEnable s p v
  · exact fun a k h => rnd_bounds a h
  · exact fun t f w clamp expo j i code hx hy mean plain covered exposed =>
      stage12_unbinned clamp code ⟨hx, hy, mean⟩ plain covered exposed
  · exact fun e rows pre post l q r j row lGood lHere rGood rHere unsaturated =>
      replaceAt_between e row ⟨lGood, lHere⟩ ⟨rGood, rHere⟩ unsaturated
  · exact fun t w j i row q gains h => stage4_getElem w j gains h
  · intro set x z seen e level value linear lo tref xSeen xFresh
    -- The exponent and level of R181 and the value of R182, as the statement writes them out.
    have exponent : ∀ c, e c = blendExp c.res c.cg := fun c => by
      dsimp only [e, blendExp]
      rcases c.res with _ | _ | _ | _ <;> rfl
    have levels : ∀ c, level c = blendLevel c.res 1 c.px.v := fun c => by
      dsimp only [level, blendLevel]
      rw [show ((1 : Nat) : Int) = 1 from rfl, Int.ediv_one]
      rcases c.res with _ | _ | _ | _ <;> rfl
    have values : ∀ c, value c = blendValue set.tref c := fun c => by
      dsimp only [value]
      rw [exponent, blendValue, natCast_two_pow]
      rfl
    have alone : ∀ c, set.alone c = { l := linear (value c), src := c.inf, repl := c.px.repl } := fun c => by
      rw [values]
      rfl
    obtain ⟨xHere, xExposed⟩ := xSeen
    have xUsable : x.Usable := ⟨xHere, xExposed, xFresh⟩
    refine ⟨(blend_single 1 tref xUsable).trans (alone x), fun ⟨zHere, zExposed⟩ zFresh shorter band fits => ?_,
      fun ⟨zHere, zExposed⟩ saturated => blend_saturated 1 zHere zExposed saturated, rfl⟩
    have pair := blend_pair 1 tref xUsable ⟨zHere, zExposed, zFresh⟩ shorter band fits
    rw [← levels] at pair
    have below : lo ≤ set.hi := Int.sub_le_self _ (Int.le_of_lt (two_pow_pos _))
    refine ⟨fun low => ?_, fun above within => ?_, fun beyond => ?_⟩
    · exact pair.trans <| (if_pos (Int.le_trans low below)).trans <| (if_neg (Int.not_lt.mpr low)).trans (alone x)
    · rw [values, values]
      exact pair.trans <| (if_pos within).trans (if_pos above)
    · exact pair.trans <| (if_neg (Int.not_le.mpr beyond)).trans (alone z)
  · exact compand_reset
  · intro width res ped q widths _
    exact outField_eq res ped q (by omega)

end Sys2Proof.Machine
end

section
/-! The frame link: what the end of a decision leaves of it, and the markers of a completed training (O45). -/

namespace Sys2Proof.Machine

/-! ### What leaves the link alone but for packets that join VC2 and VC3 -/

/-- The link is the same but for the packets that wait in VC2 and VC3. -/
def Dev.LinkKept (s t : Dev) : Prop := t.lnk = { s.lnk with vc2 := t.lnk.vc2, vc3 := t.lnk.vc3 }

theorem Dev.LinkKept.refl (s : Dev) : Dev.LinkKept s s := rfl

theorem Dev.LinkKept.trans {s t u : Dev} (h : Dev.LinkKept s t) (k : Dev.LinkKept t u) : Dev.LinkKept s u := by
  unfold Dev.LinkKept at *
  rw [k, h]

theorem Dev.LinkKept.ite {c : Prop} [Decidable c] {s t u : Dev} (h : Dev.LinkKept s t) (k : Dev.LinkKept s u) :
    Dev.LinkKept s (if c then t else u) := by
  split
  · exact h
  · exact k

theorem Dev.LinkKept.of_eq {s t : Dev} (h : t.lnk = s.lnk) : Dev.LinkKept s t := by
  unfold Dev.LinkKept
  rw [h]

theorem Dev.LinkKept.fold {α : Type} (l : List α) (f : Dev → α → Dev) (h : ∀ s x, Dev.LinkKept s (f s x)) (s : Dev) :
    Dev.LinkKept s (l.foldl f s) := by
  induction l generalizing s with
  | nil => exact .refl s
  | cons x rest ih => exact (h s x).trans (ih _)

theorem Dev.LinkKept.markers {s t : Dev} (h : Dev.LinkKept s t) : t.lnk.markers = s.lnk.markers := by
  rw [h]

theorem Dev.post_linkKept (s : Dev) (e : Nat) (st : Stamp) : Dev.LinkKept s (s.post e st) := .of_eq (s.post_lnk e st)

theorem Dev.toVc3_linkKept (s : Dev) (p : LinkPacket) : Dev.LinkKept s (s.toVc3 p) := by
  unfold Dev.toVc3
  split
  · split <;> rfl
  · rfl

theorem Dev.takeEntry_linkKept (s : Dev) (e : LogEntry) : Dev.LinkKept s (s.takeEntry e) := by
  have posted : ∀ (t : Dev) (p : LinkPacket), Dev.LinkKept t ((t.post 45 e.stamp).toVc3 p) := fun t p =>
    (t.post_linkKept _ _).trans (Dev.toVc3_linkKept _ p)
  unfold Dev.takeEntry
  split
  · split
    · split
      · rfl
      · split
        · exact posted _ _
        · rfl
    · exact posted _ _
  · rfl

/-- Handling an event hands LNK a packet for VC3 at most (R523, R248). -/
theorem Dev.happen_linkKept (s : Dev) (e : LogEntry) : Dev.LinkKept s (s.happen e) :=
  (Dev.LinkKept.of_eq (s := s) (Dev.routeEvent_lnk (s.bump _) e.code)).trans (Dev.takeEntry_linkKept _ e)

theorem Dev.log_linkKept (s : Dev) (c x y : Nat) : Dev.LinkKept s (s.log c x y) := by
  unfold Dev.log Dev.logAt
  dsimp only
  split
  · exact s.happen_linkKept _
  · rfl

/-! ### The control fields of threads, and the end of a decision -/

theorem Dev.abortTx_linkKept (s : Dev) (p : Owner) (c : Nat) : Dev.LinkKept s (s.abortTx p c) := by
  have logged : ∀ t : Tx, Dev.LinkKept s ((s.setTx p t).log Ev.TX_ABORT p.code c) := fun t => Dev.log_linkKept (s.setTx p t) _ _ _
  unfold Dev.abortTx
  dsimp only
  split
  · exact (logged _).trans (.of_eq (Dev.postTo_lnk _ _ _ _))
  · exact logged _

theorem Dev.releaseClaim_lnk (s : Dev) (f i : Nat) : (s.releaseClaim f i).lnk = s.lnk := by
  unfold Dev.releaseClaim
  dsimp only
  split <;> rfl

theorem Dev.breakLocks_linkKept (s : Dev) (p : Owner) : Dev.LinkKept s (s.breakLocks p) :=
  .fold _ _ (fun s k => .ite ((Dev.post_linkKept (s.setLock k none) 44 s.tb).trans (Dev.log_linkKept _ _ _ _)) (.refl s)) s

/-- An owner reset reaches the link through the events it logs alone (R297). -/
theorem Dev.ownerReset_linkKept (s : Dev) (p : Owner) : Dev.LinkKept s (s.ownerReset p) := by
  refine Dev.LinkKept.trans ?_ (Dev.breakLocks_linkKept _ p)
  have aborted : Dev.LinkKept s (if (s.tx p).live then s.abortTx p 3 else s) := .ite (s.abortTx_linkKept p 3) (.refl s)
  generalize (if (s.tx p).live then s.abortTx p 3 else s) = t at aborted
  cases p with
  | thread n => exact aborted.trans (.fold _ _ (fun s c => .of_eq (s.releaseClaim_lnk 7 _)) t)
  | _ => exact aborted

theorem Dev.threadFault_linkKept (s : Dev) (n : Fin 8) (c : Nat) : Dev.LinkKept s (s.threadFault n c) :=
  (Dev.log_linkKept (s.setTh n _) _ _ _).trans ((Dev.post_linkKept _ _ _).trans (Dev.ownerReset_linkKept _ _))

/-- START, STOP and RESET of a thread leave the link alone (R272). -/
theorem Dev.threadAct_linkKept (s : Dev) (n : Fin 8) (b : Nat) (x : ThreadCtl) : Dev.LinkKept s (s.threadAct n b x) := by
  cases x with
  | start =>
    unfold Dev.threadAct Dev.threadStartAt
    dsimp only
    split
    · split
      · exact (Dev.LinkKept.of_eq rfl).trans (Dev.threadFault_linkKept (s.setTh n _) n 2)
      · rfl
    · rfl
  | stop =>
    unfold Dev.threadAct Dev.threadStop
    dsimp only
    split <;> rfl
  | reset =>
    unfold Dev.threadAct Dev.threadClear
    refine Dev.LinkKept.trans ?_ (Dev.ownerReset_linkKept _ _)
    rfl

theorem Dev.threadDue_linkKept (s : Dev) (n : Fin 8) : Dev.LinkKept s (s.threadDue n) := by
  unfold Dev.threadDue
  dsimp only
  split
  · exact .refl s
  · split
    · exact Dev.LinkKept.fold (s.th n).ctl (fun (s : Dev) x => s.threadAct n _ x) (fun s x => s.threadAct_linkKept n _ x) _
    · exact .refl s
  · exact .refl s

theorem Dev.endDecision_linkKept (s old : Dev) : Dev.LinkKept s (s.endDecision old) :=
  Dev.LinkKept.fold _ Dev.happen Dev.happen_linkKept { s with evt := { s.evt with held := none } }

theorem Dev.watchGroups_lnk (s : Dev) : s.watchGroups.lnk = s.lnk := by
  unfold Dev.watchGroups
  split <;> rfl

/-- The end of a decision leaves the link alone but for packets that join VC3 (R523, R272, R426). -/
theorem Dev.decided_linkKept (s old : Dev) : Dev.LinkKept s (s.decided old) :=
  (Dev.LinkKept.fold _ _ Dev.threadDue_linkKept s).trans
    ((Dev.endDecision_linkKept _ old).trans (.of_eq (Dev.watchGroups_lnk _)))

/-! ### The marker that completes a training (R238, R258) -/

theorem exec_alignmentMarker (s : State) (pv : Bool) (ok : BitVec 35) (light : s.dev.dark = false) :
    exec (.alignmentMarker pv ok) s = s.goes (s.dev.hold.alignmentMarker pv ok.toNat).settle :=
  s.onRun_light (fun d => (d.alignmentMarker pv ok.toNat).settle) light

theorem State.withDev_dev (s : State) (d : Dev) : (s.withDev d).dev = d := rfl

/-- Two blocks with one outcome are the same once the decision has ended. -/
theorem State.goes_inj {s : State} {x y : Dev} (h : s.goes x = s.goes y) : x.decided s.dev = y.decided s.dev := by
  rw [State.goes, State.goes, Host.Outcome.next.injEq] at h
  rw [← s.withDev_dev (x.decided s.dev), h, s.withDev_dev]

/-- A machine in which a training waits for the marker of its last step. -/
def awaitingMarker : State :=
  State.reset.withDev { State.reset.dev with lnk := { state := 1, idle := false, train := some { start := 0, stage := .marker } } }

/-- The markers of the frame link go out on each of its 34 lanes, spares included (R238, R239). -/
theorem awaitingMarker_sends_34 :
    ((awaitingMarker.dev.hold.alignmentMarker false (BitVec.allOnes 35).toNat).settle.decided awaitingMarker.dev).lnk.markers.length = 34 := by
  decide +kernel

/-- Refutes O45: of the marker that completes a training the obligation says that the link shows 3 markers, but each of the 34 lanes of the
frame link sends its own (R238, R239), and the end of the decision takes none back (`Dev.decided_linkKept`). -/
theorem not_linkTrains : ¬ Obligations.LinkTrains := by
  unfold Obligations.LinkTrains
  intro trains
  have light : awaitingMarker.dev.dark = false := by decide +kernel
  obtain ⟨-, -, -, -, -, -, -, completes, -⟩ :=
    trains awaitingMarker .host 0 (BitVec.allOnes 35) { start := 0, stage := .marker } false
  obtain ⟨y, ran, -, -, -, -, -, -, -, -, three, -⟩ := completes light rfl rfl rfl rfl rfl rfl
  rw [exec_alignmentMarker _ _ _ light] at ran
  have sent := awaitingMarker_sends_34
  rw [State.goes_inj ran, (y.decided_linkKept _).markers, three] at sent
  exact absurd sent (by decide)

end Sys2Proof.Machine
end

section
/-! The stream of the frame link: blocks that join it, and what they leave alone (O44). -/

namespace Sys2Proof.Machine

/-! ### Blocks that join the stream (R234, R237, R238) -/

/-- Blocks join the stream of the frame link, one after another. -/
def Lnk.sendAll (l : Lnk) (bs : List Block) : Lnk := bs.foldl Lnk.stream l

theorem Dev.sendFrameLink_lnk (s : Dev) (bs : List Block) : s.sendFrameLink bs = { s with lnk := s.lnk.sendAll bs } := rfl

/-- The link `m` with the stream of `l`: its next block, what stands behind a marker, and what the lanes have sent. -/
def Lnk.streamFrom (m l : Lnk) : Lnk := { m with k := l.k, behind := l.behind, pos := l.pos, scr := l.scr, sent := l.sent }

theorem Lnk.onLane_streamFrom (m l : Lnk) (lane : Nat) (b : Block) : (m.streamFrom l).onLane lane b = m.streamFrom (l.onLane lane b) := by
  unfold Lnk.onLane Lnk.streamFrom
  split <;> rfl

/-- Where a block joins the stream depends on the stream and the lane map alone. -/
theorem Lnk.stream_streamFrom {m l : Lnk} (map : m.map = l.map) (wide : m.wide = l.wide) (b : Block) :
    (m.streamFrom l).stream b = m.streamFrom (l.stream b) := by
  have lane : (m.streamFrom l).map.getD ((m.streamFrom l).k % (m.streamFrom l).lanes) 63 = l.map.getD (l.k % l.lanes) 63 := by
    show m.map.getD (l.k % m.lanes) 63 = _
    rw [Lnk.lanes, map, wide, Lnk.lanes]
  have due : (m.streamFrom l).mustMark = l.mustMark := by
    rw [Lnk.mustMark, lane]
    rfl
  rw [Lnk.stream, Lnk.stream, due]
  split
  · rfl
  · rw [Lnk.stripe, lane, Lnk.onLane_streamFrom]
    rfl

theorem Lnk.stream_eq (l : Lnk) (b : Block) : l.stream b = l.streamFrom (l.stream b) := l.stream_streamFrom rfl rfl b

theorem Lnk.sendAll_streamFrom {m l : Lnk} (map : m.map = l.map) (wide : m.wide = l.wide) (bs : List Block) :
    (m.streamFrom l).sendAll bs = m.streamFrom (l.sendAll bs) := by
  unfold Lnk.sendAll
  induction bs generalizing l with
  | nil => rfl
  | cons b bs ih =>
    rw [List.foldl_cons, List.foldl_cons, Lnk.stream_streamFrom map wide]
    exact ih (map.trans (congrArg Lnk.map (l.stream_eq b)).symm) (wide.trans (congrArg Lnk.wide (l.stream_eq b)).symm)

/-- Blocks that join the stream change the stream alone. -/
theorem Lnk.sendAll_eq (l : Lnk) (bs : List Block) : l.sendAll bs = l.streamFrom (l.sendAll bs) := l.sendAll_streamFrom rfl rfl bs

@[simp] theorem Lnk.sendAll_frame (l : Lnk) (bs : List Block) :
    (l.sendAll bs).state = l.state ∧ (l.sendAll bs).stalled = l.stalled ∧ (l.sendAll bs).endEarly = l.endEarly ∧ (l.sendAll bs).pv = l.pv ∧
    (l.sendAll bs).cur = l.cur ∧ (l.sendAll bs).owe = l.owe ∧ (l.sendAll bs).vc3 = l.vc3 ∧ (l.sendAll bs).seq3 = l.seq3 ∧
    (l.sendAll bs).lastFs = l.lastFs ∧ (l.sendAll bs).swap0 = l.swap0 ∧ (l.sendAll bs).wide = l.wide := by
  rw [l.sendAll_eq bs]
  exact ⟨rfl, rfl, rfl, rfl, rfl, rfl, rfl, rfl, rfl, rfl, rfl⟩

theorem Lnk.sendAll_endEarly (l : Lnk) (bs : List Block) : (l.sendAll bs).endEarly = l.endEarly := by simp

/-- The frame in flight is no part of the stream. -/
theorem Lnk.sendAll_cur (l : Lnk) (x : Option TxFrame) (bs : List Block) :
    ({ l with cur := x } : Lnk).sendAll bs = { l.sendAll bs with cur := x } := by
  rw [l.sendAll_eq bs]
  exact Lnk.sendAll_streamFrom (m := { l with cur := x }) (l := l) rfl rfl bs

theorem Lnk.sendAll_append (l : Lnk) (bs cs : List Block) : l.sendAll (bs ++ cs) = (l.sendAll bs).sendAll cs := List.foldl_append

/-- A block is counted where it leaves on a lane, and else stands behind a marker (R237, R238). -/
theorem Lnk.stream_count (l : Lnk) (b : Block) : (l.stream b).k + (l.stream b).behind.length = l.k + l.behind.length + 1 := by
  have behind : (l.stripe b).behind = l.behind := by
    unfold Lnk.stripe Lnk.onLane
    split <;> rfl
  unfold Lnk.stream
  split
  · rw [List.length_append, List.length_singleton, Nat.add_assoc]
  · rw [behind]
    show l.k + 1 + _ = _
    omega

theorem Lnk.sendAll_count (l : Lnk) (bs : List Block) :
    (l.sendAll bs).k + (l.sendAll bs).behind.length = l.k + l.behind.length + bs.length := by
  unfold Lnk.sendAll
  induction bs generalizing l with
  | nil => rfl
  | cons b bs ih =>
    rw [List.foldl_cons, ih, l.stream_count b, List.length_cons]
    omega

/-- A marker comes first while blocks stand behind one, or where the next lane has sent the 16,383 blocks between two (R238). -/
theorem Lnk.mustMark_iff (l : Lnk) : l.mustMark = true ↔
    l.behind ≠ [] ∨ ∃ h : l.map.getD (l.k % l.lanes) 63 < 35, 16383 ≤ l.pos[l.map.getD (l.k % l.lanes) 63] := by
  unfold Lnk.mustMark Lnk.markerDue
  generalize l.map.getD (l.k % l.lanes) 63 = lane
  split
  · next h => simp [h]
  · next h => simp [h]

theorem Lnk.behind_nil {l : Lnk} (free : l.mustMark = false) : l.behind = [] :=
  Classical.byContradiction fun waits => Bool.false_ne_true (free.symm.trans (l.mustMark_iff.mpr (.inl waits)))

theorem Lnk.stream_behind {l : Lnk} (due : l.mustMark = true) (b : Block) : l.stream b = { l with behind := l.behind ++ [b] } := if_pos due

theorem Lnk.stream_stripe {l : Lnk} (free : l.mustMark = false) (b : Block) : l.stream b = l.stripe b := by
  rw [Lnk.stream, free, if_neg Bool.false_ne_true]

end Sys2Proof.Machine
end

section
/-! Packets of the frame link: lines of the frame in flight, underruns, and the end of a frame (O44). -/

namespace Sys2Proof.Machine

/-! ### Packets (R250, R253, R264) -/

/-- The VC0 frame in flight once a packet of channel `vc` goes on: the coasting of the link PLL marks it (R264). -/
def Dev.curMarked (s : Dev) (vc : Nat) : Option TxFrame :=
  if s.lkHoldover = true ∧ vc = 0 then s.lnk.cur.map (fun c => { c with holdover := c.holdover || c.fsSent }) else s.lnk.cur

theorem Dev.markHoldover_eq (s : Dev) (vc : Nat) (pv : s.lnk.pv = none) :
    s.markHoldover vc = { s with lnk := { s.lnk with cur := s.curMarked vc } } := by
  have pvSame : ({ s with lnk := { s.lnk with pv := s.lnk.pv.map (fun p => { p with holdover := p.holdover || p.line != 0 }) } } : Dev) = s := by
    rw [pv, Option.map_none, ← pv]
  unfold Dev.markHoldover Dev.curMarked
  cases coasts : s.lkHoldover with
  | false => simp
  | true =>
    by_cases h0 : vc = 0
    · subst h0
      rfl
    · by_cases h1 : vc = 1
      · subst h1
        exact pvSame
      · simp [h0, h1]

/-- A frame that says already that the link PLL coasts is marked no further. -/
theorem Dev.markHoldover_marked {s : Dev} {c : TxFrame} (pv : s.lnk.pv = none) (cur : s.lnk.cur = some c)
    (marked : s.lkHoldover = true → c.holdover = true) : s.markHoldover 0 = s := by
  have same : s.curMarked 0 = s.lnk.cur := by
    unfold Dev.curMarked
    split
    · next coasts =>
      have held : { c with holdover := c.holdover || c.fsSent } = c := by rw [marked coasts.1, Bool.true_or, ← marked coasts.1]
      rw [cur, Option.map_some, held]
    · rfl
  rw [s.markHoldover_eq 0 pv, same]

theorem Dev.pvOwnLane_none {s : Dev} (vc : Nat) (pv : s.lnk.pv = none) : s.pvOwnLane vc = false := by
  rw [Dev.pvOwnLane, pv, Bool.and_false]

/-- With no preview frame in flight a packet whose words are all there joins the stream of the frame link. -/
theorem Dev.sendPacket_whole {s : Dev} (vc lead : Nat) (last : Bool) (bs : List Block) (pv : s.lnk.pv = none) :
    s.sendPacket vc last lead bs none = ((s.markHoldover vc).sendFrameLink bs).packetDone vc last := by
  have pv' : (s.markHoldover vc).lnk.pv = none := by rw [s.markHoldover_eq vc pv, pv]
  unfold Dev.sendPacket
  dsimp only
  rw [pv']

/-- Words that are missing hold the packet after the blocks before them; past its lead that is an underrun (R253). -/
theorem Dev.sendPacket_stalls {s : Dev} (vc lead : Nat) (last : Bool) {bs : List Block} {n : Nat} (pv : s.lnk.pv = none) (short : n < bs.length) :
    s.sendPacket vc last lead bs (some n) =
      (let t := (s.markHoldover vc).sendFrameLink (bs.take n)
       (if lead < n then t.underrun vc else t).onLnk (fun l => { l with stalled := some ⟨bs.drop n, vc, last, lead - n⟩ })) := by
  have pv' : (s.markHoldover vc).lnk.pv = none := by rw [s.markHoldover_eq vc pv, pv]
  unfold Dev.sendPacket
  dsimp only
  rw [pv', s.pvOwnLane_none vc pv, if_pos short, if_neg Bool.false_ne_true]

/-- An underrun of VC0 is counted, and logged once for a frame (R253). -/
theorem Dev.underrun_vc0 {s : Dev} {c : TxFrame} (cur : s.lnk.cur = some c) : s.underrun 0 =
    (let z := s.bump R.LNK_UNDERRUN_COUNT
     let w := if c.underrun then z else z.log Ev.LINK_UNDERRUN 0 0
     { w with lnk := { w.lnk with cur := some { c with underrun := true } } }) := by
  have counted : (s.bump R.LNK_UNDERRUN_COUNT).lnk.cur = some c := cur
  unfold Dev.underrun
  rw [if_pos rfl]
  dsimp only
  rw [counted]
  rfl

theorem Dev.packetDone_more {s : Dev} (vc : Nat) (early : s.lnk.endEarly = false) : s.packetDone vc false = s := by
  simp [Dev.packetDone, early]

/-- After the last line of a frame comes its FE (R250). -/
theorem Dev.packetDone_last {s : Dev} {c : TxFrame} (cur : s.lnk.cur = some c) (early : (s.sendFe0 c).lnk.endEarly = false) :
    s.packetDone 0 true = s.sendFe0 c := by
  simp [Dev.packetDone, cur, early]

/-! ### The end of a VC0 frame (R248, R251) -/

/-- What is left alone after the trailer of a frame: the link but for what waits in VC2 and VC3, the registers but for the lost counts, and
frame memory's words. -/
structure Dev.TrailerKept (s t : Dev) : Prop where
  link : Dev.LinkKept s t
  rd : ∀ a, (∀ n : Fin 8, a ≠ R.SEQ_THn_EVLOST n) → t.rd a = s.rd a
  words : t.mem.words = s.mem.words

theorem Dev.TrailerKept.refl (s : Dev) : Dev.TrailerKept s s := ⟨.refl s, fun _ _ => rfl, rfl⟩

theorem Dev.TrailerKept.trans {s t u : Dev} (h : Dev.TrailerKept s t) (k : Dev.TrailerKept t u) : Dev.TrailerKept s u :=
  ⟨h.link.trans k.link, fun a ha => (k.rd a ha).trans (h.rd a ha), k.words.trans h.words⟩

theorem Dev.post_trailerKept (s : Dev) (e : Nat) (st : Stamp) : Dev.TrailerKept s (s.post e st) :=
  ⟨s.post_linkKept e st, fun a ha => s.post_rd e st a ha, congrArg Mem.words (s.post_calm e st).mem⟩

/-- The counters of a frame that has left, and no frame in flight. -/
def Dev.frameCounted (s : Dev) (c : TxFrame) : Dev :=
  ((s.bump R.LNK_FRAMES_SENT).wr R.LNK_LAST_FRAME c.frame.num).onLnk (fun l => { l with cur := none, swap0 := false, had0 := true })

theorem Dev.endVc0_trailerKept (s : Dev) {c : TxFrame} (after : c.after = .nothing) : Dev.TrailerKept (s.frameCounted c) (s.endVc0 c) := by
  have copied : ∀ (t : Dev) (p : LinkPacket), Dev.TrailerKept t (if t.bt R.LNK_CTRL 15 then t.onLnk (fun l => { l with vc2 := l.vc2 ++ [p] }) else t) := by
    intro t p
    split <;> exact ⟨rfl, fun _ _ => rfl, rfl⟩
  have released : ∀ t : Dev, Dev.TrailerKept t (match c.area with
      | some b => if t.bt R.LNK_CTRL 13 then t.releaseOutAt b else t
      | none => t) := by
    intro t
    split
    · split <;> exact ⟨rfl, fun _ _ => rfl, rfl⟩
    · exact .refl t
  have all := (Dev.post_trailerKept (s.frameCounted c) 9 (s.frameCounted c).tb).trans ((copied _ ⟨0, (OutFrame.header c.frame).take 6⟩).trans (released _))
  unfold Dev.endVc0
  rw [after]
  exact all

/-- A frame that nothing follows has left: it is counted and no longer in flight; the stream and what a training waits for stay. -/
structure Dev.FrameLeft (s : Dev) (c : TxFrame) (t : Dev) : Prop where
  cur : t.lnk.cur = none
  k : t.lnk.k = s.lnk.k
  behind : t.lnk.behind = s.lnk.behind
  endEarly : t.lnk.endEarly = s.lnk.endEarly
  sent : t.rd R.LNK_FRAMES_SENT = satInc (s.rd R.LNK_FRAMES_SENT)
  last : t.rd R.LNK_LAST_FRAME = c.frame.num
  tags : t.rd R.SEC_TAG_COUNT = s.rd R.SEC_TAG_COUNT
  words : t.mem.words = s.mem.words

theorem Dev.frameCounted_rd (s : Dev) (c : TxFrame) (a : Nat) : (s.frameCounted c).rd a =
    if a = R.LNK_LAST_FRAME then c.frame.num else if a = R.LNK_FRAMES_SENT then satInc (s.rd R.LNK_FRAMES_SENT) else s.rd a := by
  show ((s.bump R.LNK_FRAMES_SENT).wr R.LNK_LAST_FRAME c.frame.num).rd a = _
  rw [Dev.rd_wr, Dev.bump, Dev.rd_wr]

theorem lostCount_ne {a : Nat} (h : a < 0x10000) (n : Fin 8) : a ≠ R.SEQ_THn_EVLOST n := by
  unfold R.SEQ_THn_EVLOST
  omega

theorem Dev.endVc0_spec (s : Dev) {c : TxFrame} (after : c.after = .nothing) : Dev.FrameLeft s c (s.endVc0 c) := by
  obtain ⟨link, rd, words⟩ := s.endVc0_trailerKept after
  have reads : ∀ a, a < 0x10000 → (s.endVc0 c).rd a = (s.frameCounted c).rd a := fun a h => rd a (lostCount_ne h)
  constructor
  case cur => rw [link]; rfl
  case k => rw [link]; rfl
  case behind => rw [link]; rfl
  case endEarly => rw [link]; rfl
  case sent => rw [reads _ (by decide), Dev.frameCounted_rd]; rfl
  case last => rw [reads _ (by decide), Dev.frameCounted_rd]; rfl
  case tags => rw [reads _ (by decide), Dev.frameCounted_rd]; rfl
  case words => exact words

/-- A frame without a tag: its FE and trailer leave at once. -/
theorem Dev.sendFe0_plain (s : Dev) {c : TxFrame} (auth : c.auth = false) : ∃ bs : List Block, bs.length = 6 ∧
    s.sendFe0 c = (s.sendFrameLink bs).endVc0 c := by
  refine ⟨feBlocks (feValue (s.fe0 c)) (trailerHead c.frame.num c.frame.stamp c.frame.status) [], rfl, ?_⟩
  rw [Dev.sendFe0, auth, if_neg Bool.false_ne_true]

/-- A frame with a tag: its FE is held for SEC (R254, R503). -/
theorem Dev.sendFe0_held (s : Dev) {c : TxFrame} (auth : c.auth = true) :
    s.sendFe0 c = { s with lnk := { s.lnk with cur := some { c with tagWait := some (BitVec.ofNat 64 (feValue (s.fe0 c))) } } } := by
  rw [Dev.sendFe0, if_pos auth]
  rfl

/-- With its tag the held FE leaves with the trailer (R254, R503). -/
theorem Dev.tagReady_spec {d : Dev} {c : TxFrame} {fe : BitVec 64} (cur : d.lnk.cur = some c) (held : c.tagWait = some fe) :
    ∃ bs : List Block, bs.length = 6 ∧ d.tagReady = ((d.bump R.SEC_TAG_COUNT).sendFrameLink bs).endVc0 c := by
  let head := trailerHead c.frame.num c.frame.stamp c.frame.status
  refine ⟨feBlocks fe.toNat head (d.frameTag c fe head), rfl, ?_⟩
  rw [Dev.tagReady, cur]
  dsimp only
  rw [held]

/-- With its tag the held FE leaves with the trailer, and the frame has left (R254, R503). -/
theorem Dev.tagReady_ends {d : Dev} {c : TxFrame} {fe : BitVec 64} (cur : d.lnk.cur = some c) (held : c.tagWait = some fe)
    (after : c.after = .nothing) : ∃ t : Dev, d.tagReady = t ∧ t.lnk.cur = none ∧
      t.lnk.k + t.lnk.behind.length = d.lnk.k + d.lnk.behind.length + 6 ∧ t.rd R.SEC_TAG_COUNT = satInc (d.rd R.SEC_TAG_COUNT) ∧
      t.rd R.LNK_FRAMES_SENT = satInc (d.rd R.LNK_FRAMES_SENT) ∧ t.rd R.LNK_LAST_FRAME = c.frame.num := by
  obtain ⟨bs, six, ready⟩ := Dev.tagReady_spec cur held
  obtain ⟨gone, k, behind, -, sent, last, tags, -⟩ := ((d.bump R.SEC_TAG_COUNT).sendFrameLink bs).endVc0_spec after
  refine ⟨_, ready, gone, ?_, tags.trans ?_, sent.trans (congrArg satInc ?_), last⟩
  · rw [k, behind, ← six]
    exact Lnk.sendAll_count d.lnk bs
  · exact (Dev.rd_wr _ _ _ _).trans (if_pos rfl)
  · exact (Dev.rd_wr _ _ _ _).trans (if_neg (by decide))

/-! ### The boundary of a packet (R250) -/

/-- The link after a gap of `idle` IDLE blocks. -/
def Lnk.gap (l : Lnk) (idle : Nat) : Lnk := ({ l with sent := [] } : Lnk).sendAll (List.replicate idle idleBlock)

theorem Dev.sendFrameLink_gap (d : Dev) (idle : Nat) :
    (d.onLnk (fun l => { l with sent := [] })).sendFrameLink (List.replicate idle idleBlock) = { d with lnk := d.lnk.gap idle } := rfl

@[simp] theorem Lnk.gap_frame (l : Lnk) (idle : Nat) :
    (l.gap idle).state = l.state ∧ (l.gap idle).stalled = l.stalled ∧ (l.gap idle).endEarly = l.endEarly ∧ (l.gap idle).pv = l.pv ∧
    (l.gap idle).cur = l.cur ∧ (l.gap idle).owe = l.owe ∧ (l.gap idle).vc3 = l.vc3 ∧ (l.gap idle).seq3 = l.seq3 ∧
    (l.gap idle).lastFs = l.lastFs ∧ (l.gap idle).swap0 = l.swap0 ∧ (l.gap idle).wide = l.wide :=
  Lnk.sendAll_frame { l with sent := [] } _

theorem Lnk.gap_count {l : Lnk} (idle : Nat) (free : l.mustMark = false) : (l.gap idle).k + (l.gap idle).behind.length = l.k + idle := by
  rw [Lnk.gap, Lnk.sendAll_count, List.length_replicate]
  show l.k + l.behind.length + idle = _
  rw [Lnk.behind_nil free]
  rfl

/-- The link is up, with the frame `c` in flight, and no marker stands before the unit that follows the gap. -/
structure Lnk.MaySend (l : Lnk) (idle : Nat) (c : TxFrame) : Prop where
  state : l.state = 2
  stalled : l.stalled = none
  endEarly : l.endEarly = false
  pv : l.pv = none
  cur : l.cur = some c
  tagWait : c.tagWait = none
  free : l.mustMark = false
  room : (l.gap idle).mustMark = false

/-- After the gap comes the unit of a channel: VC0's, unless one of another channel is owed. -/
theorem Dev.frameBoundary_unit {d : Dev} {idle : Nat} {c : TxFrame} (may : d.lnk.MaySend idle c) (stall : Option Nat) :
    d.frameBoundary idle stall =
      (let g : Dev := { d with lnk := d.lnk.gap idle }
       if d.lnk.owe then
         (if ((g.onLnk (fun l => { l with owe := false })).otherUnit stall).1 then ((g.onLnk (fun l => { l with owe := false })).otherUnit stall).2
          else g.vc0Unit c stall)
       else g.vc0Unit c stall) := by
  obtain ⟨state, stalled, endEarly, pv, cur, tagWait, free, room⟩ := may
  have gapMark : ({ d with lnk := d.lnk.gap idle } : Dev).lnk.mustMark = false := room
  have gapEarly : ({ d with lnk := d.lnk.gap idle } : Dev).lnk.endEarly = false := by simp [endEarly]
  have gapCur : ({ d with lnk := d.lnk.gap idle } : Dev).lnk.cur = some c := by simp [cur]
  have gapOwe : ({ d with lnk := d.lnk.gap idle } : Dev).lnk.owe = d.lnk.owe := by simp
  unfold Dev.frameBoundary
  rw [if_neg (by simp [state, stalled, free])]
  dsimp only
  rw [Dev.sendFrameLink_gap]
  generalize ({ d with lnk := d.lnk.gap idle } : Dev) = g at *
  simp [gapMark, gapEarly, gapCur, gapOwe, tagWait]

theorem Dev.frameBoundary_stays {d : Dev} (idle : Nat) (stall : Option Nat) (h : d.lnk.state ≠ 2 ∨ d.lnk.mustMark = true) :
    d.frameBoundary idle stall = d := if_pos (h.imp id .inr)

/-! ### Lines of the frame in flight (R242, R250) -/

/-- The packet of a line. -/
def TxFrame.linePacket (c : TxFrame) (ln : OutLine) : List Block :=
  packet 0 c.frame.fmt ln.win ln.row (field c.frame.num 15 0) ln.sat ln.ue ln.words

/-- The frame in flight once a line is sent, with the lines that are left; `coasts` says that the link PLL does. -/
def TxFrame.lineSent (c : TxFrame) (coasts : Bool) (ln : OutLine) (more : List OutLine) : TxFrame :=
  { c with rest := more, holdover := c.holdover || coasts, ue := c.ue || ln.ue, lines := c.lines + 1,
           covered := if c.auth then c.covered ++ (c.linePacket ln).map (·.payload) else [] }

/-- The frame comes from PIP, its FS is sent, and `ln` is its next line. -/
structure TxFrame.Sending (c : TxFrame) (ln : OutLine) (more : List OutLine) : Prop where
  area : c.area = none
  fsSent : c.fsSent = true
  rest : c.rest = ln :: more
  lens : c.lens = []

theorem Dev.nextLine_pip (s : Dev) {c : TxFrame} {ln : OutLine} {more : List OutLine} (area : c.area = none) (rest : c.rest = ln :: more) :
    s.nextLine c = some (ln, { c with rest := more }, s) := by
  rw [Dev.nextLine, area, rest]

theorem Dev.vc0Unit_line (s : Dev) {c : TxFrame} {ln : OutLine} {more : List OutLine} (sending : c.Sending ln more) (stall : Option Nat) :
    s.vc0Unit c stall = (s.onLnk (fun l => { l with cur := some (c.lineSent s.lkHoldover ln more), owe := true })).sendPacket 0
      (!(c.lineSent s.lkHoldover ln more).more) 0 (c.linePacket ln) stall := by
  obtain ⟨area, fsSent, rest, lens⟩ := sending
  unfold Dev.vc0Unit
  rw [if_pos fsSent]
  dsimp only
  rw [Dev.nextLine_pip _ (c := { c with holdover := c.holdover || s.lkHoldover }) area rest]
  dsimp only
  rw [List.nil_append, List.length_nil]
  rfl

/-- The block with a line of the frame on its way. -/
def Dev.lineBegun (d : Dev) (idle : Nat) (c : TxFrame) (ln : OutLine) (more : List OutLine) : Dev :=
  { d with lnk := { d.lnk.gap idle with cur := some (c.lineSent d.lkHoldover ln more), owe := true } }

theorem TxFrame.lineSent_more {c : TxFrame} {ln : OutLine} {more : List OutLine} (coasts : Bool) (sending : c.Sending ln more) :
    (c.lineSent coasts ln more).more = !more.isEmpty := by
  show (!more.isEmpty || !c.lens.isEmpty) = _
  rw [sending.lens]
  simp

/-- With no unit owed a packet boundary sends the next line of the frame in flight. -/
theorem Dev.frameBoundary_line {d : Dev} {idle : Nat} {c : TxFrame} {ln : OutLine} {more : List OutLine} (may : d.lnk.MaySend idle c)
    (owe : d.lnk.owe = false) (sending : c.Sending ln more) (stall : Option Nat) :
    d.frameBoundary idle stall = (d.lineBegun idle c ln more).sendPacket 0 more.isEmpty 0 (c.linePacket ln) stall := by
  rw [Dev.frameBoundary_unit may, owe]
  show Dev.vc0Unit _ c stall = _
  rw [Dev.vc0Unit_line _ sending, TxFrame.lineSent_more _ sending, Bool.not_not]
  rfl

theorem Dev.lineBegun_cur (d : Dev) (idle : Nat) (c : TxFrame) (ln : OutLine) (more : List OutLine) (bs : List Block) :
    ((d.lineBegun idle c ln more).sendFrameLink bs).lnk.cur = some (c.lineSent d.lkHoldover ln more) := by
  show (Lnk.sendAll { d.lnk.gap idle with cur := _, owe := _ } bs).cur = _
  simp

section
variable {d : Dev} {idle : Nat} {c : TxFrame} {ln : OutLine} {more : List OutLine} (may : d.lnk.MaySend idle c)
include may

theorem Dev.lineBegun_pv : (d.lineBegun idle c ln more).lnk.pv = none := by
  show (d.lnk.gap idle).pv = none
  simp [may.pv]

theorem Dev.lineBegun_marked : (d.lineBegun idle c ln more).markHoldover 0 = d.lineBegun idle c ln more :=
  Dev.markHoldover_marked (c := c.lineSent d.lkHoldover ln more) (Dev.lineBegun_pv may) rfl
    (fun coasts => (congrArg (c.holdover || ·) coasts).trans (Bool.or_true _))

/-- A line whose words are all there. -/
theorem Dev.lineBegun_whole (last : Bool) (bs : List Block) :
    (d.lineBegun idle c ln more).sendPacket 0 last 0 bs none = ((d.lineBegun idle c ln more).sendFrameLink bs).packetDone 0 last := by
  rw [Dev.sendPacket_whole _ _ _ _ (Dev.lineBegun_pv may), Dev.lineBegun_marked may]

theorem Dev.lineBegun_early (bs : List Block) : ((d.lineBegun idle c ln more).sendFrameLink bs).lnk.endEarly = false := by
  show (Lnk.sendAll { d.lnk.gap idle with cur := _, owe := _ } bs).endEarly = false
  simp [may.endEarly]

/-- The blocks of the gap and of the line are counted or stand behind a marker. -/
theorem Dev.lineBegun_count (bs : List Block) : ((d.lineBegun idle c ln more).sendFrameLink bs).lnk.k +
    ((d.lineBegun idle c ln more).sendFrameLink bs).lnk.behind.length = d.lnk.k + idle + bs.length := by
  have gap := Lnk.gap_count idle may.free
  exact (Lnk.sendAll_count _ bs).trans (congrArg (· + bs.length) gap)

end

end Sys2Proof.Machine
end

section
/-! What a packet boundary sends, held packets that go on, the start of a preview frame, and the obligation on the units of the frame link (O44). -/

namespace Sys2Proof.Machine

/-! ### What a packet boundary sends (R242, R246, R247, R250, R253, R254) -/

/-- The block with the first `n` blocks of the line sent. -/
def Dev.lineCut (d : Dev) (idle : Nat) (c : TxFrame) (ln : OutLine) (more : List OutLine) (n : Nat) : Dev :=
  (d.lineBegun idle c ln more).sendFrameLink ((c.linePacket ln).take n)

/-- The frame in flight after its last line, its FE held for SEC. -/
def Dev.lineHeld (d : Dev) (idle : Nat) (c : TxFrame) (ln : OutLine) (more : List OutLine) : TxFrame :=
  { c.lineSent d.lkHoldover ln more with
    tagWait := some (BitVec.ofNat 64 (feValue (({ d with lnk := d.lnk.gap idle } : Dev).fe0 (c.lineSent d.lkHoldover ln more)))) }

/-- The packet of VC3 that carries `q`. -/
def Lnk.vc3Packet (l : Lnk) (q : LinkPacket) : List Block := packet 3 7 q.kind l.seq3 (field l.lastFs 15 0) 0 false q.words

/-- The link with the packets `rest` left to VC3. -/
def Lnk.vc3Taken (l : Lnk) (rest : List LinkPacket) : Lnk := { l with vc3 := rest, seq3 := (l.seq3 + 1) % 16384 }

/-- A unit of another channel is no longer owed. -/
def Lnk.oweNone (l : Lnk) : Lnk := { l with owe := false }

section
variable {d : Dev} {idle : Nat} {c : TxFrame} {ln : OutLine} {more : List OutLine} (may : d.lnk.MaySend idle c) (owe : d.lnk.owe = false)
  (sending : c.Sending ln more)
include may owe sending

/-- A line before the last. -/
theorem Dev.frameBoundary_more (hmore : more ≠ []) :
    d.frameBoundary idle none = (d.lineBegun idle c ln more).sendFrameLink (c.linePacket ln) := by
  rw [Dev.frameBoundary_line may owe sending, List.isEmpty_eq_false_iff.mpr hmore, Dev.lineBegun_whole may,
    Dev.packetDone_more 0 (Dev.lineBegun_early may _)]

/-- A line before the last whose words are missing: what is there of it is sent, and past its first block that is an underrun (R253). -/
theorem Dev.frameBoundary_stalls (hmore : more ≠ []) {n : Nat} (short : n < (c.linePacket ln).length) :
    d.frameBoundary idle (some n) =
      (if 0 < n then (d.lineCut idle c ln more n).underrun 0 else d.lineCut idle c ln more n).onLnk
        (fun l => { l with stalled := some ⟨(c.linePacket ln).drop n, 0, false, 0⟩ }) := by
  rw [Dev.frameBoundary_line may owe sending, List.isEmpty_eq_false_iff.mpr hmore, Dev.sendPacket_stalls 0 0 false (Dev.lineBegun_pv may) short,
    Dev.lineBegun_marked may, Nat.zero_sub]
  rfl

/-- The last line: the FE follows. -/
theorem Dev.frameBoundary_last (hmore : more = [])
    (early : (((d.lineBegun idle c ln more).sendFrameLink (c.linePacket ln)).sendFe0 (c.lineSent d.lkHoldover ln more)).lnk.endEarly = false) :
    d.frameBoundary idle none =
      ((d.lineBegun idle c ln more).sendFrameLink (c.linePacket ln)).sendFe0 (c.lineSent d.lkHoldover ln more) := by
  rw [Dev.frameBoundary_line may owe sending, List.isEmpty_iff.mpr hmore, Dev.lineBegun_whole may, Dev.packetDone_last (Dev.lineBegun_cur ..) early]

/-- The last line of a frame without a tag: FE and trailer follow, and the frame has left. -/
theorem Dev.frameBoundary_ends (hmore : more = []) (auth : c.auth = false) (after : c.after = .nothing) :
    ∃ t : Dev, d.frameBoundary idle none = t ∧ t.lnk.cur = none ∧
      t.lnk.k + t.lnk.behind.length = d.lnk.k + idle + (c.linePacket ln).length + 6 ∧
      t.rd R.LNK_FRAMES_SENT = satInc (d.rd R.LNK_FRAMES_SENT) ∧ t.rd R.LNK_LAST_FRAME = c.frame.num ∧ t.mem.words = d.mem.words := by
  obtain ⟨fe, six, fe0⟩ := ((d.lineBegun idle c ln more).sendFrameLink (c.linePacket ln)).sendFe0_plain (c := c.lineSent d.lkHoldover ln more) auth
  obtain ⟨cur, k, behind, endEarly, sent, last, -, words⟩ :=
    (((d.lineBegun idle c ln more).sendFrameLink (c.linePacket ln)).sendFrameLink fe).endVc0_spec (c := c.lineSent d.lkHoldover ln more) after
  rw [← fe0] at cur k behind endEarly sent last words
  have early := endEarly.trans ((Lnk.sendAll_endEarly _ fe).trans (Dev.lineBegun_early may _))
  refine ⟨_, Dev.frameBoundary_last may owe sending hmore early, cur, ?_, sent, last, words⟩
  rw [k, behind]
  refine (Lnk.sendAll_count _ fe).trans ?_
  rw [Dev.lineBegun_count may, six]

/-- The last line of a frame with a tag: its FE is held for SEC. -/
theorem Dev.frameBoundary_held (hmore : more = []) (auth : c.auth = true) :
    d.frameBoundary idle none =
      { d with lnk := Lnk.sendAll { d.lnk.gap idle with owe := true, cur := some (d.lineHeld idle c ln more) } (c.linePacket ln) } := by
  have held := ((d.lineBegun idle c ln more).sendFrameLink (c.linePacket ln)).sendFe0_held (c := c.lineSent d.lkHoldover ln more) auth
  have fe : ((d.lineBegun idle c ln more).sendFrameLink (c.linePacket ln)).fe0 (c.lineSent d.lkHoldover ln more) =
      ({ d with lnk := d.lnk.gap idle } : Dev).fe0 (c.lineSent d.lkHoldover ln more) := by
    obtain ⟨-, -, -, -, -, -, -, -, -, swap0, wide⟩ := Lnk.sendAll_frame (d.lineBegun idle c ln more).lnk (c.linePacket ln)
    unfold Dev.fe0
    rw [Dev.sendFrameLink_lnk, swap0, wide]
    rfl
  have early := (congrArg (fun t : Dev => t.lnk.endEarly) held).trans (Dev.lineBegun_early may (c.linePacket ln))
  rw [Dev.frameBoundary_last may owe sending hmore early, held, fe]
  exact congrArg (fun l => ({ d with lnk := l } : Dev)) (Lnk.sendAll_cur (d.lineBegun idle c ln more).lnk _ _).symm

end

/-- The oldest packet of VC3, with no preview frame in flight and no training to begin (R248). -/
theorem Dev.sideUnit_vc3 {g : Dev} {q : LinkPacket} {rest : List LinkPacket} (pv : g.lnk.pv = none) (early : g.lnk.endEarly = false)
    (queue : g.lnk.vc3 = q :: rest) : g.sideUnit 3 none = { g with lnk := (g.lnk.vc3Taken rest).sendAll (g.lnk.vc3Packet q) } := by
  have begun : g.sideUnit 3 none = (g.onLnk (·.vc3Taken rest)).sendPacket 3 false 0 (g.lnk.vc3Packet q) none := by
    unfold Dev.sideUnit
    rw [if_neg (by decide : ¬ 3 = 2)]
    dsimp only
    rw [queue]
    rfl
  have marked : (g.onLnk (·.vc3Taken rest)).markHoldover 3 = g.onLnk (·.vc3Taken rest) := by
    rw [Dev.markHoldover_eq (g.onLnk (·.vc3Taken rest)) 3 pv, Dev.curMarked, if_neg (fun h => absurd h.2 (by decide))]
  have goesOn : ((g.onLnk (·.vc3Taken rest)).sendFrameLink (g.lnk.vc3Packet q)).lnk.endEarly = false :=
    (Lnk.sendAll_endEarly (g.lnk.vc3Taken rest) _).trans early
  rw [begun, Dev.sendPacket_whole (s := g.onLnk (·.vc3Taken rest)) 3 0 false _ pv, marked, Dev.packetDone_more 3 goesOn]
  rfl

/-- The waiting packet of VC3, when a unit of another channel is owed (R248, R250). -/
theorem Dev.frameBoundary_vc3 {d : Dev} {idle : Nat} {c : TxFrame} {q : LinkPacket} {rest : List LinkPacket} (may : d.lnk.MaySend idle c)
    (owe : d.lnk.owe = true) (enabled : bit (d.rd R.LNK_CTRL) 0 = true) (vc3 : d.lnk.vc3 = q :: rest) :
    d.frameBoundary idle none = d.onLnk fun l =>
      Lnk.sendAll { l.gap idle with owe := false, vc3 := rest, seq3 := (l.seq3 + 1) % 16384 } (l.vc3Packet q) := by
  obtain ⟨-, -, gapEarly, gapPv, -, -, gapVc3, gapSeq, gapFs, -⟩ := d.lnk.gap_frame idle
  have carried : (d.lnk.gap idle).oweNone.vc3Packet q = d.lnk.vc3Packet q := by
    show packet 3 7 q.kind (d.lnk.gap idle).seq3 (field (d.lnk.gap idle).lastFs 15 0) 0 false q.words = _
    rw [gapSeq, gapFs]
    rfl
  have taken : (d.lnk.gap idle).oweNone.vc3Taken rest = { d.lnk.gap idle with owe := false, vc3 := rest, seq3 := (d.lnk.seq3 + 1) % 16384 } :=
    congrArg (fun k => ({ d.lnk.gap idle with owe := false, vc3 := rest, seq3 := (k + 1) % 16384 } : Lnk)) gapSeq
  have waits : (bit (d.rd R.LNK_CTRL) 0 && !(d.lnk.gap idle).vc3.isEmpty) = true := by
    rw [enabled, gapVc3, vc3]
    rfl
  have other : ({ d with lnk := (d.lnk.gap idle).oweNone } : Dev).otherUnit none =
      (true, ({ d with lnk := (d.lnk.gap idle).oweNone } : Dev).sideUnit 3 none) := if_pos waits
  rw [Dev.frameBoundary_unit may, owe]
  show (if (({ d with lnk := (d.lnk.gap idle).oweNone } : Dev).otherUnit none).1 then
    (({ d with lnk := (d.lnk.gap idle).oweNone } : Dev).otherUnit none).2 else _) = _
  rw [other, if_pos rfl, Dev.sideUnit_vc3 (gapPv.trans may.pv) (gapEarly.trans may.endEarly) (gapVc3.trans vc3), taken, carried]
  rfl

/-- The link as a held packet goes on: it is held no longer. -/
def Lnk.resumed (l : Lnk) : Lnk := { l with sent := [], stalled := none }

/-- The held rest of a packet goes on after the gap (R253). -/
theorem Dev.payloadReady_goesOn {d : Dev} (idle : Nat) {r : Rest} (free : d.lnk.mustMark = false) (held : d.lnk.stalled = some r)
    (last : r.last = false) (early : d.lnk.endEarly = false) (pv : d.lnk.pv = none) :
    d.payloadReady false idle none = { d.markHoldover r.vc with
      lnk := (d.markHoldover r.vc).lnk.resumed.sendAll (List.replicate idle idleBlock ++ r.blocks) } := by
  obtain ⟨-, -, gapEarly, gapPv, gapCur, -⟩ := d.lnk.resumed.sendAll_frame (List.replicate idle idleBlock)
  have begun : d.payloadReady false idle none =
      ({ d with lnk := d.lnk.resumed.sendAll (List.replicate idle idleBlock) } : Dev).sendPacket r.vc r.last r.lead r.blocks none := by
    unfold Dev.payloadReady
    rw [if_neg Bool.false_ne_true]
    show (match d.lnk.stalled with
      | some r => if d.lnk.mustMark then _ else _
      | none => _) = _
    rw [held, free]
    rfl
  generalize hg : ({ d with lnk := d.lnk.resumed.sendAll (List.replicate idle idleBlock) } : Dev) = g at begun
  have gLnk : g.lnk = d.lnk.resumed.sendAll (List.replicate idle idleBlock) := hg ▸ rfl
  have gPv : g.lnk.pv = none := by rw [gLnk, gapPv]; exact pv
  have cur : g.curMarked r.vc = d.curMarked r.vc := by
    unfold Dev.curMarked
    rw [gLnk, gapCur, ← hg]
    rfl
  have goesOn : ((g.markHoldover r.vc).sendFrameLink r.blocks).lnk.endEarly = false := by
    rw [g.markHoldover_eq r.vc gPv]
    exact (Lnk.sendAll_endEarly _ r.blocks).trans ((congrArg Lnk.endEarly gLnk).trans (gapEarly.trans early))
  have resumed : (d.markHoldover r.vc).lnk.resumed = { d.lnk.resumed with cur := d.curMarked r.vc } := by
    rw [d.markHoldover_eq r.vc pv]
    rfl
  rw [begun, last, Dev.sendPacket_whole r.vc r.lead false r.blocks gPv, Dev.packetDone_more r.vc goesOn, resumed, Lnk.sendAll_append,
    Lnk.sendAll_cur d.lnk.resumed, g.markHoldover_eq r.vc gPv, d.markHoldover_eq r.vc pv, cur, gLnk, ← hg]
  rfl

theorem Dev.payloadReady_nothing {d : Dev} (idle : Nat) (held : d.lnk.stalled = none) :
    d.payloadReady false idle none = { d with lnk := { d.lnk with sent := [] } } := by
  unfold Dev.payloadReady
  rw [if_neg Bool.false_ne_true]
  show (match d.lnk.stalled with
    | some r => _
    | none => _) = _
  rw [held]
  rfl

/-! ### The start of a preview frame (R256) -/

theorem Dev.previewStart_starts {d : Dev} {b : Fin 2} (pv : d.lnk.pv = none) (next : d.pip.nextBuf = some b)
    (enabled : bit (d.rd R.LNK_PV_CTRL) 0 = true) (link : bit (d.rd R.LNK_CTRL) 0 = true)
    (trained : d.pathUp (field (d.rd R.LNK_PV_CTRL) 2 1) = true) (notDown : d.lnk.state ≠ 3)
    (past : ∀ t, d.lnk.lastPvFs = some t → t + (d.rd R.LNK_PV_INTERVAL).toNat ≤ d.tick) :
    d.previewStart = (let y := d.setBuf b { d.pip.bufs[b] with st := .sending }
      { y with lnk := { y.lnk with pv := some { buf := b, route := field (d.rd R.LNK_PV_CTRL) 2 1 },
                                   copyBusy := field (d.rd R.LNK_PV_CTRL) 2 1 == 2 } }) := by
  have may : (d.bt R.LNK_PV_CTRL 0 && d.bt R.LNK_CTRL 0 && d.lnk.state != 3 && d.pathUp (d.fd R.LNK_PV_CTRL 2 1)) = true := by
    show (bit (d.rd R.LNK_PV_CTRL) 0 && bit (d.rd R.LNK_CTRL) 0 && d.lnk.state != 3 && d.pathUp (field (d.rd R.LNK_PV_CTRL) 2 1)) = true
    rw [enabled, link, trained, bne_iff_ne.mpr notDown]
    rfl
  unfold Dev.previewStart
  rw [pv, next]
  dsimp only
  rw [if_pos may]
  cases fs : d.lnk.lastPvFs with
  | none => rfl
  | some t =>
    have now : d.to (t + (d.rd R.LNK_PV_INTERVAL).toNat) = d := if_neg (Nat.not_lt.mpr (past t fs))
    dsimp only
    rw [now]
    rfl

theorem Dev.previewStart_stays {d : Dev} (h : d.lnk.pv.isSome = true ∨ d.lnk.state = 3 ∨ d.pip.nextBuf = none ∨
    bit (d.rd R.LNK_PV_CTRL) 0 = false ∨ bit (d.rd R.LNK_CTRL) 0 = false) : d.previewStart = d := by
  unfold Dev.previewStart
  dsimp only
  split
  · next pvNone nextSome =>
    refine if_neg fun taken => ?_
    simp only [Bool.and_eq_true, bne_iff_ne] at taken
    obtain ⟨⟨⟨enabled, link⟩, notDown⟩, -⟩ := taken
    rcases h with sending | down | noImage | off | off
    · rw [pvNone] at sending
      exact absurd sending (by decide)
    · exact notDown down
    · rw [nextSome] at noImage
      cases noImage
    · exact Bool.false_ne_true (off.symm.trans enabled)
    · exact Bool.false_ne_true (off.symm.trans link)
  · rfl

/-! ### The commands of the frame link -/

theorem exec_linkPacketBoundary (s : State) (idle : Nat) (stall : Option Nat) (light : s.dev.dark = false) :
    exec (.linkPacketBoundary false idle stall) s = s.goes (s.dev.hold.frameBoundary idle stall) :=
  s.onRun_light (·.frameBoundary idle stall) light

theorem exec_linkPayloadReady (s : State) (idle : Nat) (stall : Option Nat) (light : s.dev.dark = false) :
    exec (.linkPayloadReady false idle stall) s = s.goes (s.dev.hold.payloadReady false idle stall) :=
  s.onRun_light (·.payloadReady false idle stall) light

/-- A happening that finds nothing to do is one also while the device is dark. -/
theorem State.onRun_stays (s : State) {f : Dev → Dev} (h : f s.dev.hold = s.dev.hold) : s.onRun f = s.stays := by
  cases dark : s.dev.dark with
  | true => exact s.onRun_dark f dark
  | false =>
    rw [s.onRun_light f dark, h]
    rfl

/-- Settles O44: a packet boundary begins the line of the frame in flight (`Dev.frameBoundary_line`) or sends the packet of VC3 that is owed
(`Dev.frameBoundary_vc3`); what follows the last line is `Dev.frameBoundary_ends` and `Dev.frameBoundary_held`. -/
theorem linkSendsUnits : Obligations.LinkSendsUnits := by
  unfold Obligations.LinkSendsUnits
  intro s idle n c ln more q rest r b fe d l sendAll gap bs side room up c' put route
  have may : up → d.dark = false ∧ l.MaySend idle c ∧ l.owe = false ∧ c.Sending ln more := by
    rintro ⟨light, state, stalled, endEarly, pv, owe, cur, tagWait, ⟨free, room⟩, area, fsSent, rest, lens⟩
    exact ⟨light, ⟨state, stalled, endEarly, pv, cur, tagWait, free, room⟩, owe, area, fsSent, rest, lens⟩
  refine ⟨?_, ?_, ?_, ?_, ?_, ?_, ?_, ?_, ?_, ?_, ?_, ?_, ?_⟩
  · exact fun h => s.onRun_stays (Dev.frameBoundary_stays idle none h)
  · exact fun x blk => ⟨x.mustMark_iff, fun due => Lnk.stream_behind due blk, fun free => Lnk.stream_stripe free blk⟩
  · intro h hmore
    obtain ⟨light, may, owe, sending⟩ := may h
    rw [exec_linkPacketBoundary s idle _ light, Dev.frameBoundary_more may owe sending hmore]
    rfl
  · intro h hmore
    obtain ⟨light, may, owe, sending⟩ := may h
    rw [exec_linkPacketBoundary s idle _ light, Dev.frameBoundary_stalls may owe sending hmore (Nat.succ_pos _)]
    rfl
  · intro h hmore missing short
    obtain ⟨light, may, owe, sending⟩ := may h
    rw [exec_linkPacketBoundary s idle _ light, Dev.frameBoundary_stalls may owe sending hmore short, if_pos missing,
      Dev.underrun_vc0 (s := d.lineCut idle c ln more n) (Dev.lineBegun_cur ..)]
    rfl
  · intro h hmore auth after
    obtain ⟨light, may, owe, sending⟩ := may h
    obtain ⟨t, ran, ended⟩ := Dev.frameBoundary_ends may owe sending hmore auth after
    exact ⟨t, (exec_linkPacketBoundary s idle _ light).trans (congrArg s.goes ran), ended⟩
  · intro h hmore auth
    obtain ⟨light, may, owe, sending⟩ := may h
    rw [exec_linkPacketBoundary s idle _ light, Dev.frameBoundary_held may owe sending hmore auth]
    rfl
  · intro light cur held after
    obtain ⟨t, ran, left⟩ := Dev.tagReady_ends cur held after
    exact ⟨t, (s.onRun_light (·.tagReady) light).trans (congrArg s.goes ran), left⟩
  · intro light state stalled endEarly pv owe cur tagWait ⟨free, room⟩ enabled vc3
    rw [exec_linkPacketBoundary s idle _ light, Dev.frameBoundary_vc3 ⟨state, stalled, endEarly, pv, cur, tagWait, free, room⟩ owe enabled vc3]
    rfl
  · intro light free held last early pv
    rw [exec_linkPayloadReady s idle _ light, Dev.payloadReady_goesOn idle free held last early pv]
    rfl
  · intro light held
    rw [exec_linkPayloadReady s idle _ light, Dev.payloadReady_nothing idle held]
  · intro light pv next enabled link trained notDown past
    exact (s.onRun_light (·.previewStart) light).trans
      (congrArg s.goes (Dev.previewStart_starts pv next enabled link trained notDown past))
  · exact fun h => s.onRun_stays (Dev.previewStart_stays h)

end Sys2Proof.Machine
end
